-- ==== Sys2Proof/Word.lean ====
section
/-! DEFINITION. The word types of the RZ-4120 (bytes, 16-bit and 32-bit fields, spec/11 R209), the two fixed-size
tables of numbered objects (four outputs, links and channels; eight streams, spec/00 section 5.2), and the plain
input types that commands carry. -/

namespace Sys2Proof

/-- A byte of a message. -/
abbrev Byte := BitVec 8

/-- A 16-bit field or counter. -/
abbrev Half := BitVec 16

/-- A 32-bit field, sequence number or reading of the time base. -/
abbrev Word := BitVec 32

/-- One thing per output, link or power channel 0 to 3. -/
structure Four (α : Type) where
  c0 : α
  c1 : α
  c2 : α
  c3 : α
deriving DecidableEq, Repr

namespace Four

def fill {α : Type} (a : α) : Four α := ⟨a, a, a, a⟩

def get {α : Type} (v : Four α) (i : Fin 4) : α :=
  match i with
  | 0 => v.c0
  | 1 => v.c1
  | 2 => v.c2
  | 3 => v.c3

def set {α : Type} (v : Four α) (i : Fin 4) (a : α) : Four α :=
  match i with
  | 0 => { v with c0 := a }
  | 1 => { v with c1 := a }
  | 2 => { v with c2 := a }
  | 3 => { v with c3 := a }

def map {α β : Type} (f : α → β) (v : Four α) : Four β := ⟨f v.c0, f v.c1, f v.c2, f v.c3⟩

/-- The four in order of number. -/
def toList {α : Type} (v : Four α) : List α := [v.c0, v.c1, v.c2, v.c3]

end Four

/-- One thing per stream 0 to 7. -/
structure Eight (α : Type) where
  c0 : α
  c1 : α
  c2 : α
  c3 : α
  c4 : α
  c5 : α
  c6 : α
  c7 : α
deriving DecidableEq, Repr

namespace Eight

def fill {α : Type} (a : α) : Eight α := ⟨a, a, a, a, a, a, a, a⟩

def get {α : Type} (v : Eight α) (i : Fin 8) : α :=
  match i with
  | 0 => v.c0
  | 1 => v.c1
  | 2 => v.c2
  | 3 => v.c3
  | 4 => v.c4
  | 5 => v.c5
  | 6 => v.c6
  | 7 => v.c7

def set {α : Type} (v : Eight α) (i : Fin 8) (a : α) : Eight α :=
  match i with
  | 0 => { v with c0 := a }
  | 1 => { v with c1 := a }
  | 2 => { v with c2 := a }
  | 3 => { v with c3 := a }
  | 4 => { v with c4 := a }
  | 5 => { v with c5 := a }
  | 6 => { v with c6 := a }
  | 7 => { v with c7 := a }

def map {α β : Type} (f : α → β) (v : Eight α) : Eight β :=
  ⟨f v.c0, f v.c1, f v.c2, f v.c3, f v.c4, f v.c5, f v.c6, f v.c7⟩

/-- The eight in order of number. -/
def toList {α : Type} (v : Eight α) : List α := [v.c0, v.c1, v.c2, v.c3, v.c4, v.c5, v.c6, v.c7]

end Eight

/-- Every output, link and channel number, in order. -/
def allFour : List (Fin 4) := [0, 1, 2, 3]

/-- Every stream number, in order. -/
def allEight : List (Fin 8) := [0, 1, 2, 3, 4, 5, 6, 7]

/-- The current cap that a channel's straps select (R155). -/
inductive Cap where
  | ma400
  | ma600
  | ma800
  | ma1000
deriving DecidableEq, Repr

/-- The cap in mA. -/
def Cap.milliamps : Cap → Nat
  | .ma400 => 400
  | .ma600 => 600
  | .ma800 => 800
  | .ma1000 => 1000

/-- The supply as its comparators see it (R155): good is at least 9.0 V, low is below 8.5 V. -/
inductive Supply where
  | good
  | between
  | low
deriving DecidableEq, Repr

end Sys2Proof
end

