-- ==== Sys2Proof/Machine/Crc.lean ====
section
/-! DEFINITION. The three CRCs of the part (R194, R210, R180): most significant bit first, register all ones at the
start, nothing reflected. -/

namespace Sys2Proof.Machine

/-- The register after one bit is shifted out. -/
def crcBit {w : Nat} (poly c : BitVec w) : BitVec w :=
  match c.msb with
  | true => (c <<< 1) ^^^ poly
  | false => c <<< 1

/-- The register after `n` bits. -/
def crcBits {w : Nat} (poly : BitVec w) : Nat → BitVec w → BitVec w
  | 0, c => c
  | n + 1, c => crcBits poly n (crcBit poly c)

/-- The register after one byte, its most significant bit first. -/
def crcByte {w : Nat} (poly c : BitVec w) (b : Byte) : BitVec w :=
  crcBits poly 8 (c ^^^ (b.setWidth w <<< (w - 8)))

/-- The register after a byte string, started with all ones. -/
def crcBytes {w : Nat} (poly : BitVec w) (bytes : List Byte) : BitVec w :=
  bytes.foldl (crcByte poly) (BitVec.allOnes w)

/-- CRC-8 of control frames (R194). -/
def crc8 (bytes : List Byte) : Byte := crcBytes 0x07#8 bytes

/-- CRC-16 of lines and status records (R210). -/
def crc16 (bytes : List Byte) : Half := crcBytes 0x1021#16 bytes

/-- CRC-32 of the safety window, inverted at the end (R180). -/
def crc32 (bytes : List Byte) : Word := ~~~ crcBytes 0x04C11DB7#32 bytes

end Sys2Proof.Machine
end

