-- ==== Sys2Proof/Config.lean ====
section
/-! DEFINITION. The fixed quantities of the part (spec/00 section 5) and the values the manual leaves open. -/

namespace Sys2Proof

/-- Bytes of one frame store segment, 4 MiB (R1). -/
def Config.segmentBytes : Nat := 4194304

/-- Segments of the frame store (R1). -/
def Config.segmentCount : Nat := 32

/-- One millisecond of the time base, which counts µs (spec/00 section 5.3). -/
def Config.ms : Nat := 1000

/-- FREE VALUE (entry 13). What bytes 28 and 29 of an OUTPUT_STATUS reply show for a last phase error that two signed
bytes cannot hold: R90 and spec/11 state none. -/
opaque Config.phaseErrorField : Int → Half

/-- FREE VALUE (entry 13). What bytes 24 and 25 of a POWER_STATUS reply show for a total above 65535 mA: R173 and
spec/11 state none. -/
opaque Config.totalField : Nat → Half

end Sys2Proof
end

