-- ==== Sys2Proof/Syntax.lean ====
section
/-! DEFINITION. The commands: one constructor per row of spec/opcode_table.json.

Operands. `dt` is the time in µs that passes between the command before and this one (entry 1). A timer expiry carries
no `dt`: time passes until that timer has run out (entry 2). A request row carries the tag and the body bytes of a
well-framed request of its kind (R209). `bytes` is a whole write transaction, packet or record. -/

namespace Sys2Proof

inductive Instr where
  -- device, control port
  | deviceReset (caps : Four Cap) (reading : Int)
  | storeTestDone (dt : Nat) (failing : Word)
  | initExpiry
  | readTransaction (dt clocked : Nat)
  | badFrame (dt : Nat) (bytes : List Byte)
  | unknownKind (dt : Nat) (kind tag : Byte) (body : List Byte)
  | wake (dt : Nat) (bytes : List Byte)
  | wakeWindowExpiry
  | identify (dt : Nat) (tag : Byte) (body : List Byte)
  | deviceStatus (dt : Nat) (tag : Byte) (body : List Byte)
  | setModeRun (dt : Nat) (tag : Byte) (body : List Byte)
  | setModeStandby (dt : Nat) (tag : Byte) (body : List Byte)
  | setModeSleep (dt : Nat) (tag : Byte) (body : List Byte)
  | softReset (dt : Nat) (tag : Byte) (body : List Byte)
  | noticeFetch (dt : Nat) (tag : Byte) (body : List Byte)
  | noticeMask (dt : Nat) (tag : Byte) (body : List Byte)
  -- streams and store
  | streamOpen (dt : Nat) (tag : Byte) (body : List Byte)
  | streamClose (dt : Nat) (tag : Byte) (body : List Byte)
  | streamRearm (dt : Nat) (tag : Byte) (body : List Byte)
  | streamStatus (dt : Nat) (tag : Byte) (body : List Byte)
  | storeMap (dt : Nat) (tag : Byte) (body : List Byte)
  | frameStart (dt : Nat) (stream : Byte) (number : Half)
  | line (dt : Nat) (stream : Byte) (index count : Half) (pixels : List Byte) (crc : Half)
  | frameEnd (dt : Nat) (stream : Byte) (count : Half)
  | strayPacket (dt : Nat) (bytes : List Byte)
  | frameTimeoutExpiry (stream : Fin 8)
  | temperatureSample (dt : Nat) (reading : Int)
  -- routes, timing, outputs, integrity
  | routeSet (dt : Nat) (tag : Byte) (body : List Byte)
  | routeClear (dt : Nat) (tag : Byte) (body : List Byte)
  | timingSet (dt : Nat) (tag : Byte) (body : List Byte)
  | outputControlOn (dt : Nat) (tag : Byte) (body : List Byte)
  | outputControlOff (dt : Nat) (tag : Byte) (body : List Byte)
  | outputControlPause (dt : Nat) (tag : Byte) (body : List Byte)
  | outputControlResume (dt : Nat) (tag : Byte) (body : List Byte)
  | lockSet (dt : Nat) (tag : Byte) (body : List Byte)
  | outputStatus (dt : Nat) (tag : Byte) (body : List Byte)
  | verticalStart (output : Fin 4)
  | crcInject (dt : Nat) (tag : Byte) (body : List Byte)
  | integrityClear (dt : Nat) (tag : Byte) (body : List Byte)
  | integrityStatus (dt : Nat) (tag : Byte) (body : List Byte)
  -- links, back channel, remote devices, touch
  | linkPolicy (dt : Nat) (tag : Byte) (body : List Byte)
  | linkControlEnable (dt : Nat) (tag : Byte) (body : List Byte)
  | linkControlDisable (dt : Nat) (tag : Byte) (body : List Byte)
  | linkControlRetrain (dt : Nat) (tag : Byte) (body : List Byte)
  | linkStatus (dt : Nat) (tag : Byte) (body : List Byte)
  | backchannelWaitExpiry (link : Fin 4)
  | halfDwellPoint (link : Fin 4)
  | dwellExpiry (link : Fin 4)
  | silenceTimerExpiry (link : Fin 4)
  | errorWindowExpiry (link : Fin 4)
  | retryTimerExpiry (link : Fin 4)
  | statusRecord (dt : Nat) (link : Fin 4) (bytes : List Byte)
  | screenStatus (dt : Nat) (tag : Byte) (body : List Byte)
  | aliasSet (dt : Nat) (tag : Byte) (body : List Byte)
  | aliasClear (dt : Nat) (tag : Byte) (body : List Byte)
  | remoteWrite (dt : Nat) (tag : Byte) (body : List Byte)
  | remoteRead (dt : Nat) (tag : Byte) (body : List Byte)
  | remoteResult (dt : Nat) (tag : Byte) (body : List Byte)
  | remoteWatchdogExpiry (link : Fin 4) (toggle : Bool)
  | touchFetch (dt : Nat) (tag : Byte) (body : List Byte)
  -- coax power
  | powerPolicy (dt : Nat) (tag : Byte) (body : List Byte)
  | powerControlOn (dt : Nat) (tag : Byte) (body : List Byte)
  | powerControlOff (dt : Nat) (tag : Byte) (body : List Byte)
  | powerControlClear (dt : Nat) (tag : Byte) (body : List Byte)
  | powerBudget (dt : Nat) (tag : Byte) (body : List Byte)
  | powerStatus (dt : Nat) (tag : Byte) (body : List Byte)
  | currentSample (dt : Nat) (channel : Fin 4) (milliamps : Half) (supply : Supply)
  | undervoltageFault (dt : Nat) (channel : Fin 4)
  | backdriveBegin (dt : Nat) (channel : Fin 4)
  | backdriveEnd (dt : Nat) (channel : Fin 4)
  | backdriveFault (channel : Fin 4)
  | supplyGood (dt : Nat)
  | dischargeExpiry (channel : Fin 4)
  | coolDownExpiry (channel : Fin 4)
  | activeTimerExpiry (channel : Fin 4)
  | overBudgetTimerExpiry
  | underBudgetTimerExpiry
deriving DecidableEq, Repr

end Sys2Proof
end

