-- ==== Sys2Proof/Decode.lean ====
section
/-! DEFINITION. Reading messages: fields (R209), the framing of requests (R194), request kinds (11.2), video packets
(R210), and the command a table word spells. -/

namespace Sys2Proof

/-! ### Fields -/

def byteAt (body : List Byte) (i : Nat) : Byte := body.getD i 0

/-- A little-endian 16-bit field (R209). -/
def half (body : List Byte) (i : Nat) : Half := byteAt body (i + 1) ++ byteAt body i

/-- A little-endian 32-bit field (R209). -/
def word (body : List Byte) (i : Nat) : Word := half body (i + 2) ++ half body i

/-- The two bytes of a 16-bit field, low byte first. -/
def halfBytes (v : Half) : List Byte := [v.setWidth 8, (v >>> 8).setWidth 8]

/-- The four bytes of a 32-bit field, low byte first. -/
def wordBytes (v : Word) : List Byte := halfBytes (v.setWidth 16) ++ halfBytes ((v >>> 16).setWidth 16)

/-- A yes/no field; none out of range (R209). -/
def yesNo? (b : Byte) : Option Bool := if b = 0 then some false else if b = 1 then some true else none

/-- A number of one of four objects; none above 3. -/
def four? (b : Byte) : Option (Fin 4) := if h : b.toNat < 4 then some ⟨b.toNat, h⟩ else none

/-- A number of one of eight streams; none above 7. -/
def eight? (b : Byte) : Option (Fin 8) := if h : b.toNat < 8 then some ⟨b.toNat, h⟩ else none

/-! ### Request kinds -/

/-- The kinds of request (11.2). -/
inductive RequestKind where
  | identify
  | deviceStatus
  | setMode
  | softReset
  | noticeFetch
  | noticeMask
  | streamOpen
  | streamClose
  | streamRearm
  | streamStatus
  | storeMap
  | routeSet
  | routeClear
  | timingSet
  | outputControl
  | lockSet
  | outputStatus
  | crcInject
  | integrityClear
  | integrityStatus
  | linkPolicy
  | linkControl
  | linkStatus
  | screenStatus
  | aliasSet
  | aliasClear
  | remoteWrite
  | remoteRead
  | remoteResult
  | touchFetch
  | powerPolicy
  | powerControl
  | powerBudget
  | powerStatus
deriving DecidableEq, Repr

/-- Every kind with its code, in the order of 11.2. -/
def RequestKind.codes : List (Nat × RequestKind) :=
  List.flatten [[(1, .identify), (2, .deviceStatus), (3, .setMode), (4, .softReset), (5, .noticeFetch), (6, .noticeMask)],
  [(16, .streamOpen), (17, .streamClose), (18, .streamRearm), (19, .streamStatus), (20, .storeMap)],
  [(32, .routeSet), (33, .routeClear), (34, .timingSet), (35, .outputControl), (36, .lockSet), (37, .outputStatus),
   (38, .crcInject), (39, .integrityClear), (40, .integrityStatus)],
  [(48, .linkPolicy), (49, .linkControl), (50, .linkStatus), (51, .screenStatus), (52, .aliasSet), (53, .aliasClear),
   (54, .remoteWrite), (55, .remoteRead), (56, .remoteResult), (57, .touchFetch)],
  [(64, .powerPolicy), (65, .powerControl), (66, .powerBudget), (67, .powerStatus)]]

/-- The kind that a kind byte names; none where it names no request (R195). -/
def RequestKind.ofCode? (b : Byte) : Option RequestKind :=
  (RequestKind.codes.find? (fun p => p.1 == b.toNat)).map Prod.snd

/-- The kind code of a request (11.2). -/
def RequestKind.code (k : RequestKind) : Byte :=
  match RequestKind.codes.find? (fun p => decide (p.2 = k)) with
  | some p => BitVec.ofNat 8 p.1
  | none => 0

/-- Is the body length right for the kind (R209, 11.2)? A class byte other than 0 and 1 leaves both lengths of ROUTE_SET
to the Route Table. -/
def RequestKind.lengthOk (k : RequestKind) (body : List Byte) : Bool :=
  let n := body.length
  match k with
  | .identify | .deviceStatus | .softReset | .noticeFetch | .storeMap => n == 0
  | .setMode | .streamClose | .streamRearm | .streamStatus | .routeClear | .outputStatus | .integrityClear
  | .integrityStatus | .linkStatus | .screenStatus | .aliasClear | .remoteResult | .touchFetch | .powerStatus => n == 1
  | .outputControl | .crcInject | .linkControl | .powerControl => n == 2
  | .remoteRead => n == 3
  | .noticeMask | .aliasSet | .powerBudget => n == 4
  | .lockSet => n == 6
  | .linkPolicy => n == 10
  | .powerPolicy => n == 11
  | .timingSet => n == 13
  | .streamOpen => n == 14
  | .routeSet =>
    match (byteAt body 24).toNat with
    | 0 => n == 25
    | 1 => n == 38
    | _ => n == 25 || n == 38
  | .remoteWrite => decide (3 ≤ n) && n == 3 + (byteAt body 2).toNat

/-! ### Framing of a write transaction -/

/-- What the framing checks make of the bytes of a write transaction (R194). -/
inductive Framed where
  | good (kind tag : Byte) (body : List Byte)
  | bad (kind tag : Byte)
deriving DecidableEq, Repr

/-- The kind and tag as received: the second and third byte, or 0 for both (R194, R203). -/
def receivedTags (bytes : List Byte) : Byte × Byte :=
  if bytes.length < 3 then (0, 0) else (byteAt bytes 1, byteAt bytes 2)

/-- The framing checks of R194, in order. A transaction above 253 bytes fails the second, so the bytes the part does not
store (R193) are not looked at. -/
def frameCheck (bytes : List Byte) : Framed :=
  let n := bytes.length
  let l := (byteAt bytes 3).toNat
  let bad := Framed.bad (receivedTags bytes).1 (receivedTags bytes).2
  if byteAt bytes 0 ≠ 0x5A#8 then bad
  else if n < 4 ∨ 248 < l ∨ n ≠ l + 5 then bad
  else if Machine.crc8 (bytes.take (l + 4)) ≠ byteAt bytes (l + 4) then bad
  else .good (byteAt bytes 1) (byteAt bytes 2) ((bytes.drop 4).take l)

/-- The request frame of a kind, a tag and a body (11.1). -/
def encodeRequest (kind tag : Byte) (body : List Byte) : List Byte :=
  let covered := [0x5A#8, kind, tag, BitVec.ofNat 8 body.length] ++ body
  covered ++ [Machine.crc8 covered]

/-! ### Video packets -/

/-- A video packet as the input port delivers it (11.4). -/
inductive Packet where
  | frameStart (stream : Byte) (number : Half)
  | line (stream : Byte) (index count : Half) (pixels : List Byte) (crc : Half)
  | frameEnd (stream : Byte) (count : Half)
  | stray
deriving DecidableEq, Repr

/-- Reads a packet. A type byte that names no kind, or a packet shorter than its fixed part, is stray (R210). -/
def readPacket (bytes : List Byte) : Packet :=
  let n := bytes.length
  let stream := byteAt bytes 1
  match (byteAt bytes 0).toNat with
  | 1 => if n < 4 then .stray else .frameStart stream (half bytes 2)
  | 2 =>
    if n < 8 then .stray
    else .line stream (half bytes 2) (half bytes 4) ((bytes.drop 6).take (n - 8)) (half bytes (n - 2))
  | 3 => if n < 4 then .stray else .frameEnd stream (half bytes 2)
  | _ => .stray

/-! ### Table words -/

/-- The command that a word spells by the bits of spec/opcode_table.json: no row of this block's table gives bits, so no
word spells a command. -/
def decodeTableWord (_nbits _w : Nat) : Option Instr := none

end Sys2Proof
end

