-- ==== Sys2Proof/Machine/State.lean ====
section
/-! DEFINITION. The state of the RZ-4120 as plain data, and the state right after device reset. The numbers in brackets
name the rule of spec/ that gives the piece of state; INVENTORY.md lists them all. -/

namespace Sys2Proof.Machine

/-- No rule of the spec stops the part, so no command faults. -/
inductive Fault where
deriving DecidableEq, Repr

/-- Why a command has no meaning. -/
inductive Refusal where
  /-- Raised by an arm of `exec` whose command has no meaning yet (safe: nothing is claimed). No arm raises it. -/
  | notModelled (mnemonic : String)
deriving DecidableEq, Repr

/-- µs left of a running timer; none when it does not run (spec/00 section 5.3). -/
abbrev Timer := Option Nat

/-! ### Control Port (spec/10) -/

/-- Device mode (10.4). -/
inductive Mode where
  | init
  | standby
  | run
  | sleep
deriving DecidableEq, Repr

/-- Reply status (R195). -/
inductive Status where
  | ok
  | accepted
  | empty
  | badFrame
  | unknownKind
  | badArg
  | wrongState
  | noRoom
  | overBudget
  | busy
  | initializing
  | waking
  | storeFault
deriving DecidableEq, Repr

/-- A reply in the reply holder (R196); marker, length and CRC-8 are added as it is sent. -/
structure Reply where
  kind : Byte
  tag : Byte
  status : Status
  body : List Byte
deriving DecidableEq, Repr

/-- Notice kinds in the order of their codes 1 to 19 (10.3.1). -/
inductive NoticeKind where
  | resetDone
  | modeChanged
  | thermal
  | powerBudget
  | streamErrors
  | streamOverrun
  | streamTimeout
  | routeApplied
  | outputTier
  | lockState
  | stale
  | fresh
  | integrity
  | fallbackMissing
  | linkState
  | remoteDone
  | touch
  | screenStatus
  | powerState
deriving DecidableEq, Repr

/-- One entry of the Notice Table (R197). -/
structure Notice where
  kind : NoticeKind
  object : Nat
  count : Nat
deriving DecidableEq, Repr

/-! ### Frame Store and Input Port (spec/01, spec/02) -/

/-- Thermal state (R19). -/
inductive Thermal where
  | cool
  | hot
  | critical
  | shutdown
deriving DecidableEq, Repr

/-- Result of the store test (R24). -/
inductive InitResult where
  | ok
  | storeFault
deriving DecidableEq, Repr

/-- A slot of an open stream (R1). -/
structure SlotRef where
  stream : Fin 8
  index : Fin 4
deriving DecidableEq, Repr

/-- A slot's state; seq is present only while READY (R5). -/
inductive Slot where
  | empty
  | filling
  | ready (seq : Word)
deriving DecidableEq, Repr

inductive Format where
  | rgb888
  | rgb565
deriving DecidableEq, Repr

inductive StreamKind where
  | video
  | still
deriving DecidableEq, Repr

inductive Priority where
  | high
  | low
deriving DecidableEq, Repr

/-- Damaged policy: DROP or SHOW (R27). -/
inductive DamagedPolicy where
  | dropDamaged
  | showDamaged
deriving DecidableEq, Repr

/-- Configuration of an open stream, with effective values (R27, R28). -/
structure StreamConfig where
  width : Nat
  height : Nat
  format : Format
  kind : StreamKind
  slotCount : Nat
  priority : Priority
  damagedPolicy : DamagedPolicy
  timeoutMs : Nat
  lineThreshold : Nat
  retain : Bool
deriving DecidableEq, Repr

/-- The frame in progress of a RECEIVING stream: write slot, expected line, damaged flag, frame timeout (R27, R44). -/
structure Incoming where
  slot : Fin 4
  expected : Nat
  damaged : Bool
  timeout : Nat
deriving DecidableEq, Repr

/-- State of an open stream (R27). -/
inductive StreamState where
  | idle
  | receiving (frame : Incoming)
  | fixed
deriving DecidableEq, Repr

/-- Decimation phase (R38). -/
inductive Phase where
  | accept
  | skip
deriving DecidableEq, Repr

/-- The nine read-to-clear counters of a stream (R27). -/
structure StreamCounters where
  accepted : Half
  published : Half
  damaged : Half
  overruns : Half
  decimated : Half
  timeouts : Half
  lineErrors : Half
  sourceGaps : Half
  refused : Half
deriving DecidableEq, Repr

/-- The record of an open stream (R27) with its slot pool (R5). A CLOSED stream has none. -/
structure Stream where
  config : StreamConfig
  state : StreamState
  slots : List Slot
  published : Word
  latest : Option (Fin 4)
  lastPublish : Option Word
  lastStart : Option Word
  lastNumber : Option Half
  periods : List Word
  stable : Bool
  phase : Phase
  decimating : Bool
  counts : StreamCounters
  lineLength : Bool
  lineCount : Bool
deriving DecidableEq, Repr

/-! ### Routes, timing, admission, integrity (spec/03, 04, 05, 09) -/

/-- A window on a canvas or a rectangle on a screen. -/
structure Rect where
  x : Nat
  y : Nat
  w : Nat
  h : Nat
deriving DecidableEq, Repr

structure Colour where
  r : Byte
  g : Byte
  b : Byte
deriving DecidableEq, Repr

/-- Source stream with its window and destination (R49). -/
structure Placement where
  stream : Fin 8
  window : Rect
  dest : Rect
deriving DecidableEq, Repr

inductive FaultAction where
  | notify
  | fallback
  | blank
deriving DecidableEq, Repr

/-- Safety part of a SAFETY route (R50). -/
structure SafetyPart where
  fallback : Option (Fin 8)
  timeoutMs : Nat
  window : Rect
  threshold : Nat
  action : FaultAction
deriving DecidableEq, Repr

/-- A route record (R49). The class is SAFETY exactly when the safety part is present. -/
structure Route where
  source : Option Placement
  background : Colour
  allow18 : Bool
  allowAlt : Bool
  holdAfter : Nat
  safety : Option SafetyPart
deriving DecidableEq, Repr

/-- A timing (R74). -/
structure Timing where
  pclk : Nat
  hActive : Nat
  hBlank : Nat
  vActive : Nat
  vBlank : Nat
deriving DecidableEq, Repr

/-- The state a SUSPENDED output takes when it resumes (R74). -/
inductive Resume where
  | scanning
  | paused
deriving DecidableEq, Repr

/-- Output state (R74, R78). -/
inductive OutputState where
  | off
  | scanning
  | paused
  | hold
  | suspended (resume : Resume)
deriving DecidableEq, Repr

/-- Content kind (R51): LIVE, REPEAT, FROZEN, FALLBACK, BACKGROUND. -/
inductive Content where
  | live
  | repeated
  | frozen
  | fallback
  | background
deriving DecidableEq, Repr

/-- Transmission tier (R93). -/
inductive Tier where
  | noTier
  | t24
  | t18
  | talt
  | blocked
deriving DecidableEq, Repr

/-- Lock state (R74). -/
inductive LockState where
  | free
  | seeking
  | locked
deriving DecidableEq, Repr

/-- Freshness, with the stale base while STALE (R176). -/
inductive Freshness where
  | waiting
  | fresh
  | stale (base : Word)
deriving DecidableEq, Repr

inductive IntegrityState where
  | clean
  | suspect
  | fault
deriving DecidableEq, Repr

/-- A record of the CRC queue (R176). -/
structure CrcRecord where
  seq : Half
  crc : Word
  injected : Bool
deriving DecidableEq, Repr

/-- The integrity context of an output with an applied SAFETY route (R176). -/
structure Context where
  freshness : Freshness
  age : Option Word
  integrity : IntegrityState
  blanked : Bool
  bad : Half
  good : Half
  queue : List CrcRecord
  inject : Nat
deriving DecidableEq, Repr

/-- The six comparison counters of an output (R176). -/
structure Comparisons where
  good : Half
  mismatch : Half
  missing : Half
  late : Half
  injected : Half
  noContext : Half
deriving DecidableEq, Repr

/-- An exact time of num / den µs (R82: frame boundaries are kept exactly). -/
structure Span where
  num : Nat
  den : Nat
deriving DecidableEq, Repr

/-- What the Route Table, Timing Generator, Admission and Integrity Checker keep for one output. -/
structure Output where
  state : OutputState
  timing : Option Timing
  stagedTiming : Option Timing
  starts : Word
  unchanged : Half
  lockOn : Bool
  lockTarget : Nat
  lock : LockState
  goodLocks : Nat
  badLocks : Nat
  phaseError : Int
  frameLines : Nat
  untilStart : Span
  route : Route
  stagedRoute : Option Route
  current : Option SlotRef
  content : Content
  lastShown : Option Word
  tier : Tier
  context : Option Context
  comparisons : Comparisons
deriving DecidableEq, Repr

/-! ### Links, remote devices, touch (spec/06, 07) -/

inductive Rate where
  | full
  | half
deriving DecidableEq, Repr

inductive RatePolicy where
  | auto
  | fullOnly
  | halfOnly
deriving DecidableEq, Repr

inductive StartPoint where
  | middle
  | low
deriving DecidableEq, Repr

/-- A link policy with effective values (R108). -/
structure LinkPolicy where
  driveMin : Nat
  driveMax : Nat
  start : StartPoint
  dwellMs : Nat
  twoStep : Bool
  candidateThreshold : Nat
  retrainThreshold : Nat
  rate : RatePolicy
deriving DecidableEq, Repr

/-- Link state (R107). -/
inductive LinkState where
  | disabled
  | waitPower
  | training
  | up
  | retrain
  | failed
deriving DecidableEq, Repr

inductive FailureCause where
  | noCause
  | noBackchannel
  | noSetting
deriving DecidableEq, Repr

/-- The candidate under way and what its search has left to try (R114 to R118): settings of this pass after it, rates of
the passes after this one, dwell timer, half-dwell timer, rx lock of the latest valid record since it began, and the
error sum once step 2 has begun. -/
structure Search where
  settings : List Nat
  rates : List Rate
  dwell : Nat
  halfDwell : Timer
  seen : Option Bool
  sum : Option Nat
deriving DecidableEq, Repr

/-- The fields of a screen configuration record; the window is present when the class is SAFETY (R128). -/
structure Configuration where
  depth : Nat
  pacing : Nat
  window : Option Rect
deriving DecidableEq, Repr

/-- Half indicator of a frame header (R212). -/
inductive HalfMark where
  | whole
  | first
  | second
deriving DecidableEq, Repr

/-- The frame or half whose lines go out in this output period, with all the Scaler forms its lines from (R66, R127). -/
structure TxFrame where
  seq : Half
  mark : HalfMark
  firstLine : Nat
  lines : Nat
  timing : Timing
  tier : Tier
  route : Route
  content : Content
  slot : Option SlotRef
deriving DecidableEq, Repr

/-- A request to a remote device: the data of a write, the count of a read (R141). -/
inductive RemoteRequest where
  | write (data : List Byte)
  | read (count : Nat)
deriving DecidableEq, Repr

inductive Origin where
  | host
  | posted
  | ration
deriving DecidableEq, Repr

/-- An entry of the awaiting list (R139). -/
structure Awaiting where
  toggle : Bool
  request : RemoteRequest
  origin : Origin
  watchdog : Nat
deriving DecidableEq, Repr

/-- Status of a result record (R148). -/
inductive ResultStatus where
  | noResult
  | pending
  | ok
  | nack
  | timeout
  | linkDown
  | checkError
deriving DecidableEq, Repr

inductive RemoteKind where
  | write
  | read
deriving DecidableEq, Repr

/-- The result record of a link (R148). -/
structure Result where
  status : ResultStatus
  kind : Option RemoteKind
  aliasNo : Byte
  posted : Bool
  offset : Byte
  data : List Byte
deriving DecidableEq, Repr

inductive TouchKind where
  | down
  | move
  | up
deriving DecidableEq, Repr

/-- A touch record (R149). -/
structure TouchRecord where
  contact : Nat
  kind : TouchKind
  x : Half
  y : Half
  time : Half
deriving DecidableEq, Repr

/-- What the Link Transmitter, Back Channel Receiver, Remote Transaction Unit and Touch Queue keep for one link. -/
structure Link where
  state : LinkState
  intent : Bool
  policy : LinkPolicy
  searchPolicy : LinkPolicy
  rate : Rate
  drive : Nat
  demoted : Bool
  history : List Word
  cause : FailureCause
  rxLock : Bool
  windowSum : Nat
  txSeq : Half
  halfPending : Bool
  lastConfig : Option Configuration
  retrains : Half
  symbolErrors : Word
  lockChanged : Bool
  search : Option Search
  backWait : Timer
  silence : Timer
  errorWindow : Timer
  retry : Timer
  sending : Option TxFrame
  forward : List (List Byte)
  badRecords : Half
  mirror : Four Byte
  mirrorChanged : Bool
  awaiting : List Awaiting
  nextToggle : Bool
  result : Result
  seqErrors : Half
  postedErrors : Half
  touch : List TouchRecord
  touchOverflow : Half
  touchLost : Half
  touchInvalid : Half
deriving DecidableEq, Repr

/-- An entry of the Alias Table (R137). -/
structure AliasEntry where
  aliasNo : Byte
  link : Fin 4
  address : Byte
  posted : Bool
deriving DecidableEq, Repr

/-! ### Coax power (spec/08) -/

inductive PowerMode where
  | auto
  | forced
deriving DecidableEq, Repr

inductive FaultHandling where
  | autoRecover
  | latch
deriving DecidableEq, Repr

/-- A ration action (R156). -/
structure RationAction where
  aliasNo : Byte
  offset : Byte
  engage : Byte
  restore : Byte
deriving DecidableEq, Repr

/-- A channel policy with effective values (R156). -/
structure PowerPolicy where
  mode : PowerMode
  limit : Nat
  handling : FaultHandling
  priority : Nat
  action : Option RationAction
deriving DecidableEq, Repr

/-- Discharge target (R154). -/
inductive Target where
  | off
  | detect
  | active
deriving DecidableEq, Repr

/-- Channel state, with the target while DISCHARGE (R154). -/
inductive ChannelState where
  | off
  | detect
  | active
  | discharge (target : Target)
  | fault
deriving DecidableEq, Repr

inductive PowerCause where
  | noCause
  | overcurrent
  | short
  | backdrive
  | undervoltage
  | thermal
deriving DecidableEq, Repr

inductive RationWrite where
  | engage
  | restore
deriving DecidableEq, Repr

/-- What the Coax Power Switch keeps for one channel (R154). `backdrive` is the comparator's present level (entry 20). -/
structure Channel where
  state : ChannelState
  intent : Bool
  policy : PowerPolicy
  cap : Cap
  current : Half
  cause : PowerCause
  faults : Half
  latched : Bool
  blip : Bool
  rationed : Bool
  lastByte : Option RationWrite
  pendingByte : Option RationWrite
  failedWrites : Half
  waiting : Bool
  dischargeTimer : Timer
  coolDown : Timer
  activeTimer : Timer
  blipHold : Timer
  attachRun : Nat
  removalRun : Nat
  overRun : Nat
  backdrive : Bool
deriving DecidableEq, Repr

/-! ### The whole part -/

/-- The state of the part. `spiOut` and each link's `forward` record what the part has driven out (entry 12). -/
structure State where
  mode : Mode
  timeBase : Word
  initTimer : Timer
  wakeWindow : Timer
  reply : Option Reply
  notices : List Notice
  mask : Word
  spiOut : List Byte
  segments : List (Option SlotRef)
  store : List Host.Cell
  temperature : Int
  thermal : Thermal
  thermalChanged : Bool
  initResult : InitResult
  storeTesting : Bool
  streams : Eight (Option Stream)
  stray : Half
  outputs : Four Output
  links : Four Link
  aliases : List AliasEntry
  channels : Four Channel
  supply : Supply
  budget : Nat
  boostThreshold : Nat
  level : Nat
  overTimer : Timer
  underTimer : Timer
  boost : Bool
  boostHold : Timer
  pending : List Instr
deriving DecidableEq, Repr

/-- The empty route (R51). -/
def emptyRoute : Route := ⟨none, ⟨0, 0, 0⟩, false, false, 0, none⟩

/-- An output after device reset or SOFT_RESET (R73, R92, R106, R192). -/
def Output.reset : Output where
  state := .off
  timing := none
  stagedTiming := none
  starts := 0
  unchanged := 0
  lockOn := false
  lockTarget := 0
  lock := .free
  goodLocks := 0
  badLocks := 0
  phaseError := 0
  frameLines := 0
  untilStart := ⟨0, 1⟩
  route := emptyRoute
  stagedRoute := none
  current := none
  content := .background
  lastShown := none
  tier := .noTier
  context := none
  comparisons := ⟨0, 0, 0, 0, 0, 0⟩

/-- The default link policy (R108, R132). -/
def LinkPolicy.default : LinkPolicy := ⟨2, 13, .middle, 8, true, 8, 64, .auto⟩

/-- A link after device reset (R132, R153). R132 gives the error window sum no value: it is 0 (entry 42, DESIGN CHOICE). -/
def Link.reset : Link where
  state := .disabled
  intent := false
  policy := LinkPolicy.default
  searchPolicy := LinkPolicy.default
  rate := .full
  drive := 7
  demoted := false
  history := []
  cause := .noCause
  rxLock := false
  windowSum := 0
  txSeq := 0
  halfPending := false
  lastConfig := none
  retrains := 0
  symbolErrors := 0
  lockChanged := false
  search := none
  backWait := none
  silence := none
  errorWindow := none
  retry := none
  sending := none
  forward := []
  badRecords := 0
  mirror := Four.fill 0
  mirrorChanged := false
  awaiting := []
  nextToggle := false
  result := ⟨.noResult, none, 0, false, 0, []⟩
  seqErrors := 0
  postedErrors := 0
  touch := []
  touchOverflow := 0
  touchLost := 0
  touchInvalid := 0

/-- A channel after device reset whose straps select `cap` (R175). -/
def Channel.reset (cap : Cap) : Channel where
  state := .off
  intent := false
  policy := ⟨.auto, cap.milliamps, .autoRecover, 0, none⟩
  cap := cap
  current := 0
  cause := .noCause
  faults := 0
  latched := false
  blip := false
  rationed := false
  lastByte := none
  pendingByte := none
  failedWrites := 0
  waiting := false
  dischargeTimer := none
  coolDown := none
  activeTimer := none
  blipHold := none
  attachRun := 0
  removalRun := 0
  overRun := 0
  backdrive := false

/-- The part right after device reset (R26, R48, R73, R92, R106, R132, R153, R175, R192, R201, R208). DESIGN CHOICE:
caps of 400 mA and a first temperature of 0 °C (entry 6), result OK before the store test ends (entry 7), supply good
(entry 8), no back-drive (entry 20), nothing driven out yet (entry 12). -/
def State.reset : State where
  mode := .init
  timeBase := 0
  initTimer := some 40000
  wakeWindow := none
  reply := none
  notices := []
  mask := 0
  spiOut := []
  segments := List.replicate 32 none
  store := []
  temperature := 0
  thermal := .cool
  thermalChanged := false
  initResult := .ok
  storeTesting := true
  streams := Eight.fill none
  stray := 0
  outputs := Four.fill Output.reset
  links := Four.fill Link.reset
  aliases := []
  channels := Four.fill (Channel.reset .ma400)
  supply := .good
  budget := 2000
  boostThreshold := 1500
  level := 0
  overTimer := none
  underTimer := none
  boost := false
  boostHold := none
  pending := []

end Sys2Proof.Machine
end

