-- ==== Sys2Proof/Machine/Ops.lean ====
section
/-! DEFINITION. The shared operations: numbered objects, saturating counters, the passing of time, the Notice Table, the
reply holder, and the frame store. -/

namespace Sys2Proof.Machine

/-! ### Numbered objects -/

def State.stream (s : State) (i : Fin 8) : Option Stream := s.streams.get i
def State.output (s : State) (o : Fin 4) : Output := s.outputs.get o
def State.link (s : State) (l : Fin 4) : Link := s.links.get l
def State.channel (s : State) (c : Fin 4) : Channel := s.channels.get c

def State.setStream (s : State) (i : Fin 8) (r : Option Stream) : State := { s with streams := s.streams.set i r }
def State.setOutput (s : State) (o : Fin 4) (v : Output) : State := { s with outputs := s.outputs.set o v }
def State.setLink (s : State) (l : Fin 4) (v : Link) : State := { s with links := s.links.set l v }
def State.setChannel (s : State) (c : Fin 4) (v : Channel) : State := { s with channels := s.channels.set c v }

/-- Changes an open stream's record; a CLOSED stream has none to change. -/
def State.modStream (s : State) (i : Fin 8) (f : Stream → Stream) : State := s.setStream i ((s.stream i).map f)
def State.modOutput (s : State) (o : Fin 4) (f : Output → Output) : State := s.setOutput o (f (s.output o))
def State.modLink (s : State) (l : Fin 4) (f : Link → Link) : State := s.setLink l (f (s.link l))
def State.modChannel (s : State) (c : Fin 4) (f : Channel → Channel) : State := s.setChannel c (f (s.channel c))

/-- Does `f` at each object of a list, in its order. -/
def forEach {α : Type} (l : List α) (f : α → State → State) (s : State) : State :=
  l.foldl (fun t a => f a t) s

/-! ### Counters (spec/00 section 5.4) -/

/-- A 16-bit counter counts one more and stays at 65535. -/
def bump (c : Half) : Half := if c = 65535#16 then c else c + 1

/-- A 16-bit counter counts `n` more and stays at 65535. -/
def bumpBy (c : Half) (n : Nat) : Half := BitVec.ofNat 16 (min 65535 (c.toNat + n))

/-- The 32-bit counter of total symbol errors, which stays at its largest value (R124). -/
def bumpWordBy (c : Word) (n : Nat) : Word := BitVec.ofNat 32 (min 4294967295 (c.toNat + n))

/-! ### Time (spec/00 section 5.3, entry 1) -/

/-- A running timer after `dt` µs. -/
def runDown (dt : Nat) (t : Timer) : Timer := t.map (fun left => left - dt)

def Stream.elapse (dt : Nat) (r : Stream) : Stream :=
  match r.state with
  | .receiving f => { r with state := .receiving { f with timeout := f.timeout - dt } }
  | .idle => r
  | .fixed => r

def Output.elapse (dt : Nat) (v : Output) : Output :=
  { v with untilStart := ⟨v.untilStart.num - dt * v.untilStart.den, v.untilStart.den⟩ }

def Search.elapse (dt : Nat) (c : Search) : Search :=
  { c with dwell := c.dwell - dt, halfDwell := runDown dt c.halfDwell }

def Link.elapse (dt : Nat) (v : Link) : Link :=
  { v with
    search := v.search.map (Search.elapse dt)
    backWait := runDown dt v.backWait
    silence := runDown dt v.silence
    errorWindow := runDown dt v.errorWindow
    retry := runDown dt v.retry
    awaiting := v.awaiting.map (fun e => { e with watchdog := e.watchdog - dt }) }

def Channel.elapse (dt : Nat) (v : Channel) : Channel :=
  { v with
    dischargeTimer := runDown dt v.dischargeTimer
    coolDown := runDown dt v.coolDown
    activeTimer := runDown dt v.activeTimer
    blipHold := runDown dt v.blipHold }

/-- `dt` µs pass: the time base counts them modulo 2^32, and every running timer and frame runs on (entry 1). -/
def State.elapse (s : State) (dt : Nat) : State :=
  { s with
    timeBase := s.timeBase + BitVec.ofNat 32 dt
    initTimer := runDown dt s.initTimer
    wakeWindow := runDown dt s.wakeWindow
    streams := s.streams.map (Option.map (Stream.elapse dt))
    outputs := s.outputs.map (Output.elapse dt)
    links := s.links.map (Link.elapse dt)
    channels := s.channels.map (Channel.elapse dt)
    overTimer := runDown dt s.overTimer
    underTimer := runDown dt s.underTimer
    boostHold := runDown dt s.boostHold }

/-- The expiry of a timer: what is left of it passes and its effect follows. A timer that does not run has no expiry, and
nothing happens (entry 2). -/
def State.onExpiry (s : State) (t : Timer) (effect : State → State) : State :=
  match t with
  | none => s
  | some left => effect (s.elapse left)

/-! ### Notices (R197) -/

/-- Kind codes (10.3.1). -/
def NoticeKind.code : NoticeKind → Nat
  | .resetDone => 1
  | .modeChanged => 2
  | .thermal => 3
  | .powerBudget => 4
  | .streamErrors => 5
  | .streamOverrun => 6
  | .streamTimeout => 7
  | .routeApplied => 8
  | .outputTier => 9
  | .lockState => 10
  | .stale => 11
  | .fresh => 12
  | .integrity => 13
  | .fallbackMissing => 14
  | .linkState => 15
  | .remoteDone => 16
  | .touch => 17
  | .screenStatus => 18
  | .powerState => 19

/-- Does (kind, object) come before an entry in the order of NOTICE_FETCH (R198)? -/
def NoticeKind.before (k : NoticeKind) (object : Nat) (n : Notice) : Bool :=
  k.code < n.kind.code || (k.code == n.kind.code && object < n.object)

/-- A posting: the count of the pending entry rises and stays at 255, or a new entry is made with count 1. -/
def raiseNotice (k : NoticeKind) (object : Nat) : List Notice → List Notice
  | [] => [⟨k, object, 1⟩]
  | n :: rest =>
    if n.kind = k ∧ n.object = object then { n with count := min 255 (n.count + 1) } :: rest
    else if k.before object n then ⟨k, object, 1⟩ :: n :: rest
    else n :: raiseNotice k object rest

/-- Is a kind masked (R199)? -/
def State.masked (s : State) (k : NoticeKind) : Bool := s.mask.getLsbD k.code

/-- A block posts a notice (R197). -/
def State.post (s : State) (k : NoticeKind) (object : Nat) : State :=
  if s.mode = .init ∨ s.masked k = true then s
  else { s with notices := raiseNotice k object s.notices }

/-! ### Replies (R195, R196) -/

/-- A reply replaces whatever the holder held. -/
def State.answer (s : State) (kind tag : Byte) (status : Status) (body : List Byte) : State :=
  { s with reply := some ⟨kind, tag, status, body⟩ }

/-! ### The frame store (R6)

The contents are (address, byte) pairs, addresses rising, no byte 0: an unlisted byte reads 0 (entry 9). Address is
segment × 4 MiB + byte. -/

/-- Canonical form of the store's contents. -/
def storeWf : List Host.Cell → Bool
  | [] => true
  | (a, b) :: rest => b != 0 && rest.all (fun c => decide (a < c.1)) && storeWf rest

/-- The byte at an address. -/
def storeByte (m : List Host.Cell) (a : Nat) : Byte :=
  match m with
  | [] => 0
  | (a', b) :: rest => if a' = a then b else storeByte rest a

/-- The cells of a run of bytes from address `a`, without the bytes that need no cell. -/
def cellsOf (a : Nat) : List Byte → List Host.Cell
  | [] => []
  | b :: rest => if b = 0 then cellsOf (a + 1) rest else (a, b) :: cellsOf (a + 1) rest

/-- Writes a run of bytes from address `a`. -/
def storeWrite (m : List Host.Cell) (a : Nat) (bytes : List Byte) : List Host.Cell :=
  m.filter (fun c => decide (c.1 < a)) ++ cellsOf a bytes ++ m.filter (fun c => decide (a + bytes.length ≤ c.1))

/-- The segments of a slot, in list order: its segments in the Segment Map, ascending (R3, 11.3). -/
def State.slotSegments (s : State) (r : SlotRef) : List Nat :=
  (List.range 32).filter (fun i => s.segments.getD i none == some r)

/-- Writes bytes from a slot offset on, through the slot's segment list (R6). -/
def writeSlot (m : List Host.Cell) : List Nat → Nat → List Byte → List Host.Cell
  | [], _, _ => m
  | seg :: segs, offset, bytes =>
    if bytes.isEmpty then m
    else if Config.segmentBytes ≤ offset then writeSlot m segs (offset - Config.segmentBytes) bytes
    else
      writeSlot (storeWrite m (seg * Config.segmentBytes + offset) (bytes.take (Config.segmentBytes - offset)))
        segs 0 (bytes.drop (Config.segmentBytes - offset))

/-- The address of a slot offset (R6). -/
def slotAddress (segs : List Nat) (offset : Nat) : Nat :=
  segs.getD (offset / Config.segmentBytes) 0 * Config.segmentBytes + offset % Config.segmentBytes

/-- The byte at a slot offset (R6). -/
def slotByte (m : List Host.Cell) (segs : List Nat) (offset : Nat) : Byte :=
  storeByte m (slotAddress segs offset)

/-- Gives up the contents of every segment but those kept (R22, entry 10). -/
def keepSegments (m : List Host.Cell) (keep : Nat → Bool) : List Host.Cell :=
  m.filter (fun c => keep (c.1 / Config.segmentBytes))

end Sys2Proof.Machine
end

