-- ==== Sys2Proof/Machine/Flags.lean ====
section
/-! DEFINITION. Pins and status that are views of the state: ATTN, slot references, the budget total, switch paths,
transmitter, transaction slot (entry 11). -/

namespace Sys2Proof.Machine

/-- ATTN is asserted (R200). -/
def State.attn (s : State) : Bool := !s.notices.isEmpty && s.mode != .sleep

/-- A slot's reference count: the outputs whose current frame it is (R13). -/
def State.refs (s : State) (r : SlotRef) : Nat :=
  (allFour.filter (fun o => (s.output o).current == some r)).length

/-- The free segment count (R1). -/
def State.freeSegments (s : State) : Nat := (s.segments.filter (fun e => e == none)).length

/-- The measured period: the newest of the history, or 0 (R27). -/
def Stream.measuredPeriod (r : Stream) : Nat :=
  match r.periods.getLast? with
  | some p => p.toNat
  | none => 0

/-- A slot's state; a slot that does not exist reads as EMPTY. -/
def Stream.slot (r : Stream) (i : Fin 4) : Slot := r.slots.getD i.val .empty

/-- The seq of a slot, present only while READY (R5). -/
def Slot.seq? : Slot → Option Word
  | .empty => none
  | .filling => none
  | .ready q => some q

/-- The latest slot of a stream with its seq (R5). -/
def State.latest? (s : State) (i : Fin 8) : Option (SlotRef × Word) :=
  match s.stream i with
  | none => none
  | some r =>
    match r.latest with
    | none => none
    | some j => (r.slot j).seq?.map (fun q => (⟨i, j⟩, q))

/-- Does an output run, so that it has vertical starts (R78)? -/
def OutputState.running : OutputState → Bool
  | .off => false
  | .scanning => true
  | .paused => true
  | .hold => true
  | .suspended _ => false

/-- Is a stream named by a route (R61)? -/
def Route.names (r : Route) (i : Fin 8) : Bool :=
  (match r.source with
   | some p => p.stream == i
   | none => false) ||
  (match r.safety with
   | some p => p.fallback == some i
   | none => false)

/-- Is a stream named by the applied or the staged route of any output (R61)? -/
def State.named (s : State) (i : Fin 8) : Bool :=
  allFour.any (fun o =>
    (s.output o).route.names i ||
    (match (s.output o).stagedRoute with
     | some r => r.names i
     | none => false))

/-- The sum of the measured currents of the four channels (R168). -/
def State.total (s : State) : Nat := s.channels.toList.foldl (fun n c => n + c.current.toNat) 0

/-- The main switch is closed (R154, R163). -/
def Channel.mainSwitch (c : Channel) : Bool := c.state == .active && !c.blip

/-- The detect path is closed (R154, R163). -/
def Channel.detectPath (c : Channel) : Bool := c.state == .detect && !c.blip

/-- The discharge element is on: while its 50 ms run (R160, R164). -/
def Channel.dischargeElement (c : Channel) : Bool := c.dischargeTimer.isSome

/-- What the transmitter of a link sends (R107). -/
inductive TransmitterUse where
  | off
  | pattern
  | traffic
deriving DecidableEq, Repr

def Link.transmitter (v : Link) : TransmitterUse :=
  match v.state with
  | .disabled => .off
  | .waitPower => .off
  | .training => .pattern
  | .up => .traffic
  | .retrain => .pattern
  | .failed => .off

/-- The transaction slot of a link (R139): none is FREE. -/
def Link.slot (v : Link) : Option Origin :=
  match v.awaiting.find? (fun e => e.origin != .posted) with
  | some e => some e.origin
  | none => none

/-- Has the link room for a new request (R139)? -/
def Link.room (v : Link) : Bool := v.slot == none && decide (v.awaiting.length < 2)

end Sys2Proof.Machine
end

