-- ==== Sys2Proof/Machine/Operands.lean ====
section
/-! DEFINITION. The form of a request's answer, enumerated request fields (R209), and the fields of reply bodies. -/

namespace Sys2Proof.Machine

/-- What the owning block answers: the state it leaves, the reply status and the reply body (R195). -/
structure Answer where
  after : State
  status : Status
  body : List Byte

/-- Refused: no effect apart from the reply, which has an empty body (spec/00 section 5.4, R209). -/
def State.refuse (s : State) (status : Status) : Answer := ⟨s, status, []⟩

/-- OK with a body. -/
def State.done (s : State) (body : List Byte) : Answer := ⟨s, .ok, body⟩

/-- ACCEPTED with a body. -/
def State.taken (s : State) (body : List Byte) : Answer := ⟨s, .accepted, body⟩

/-! ### Reply fields -/

def byteOf (n : Nat) : Byte := BitVec.ofNat 8 n
def halfOf (n : Nat) : List Byte := halfBytes (BitVec.ofNat 16 n)
def wordOf (n : Nat) : List Byte := wordBytes (BitVec.ofNat 32 n)
def flagByte (b : Bool) : Byte := if b then 1 else 0

/-- A byte of flags, bit 0 first. -/
def packFlags : List Bool → Nat
  | [] => 0
  | b :: rest => (if b then 1 else 0) + 2 * packFlags rest

/-- An absent value reads 0 (R209). -/
def wordOr0 : Option Word → List Byte
  | none => wordBytes 0
  | some v => wordBytes v

/-! ### Codes (R209, 11.1, 11.2) -/

def Status.code : Status → Nat
  | .ok => 0
  | .accepted => 1
  | .empty => 2
  | .badFrame => 3
  | .unknownKind => 4
  | .badArg => 5
  | .wrongState => 6
  | .noRoom => 7
  | .overBudget => 8
  | .busy => 9
  | .initializing => 10
  | .waking => 11
  | .storeFault => 12

def Mode.code : Mode → Nat
  | .init => 0
  | .standby => 1
  | .run => 2
  | .sleep => 3

def Thermal.code : Thermal → Nat
  | .cool => 0
  | .hot => 1
  | .critical => 2
  | .shutdown => 3

def InitResult.code : InitResult → Nat
  | .ok => 0
  | .storeFault => 1

def Format.ofByte? (b : Byte) : Option Format :=
  match b.toNat with
  | 0 => some .rgb888
  | 1 => some .rgb565
  | _ => none

def StreamKind.ofByte? (b : Byte) : Option StreamKind :=
  match b.toNat with
  | 0 => some .video
  | 1 => some .still
  | _ => none

def StreamKind.code : StreamKind → Nat
  | .video => 0
  | .still => 1

def Priority.ofByte? (b : Byte) : Option Priority :=
  match b.toNat with
  | 0 => some .high
  | 1 => some .low
  | _ => none

def Priority.code : Priority → Nat
  | .high => 0
  | .low => 1

def DamagedPolicy.ofByte? (b : Byte) : Option DamagedPolicy :=
  match b.toNat with
  | 0 => some .dropDamaged
  | 1 => some .showDamaged
  | _ => none

def FaultAction.ofByte? (b : Byte) : Option FaultAction :=
  match b.toNat with
  | 0 => some .notify
  | 1 => some .fallback
  | 2 => some .blank
  | _ => none

def FaultAction.code : FaultAction → Nat
  | .notify => 0
  | .fallback => 1
  | .blank => 2

def Resume.code : Resume → Nat
  | .scanning => 1
  | .paused => 2

def OutputState.code : OutputState → Nat
  | .off => 0
  | .scanning => 1
  | .paused => 2
  | .hold => 3
  | .suspended _ => 4

def Content.code : Content → Nat
  | .live => 0
  | .repeated => 1
  | .frozen => 2
  | .fallback => 3
  | .background => 4

def Tier.code : Tier → Nat
  | .noTier => 0
  | .t24 => 1
  | .t18 => 2
  | .talt => 3
  | .blocked => 4

def LockState.code : LockState → Nat
  | .free => 0
  | .seeking => 1
  | .locked => 2

def Freshness.code : Freshness → Nat
  | .waiting => 0
  | .fresh => 1
  | .stale _ => 2

def IntegrityState.code : IntegrityState → Nat
  | .clean => 0
  | .suspect => 1
  | .fault => 2

def StartPoint.ofByte? (b : Byte) : Option StartPoint :=
  match b.toNat with
  | 0 => some .middle
  | 1 => some .low
  | _ => none

def StartPoint.code : StartPoint → Nat
  | .middle => 0
  | .low => 1

def RatePolicy.ofByte? (b : Byte) : Option RatePolicy :=
  match b.toNat with
  | 0 => some .auto
  | 1 => some .fullOnly
  | 2 => some .halfOnly
  | _ => none

def RatePolicy.code : RatePolicy → Nat
  | .auto => 0
  | .fullOnly => 1
  | .halfOnly => 2

def LinkState.code : LinkState → Nat
  | .disabled => 0
  | .waitPower => 1
  | .training => 2
  | .up => 3
  | .retrain => 4
  | .failed => 5

def Rate.code : Rate → Nat
  | .full => 0
  | .half => 1

def FailureCause.code : FailureCause → Nat
  | .noCause => 0
  | .noBackchannel => 1
  | .noSetting => 2

def ResultStatus.code : ResultStatus → Nat
  | .noResult => 0
  | .pending => 1
  | .ok => 2
  | .nack => 3
  | .timeout => 4
  | .linkDown => 5
  | .checkError => 6

def RemoteKind.code : RemoteKind → Nat
  | .write => 0
  | .read => 1

def TouchKind.ofCode? (n : Nat) : Option TouchKind :=
  match n with
  | 0 => some .down
  | 1 => some .move
  | 2 => some .up
  | _ => none

def TouchKind.code : TouchKind → Nat
  | .down => 0
  | .move => 1
  | .up => 2

def PowerMode.ofByte? (b : Byte) : Option PowerMode :=
  match b.toNat with
  | 0 => some .auto
  | 1 => some .forced
  | _ => none

def PowerMode.code : PowerMode → Nat
  | .auto => 0
  | .forced => 1

def FaultHandling.ofByte? (b : Byte) : Option FaultHandling :=
  match b.toNat with
  | 0 => some .autoRecover
  | 1 => some .latch
  | _ => none

def FaultHandling.code : FaultHandling → Nat
  | .autoRecover => 0
  | .latch => 1

def ChannelState.code : ChannelState → Nat
  | .off => 0
  | .detect => 1
  | .active => 2
  | .discharge _ => 3
  | .fault => 4

def PowerCause.code : PowerCause → Nat
  | .noCause => 0
  | .overcurrent => 1
  | .short => 2
  | .backdrive => 3
  | .undervoltage => 4
  | .thermal => 5

def rationCode : Option RationWrite → Nat
  | none => 0
  | some .engage => 1
  | some .restore => 2

end Sys2Proof.Machine
end

