-- ==== Sys2Proof/Machine/Admission.lean ====
section
/-! DEFINITION. Admission (spec/05): capacity, demand, the choice of a tier, and its evaluation. -/

namespace Sys2Proof.Machine

def Timing.hTotal (t : Timing) : Nat := t.hActive + t.hBlank
def Timing.vTotal (t : Timing) : Nat := t.vActive + t.vBlank

/-- Usable capacity in kbit/s (R94). -/
def Rate.capacity : Rate → Nat
  | .full => 4700000
  | .half => 2350000

/-- Demand of a tier of `bits` bits per pixel and pacing `pacing`, rounded up once (R95). -/
def demand (t : Timing) (bits pacing : Nat) : Nat :=
  (t.pclk * (t.hActive * bits + 64) + (pacing * t.hTotal - 1)) / (pacing * t.hTotal)

def fits (t : Timing) (rate : Rate) (bits pacing : Nat) : Bool := decide (demand t bits pacing ≤ rate.capacity)

/-- The first allowed tier that fits the rate (R96). -/
def chooseTier (t : Option Timing) (allow18 allowAlt : Bool) (rate : Rate) : Tier :=
  match t with
  | none => .noTier
  | some t =>
    if fits t rate 24 1 then .t24
    else if allow18 && fits t rate 18 1 then .t18
    else if allow18 && allowAlt && fits t rate 18 2 then .talt
    else .blocked

/-- The best allowed rate of a link (R97). -/
def Link.bestRate (v : Link) : Rate :=
  match v.policy.rate with
  | .halfOnly => .half
  | .fullOnly => .full
  | .auto => if v.demoted then .half else .full

/-- The governing rate of a link (R97). -/
def Link.governingRate (v : Link) : Rate :=
  match v.state with
  | .up => v.rate
  | .disabled | .waitPower | .training | .retrain | .failed => v.bestRate

/-- The tier that an evaluation at the present state chooses (R96, R97). -/
def State.tierNow (s : State) (o : Fin 4) : Tier :=
  let v := s.output o
  chooseTier v.timing v.route.allow18 v.route.allowAlt (s.link o).governingRate

/-- Admission evaluates the tier of an output anew; a change posts OUTPUT_TIER (R99, R101). -/
def State.evaluate (s : State) (o : Fin 4) : State :=
  let tier := s.tierNow o
  if tier = (s.output o).tier then s
  else (s.modOutput o (fun v => { v with tier := tier })).post .outputTier o.val

/-- Would a pair of timing and route be refused for budget at the best allowed rate (R98)? -/
def State.overBudget (s : State) (o : Fin 4) (t : Timing) (r : Route) : Bool :=
  chooseTier (some t) r.allow18 r.allowAlt (s.link o).bestRate == .blocked

end Sys2Proof.Machine
end

