-- ==== Sys2Proof/Machine/FrameStore.lean ====
section
/-! DEFINITION. Frame Store and Slot Pool (spec/01): allocation, slot life, publishing, thermal state, store test,
sleep retention, STORE_MAP. -/

namespace Sys2Proof.Machine

/-! ### Segments (R1 to R4) -/

/-- Bytes of a stored pixel (R2). -/
def Format.bytes : Format → Nat
  | .rgb888 => 3
  | .rgb565 => 2

/-- Segment need of one slot (R2). -/
def segmentNeed (width height : Nat) (format : Format) : Nat :=
  (width * height * format.bytes + (Config.segmentBytes - 1)) / Config.segmentBytes

def StreamConfig.need (c : StreamConfig) : Nat := segmentNeed c.width c.height c.format

def StreamConfig.lineBytes (c : StreamConfig) : Nat := c.width * c.format.bytes

/-- Gives the `n` lowest free segments of the map to a slot (R3). -/
def assignSegments (r : SlotRef) : Nat → List (Option SlotRef) → List (Option SlotRef)
  | _, [] => []
  | n, some x :: rest => some x :: assignSegments r n rest
  | 0, none :: rest => none :: rest
  | n + 1, none :: rest => some r :: assignSegments r n rest

/-- The slot indices of a stream, in order. -/
def slotIndices (count : Nat) : List (Fin 4) := [(0 : Fin 4), 1, 2, 3].take count

/-- Builds the slots of a stream in order of index, `need` segments each (R3). -/
def allocate (segments : List (Option SlotRef)) (i : Fin 8) (count need : Nat) : List (Option SlotRef) :=
  (slotIndices count).foldl (fun m j => assignSegments ⟨i, j⟩ need m) segments

/-- Frees the segments of a stream (R4). -/
def freeStream (segments : List (Option SlotRef)) (i : Fin 8) : List (Option SlotRef) :=
  segments.map (fun e =>
    match e with
    | some r => if r.stream = i then none else some r
    | none => none)

/-! ### Slot life (R7 to R12) -/

def Stream.setSlot (r : Stream) (j : Fin 4) (v : Slot) : Stream := { r with slots := r.slots.set j.val v }

/-- The slots a frame may be written to: reference count 0 and not latest (R7). -/
def State.candidates (s : State) (i : Fin 8) (r : Stream) : List (Fin 4) :=
  (slotIndices r.slots.length).filter (fun j => s.refs ⟨i, j⟩ == 0 && r.latest != some j)

/-- Among slots in index order, the READY one with the lowest seq, the lowest index among equals (R7). -/
def oldestReady (r : Stream) : List (Fin 4) → Option (Fin 4 × Word)
  | [] => none
  | j :: rest =>
    match (r.slot j).seq?, oldestReady r rest with
    | none, best => best
    | some q, none => some (j, q)
    | some q, some (k, p) => if p.toNat < q.toNat then some (k, p) else some (j, q)

/-- The slot the Frame Store chooses for a new frame; none is an overrun (R7, R8). -/
def State.writeSlot? (s : State) (i : Fin 8) (r : Stream) : Option (Fin 4) :=
  match (s.candidates i r).find? (fun j => r.slot j == .empty) with
  | some j => some j
  | none => (oldestReady r (s.candidates i r)).map Prod.fst

/-- The published count after a publish; it stops at 4,294,967,295 (R10, R11). -/
def nextPublished (q : Word) : Word := if q = 4294967295#32 then q else q + 1

/-- A FILLING slot is published at a time (R10, R11). -/
def Stream.publish (r : Stream) (j : Fin 4) (time : Word) : Stream :=
  { r.setSlot j (.ready (nextPublished r.published)) with
    published := nextPublished r.published
    latest := some j
    lastPublish := some time }

/-- A frame in progress is abandoned: its slot is EMPTY, the stream IDLE, nothing counted (R12). -/
def Stream.abandon (r : Stream) : Stream :=
  match r.state with
  | .receiving f => { r.setSlot f.slot .empty with state := .idle }
  | .idle => r
  | .fixed => r

/-! ### Stored lines (R6) -/

/-- `n` bytes of a slot from an offset on. -/
def slotBytes (m : List Host.Cell) (segs : List Nat) (offset n : Nat) : List Byte :=
  (List.range n).map (fun k => slotByte m segs (offset + k))

/-- Writes the lines from `first` on, `count` of them, as copies of the line before `first`, or black (R34, R40). -/
def fillLines (m : List Host.Cell) (segs : List Nat) (lineBytes first count : Nat) : List Host.Cell :=
  let copy := if first = 0 then List.replicate lineBytes 0 else slotBytes m segs ((first - 1) * lineBytes) lineBytes
  writeSlot m segs (first * lineBytes) (List.replicate count copy).flatten

/-! ### Thermal state (R19 to R21) -/

/-- Readings beyond the range are reported as its ends (R19). -/
def clampTemperature (t : Int) : Int := max (-40) (min 150 t)

/-- The thermal state that the first sample sets (R19). -/
def thermalOfFirst (t : Int) : Thermal :=
  if 125 ≤ t then .shutdown else if 105 ≤ t then .critical else if 85 ≤ t then .hot else .cool

/-- One transition of R20 that holds, if any. -/
def thermalTransition (st : Thermal) (t : Int) : Option Thermal :=
  match st with
  | .cool => if 125 ≤ t then some .shutdown else if 85 ≤ t then some .hot else none
  | .hot =>
    if 125 ≤ t then some .shutdown else if 105 ≤ t then some .critical else if t ≤ 82 then some .cool else none
  | .critical => if 125 ≤ t then some .shutdown else if t ≤ 102 then some .hot else none
  | .shutdown => if t ≤ 115 then some .critical else none

/-- Transitions in turn, at most `n`. No chain is longer than three (R20). -/
def thermalChain : Nat → Thermal → Int → Thermal
  | 0, st, _ => st
  | n + 1, st, t =>
    match thermalTransition st t with
    | none => st
    | some st' => thermalChain n st' t

/-- The thermal state after a later sample (R20). -/
def thermalAfter (st : Thermal) (t : Int) : Thermal := thermalChain 4 st t

/-- A sample is taken: temperature, thermal state, and on a change the flag and the notice (R19 to R21). -/
def State.takeTemperature (s : State) (reading : Int) : State :=
  let t := clampTemperature reading
  let after := thermalAfter s.thermal t
  if after = s.thermal then { s with temperature := t }
  else ({ s with temperature := t, thermal := after, thermalChanged := true }).post .thermal 0

/-! ### Store test (R24) -/

/-- The store test ends with the segments that failed. It runs once, in INIT; at any other time no test runs. -/
def State.endStoreTest (s : State) (failing : Word) : State :=
  if s.mode = .init ∧ s.storeTesting = true then
    { s with storeTesting := false, initResult := if failing = 0 then .ok else .storeFault }
  else s

/-! ### Sleep (R22, R46) -/

/-- Does a stream keep its image through SLEEP: STILL, opened with retain, FIXED? -/
def Stream.retained (r : Stream) : Bool :=
  r.config.kind == .still && r.config.retain && r.state == .fixed

/-- A stream at sleep entry (R22, R46). -/
def Stream.sleep (r : Stream) : Stream :=
  if r.retained then r
  else { r with state := .idle, slots := r.slots.map (fun _ => Slot.empty), latest := none }

/-- Is a segment one of a retained stream's? -/
def State.segmentRetained (s : State) (seg : Nat) : Bool :=
  match s.segments.getD seg none with
  | none => false
  | some ref =>
    match s.stream ref.stream with
    | none => false
    | some r => r.retained

/-- Sleep entry of the Frame Store and the Input Port (R22, R46, entry 10). -/
def State.storeSleep (s : State) : State :=
  { s with
    store := keepSegments s.store s.segmentRetained
    streams := s.streams.map (Option.map Stream.sleep) }

/-- A stream at wake: no timing, no frame number, phase ACCEPT, not decimated (R38, R47). -/
def Stream.wake (r : Stream) : Stream :=
  { r with
    periods := []
    stable := false
    lastStart := none
    lastNumber := none
    phase := .accept
    decimating := false }

/-- Wake of the Input Port (R47). -/
def State.streamWake (s : State) : State := { s with streams := s.streams.map (Option.map Stream.wake) }

/-! ### STORE_MAP (R18, 11.3) -/

def mapByte : Option SlotRef → Byte
  | none => 0xFF
  | some r => byteOf (r.stream.val * 4 + r.index.val)

/-- A stream entry of STORE_MAP (11.3); the bits of its bytes 0 and 1 that 11.3 does not list are 0 (entry 36). -/
def streamEntry (i : Fin 8) (r : Stream) : List Byte :=
  [byteOf (i.val + 8 * r.config.kind.code + 16 * (r.config.slotCount - 1)),
   byteOf (r.config.need + 16 * (match r.latest with
     | some j => j.val
     | none => 7))] ++ wordBytes r.published

/-- A slot entry of STORE_MAP (11.3); the bits of its byte 0 that 11.3 does not list are 0 (entry 36). -/
def slotEntry (s : State) (ref : SlotRef) (v : Slot) : List Byte :=
  match v with
  | .empty => byteOf (16 * s.refs ref) :: wordBytes 0
  | .filling => byteOf (1 + 16 * s.refs ref) :: wordBytes 0
  | .ready q => byteOf (2 + 16 * s.refs ref) :: wordBytes q

/-- The open streams, in stream order. -/
def State.openStreams (s : State) : List (Fin 8 × Stream) :=
  allEight.filterMap (fun i => (s.stream i).map (fun r => (i, r)))

def State.storeMapBody (s : State) : List Byte :=
  [byteOf s.freeSegments] ++ s.segments.map mapByte ++ [byteOf s.openStreams.length] ++
  (s.openStreams.map (fun p => streamEntry p.1 p.2)).flatten ++
  (s.openStreams.map (fun p =>
    ((slotIndices p.2.slots.length).map (fun j => slotEntry s ⟨p.1, j⟩ (p.2.slot j))).flatten)).flatten

def storeMapHandler (_body : List Byte) (s : State) : Answer := s.done s.storeMapBody

end Sys2Proof.Machine
end

