-- ==== Sys2Proof/Machine/InputPort.lean ====
section
/-! DEFINITION. Input Streams (spec/02): the stream requests and what each packet and the frame timeout do. -/

namespace Sys2Proof.Machine

/-! ### Requests -/

/-- Effective frame timeout in ms (R28). -/
def effectiveTimeout (n : Nat) : Nat := if n = 0 then 100 else min 250 (max 10 n)

/-- Effective line error threshold (R28). -/
def effectiveThreshold (n : Nat) : Nat := if n = 0 then 16 else n

/-- The configuration of a STREAM_OPEN body, when its fields pass check 2 of R28. -/
def readConfig (body : List Byte) : Option StreamConfig :=
  let w := (half body 1).toNat
  let h := (half body 3).toNat
  let count := (byteAt body 7).toNat
  match Format.ofByte? (byteAt body 5), StreamKind.ofByte? (byteAt body 6), Priority.ofByte? (byteAt body 8),
    DamagedPolicy.ofByte? (byteAt body 9), yesNo? (byteAt body 13) with
  | some format, some kind, some priority, some damaged, some retain =>
    let countOk := match kind with
      | .video => decide (2 ≤ count ∧ count ≤ 4) && !retain
      | .still => count == 1
    if 64 ≤ w ∧ w ≤ 3840 ∧ w % 2 = 0 ∧ 64 ≤ h ∧ h ≤ 2160 ∧ countOk = true then
      some ⟨w, h, format, kind, count, priority, damaged, effectiveTimeout (byteAt body 10).toNat,
        effectiveThreshold (half body 11).toNat, retain⟩
    else none
  | _, _, _, _, _ => none

def StreamCounters.zero : StreamCounters := ⟨0, 0, 0, 0, 0, 0, 0, 0, 0⟩

/-- The record of a stream just opened (R5, R29). -/
def Stream.opened (c : StreamConfig) : Stream where
  config := c
  state := .idle
  slots := List.replicate c.slotCount .empty
  published := 0
  latest := none
  lastPublish := none
  lastStart := none
  lastNumber := none
  periods := []
  stable := false
  phase := .accept
  decimating := false
  counts := StreamCounters.zero
  lineLength := false
  lineCount := false

/-- STREAM_OPEN (R28, R29, R3). -/
def streamOpenHandler (body : List Byte) (s : State) : Answer :=
  match eight? (byteAt body 0), readConfig body with
  | some i, some c =>
    if (s.stream i).isSome then s.refuse .wrongState
    else if s.initResult = .storeFault then s.refuse .storeFault
    else if s.freeSegments < c.slotCount * c.need then s.refuse .noRoom
    else
      ({ s with segments := allocate s.segments i c.slotCount c.need }.setStream i (some (Stream.opened c))).done
        ([byteOf c.timeoutMs] ++ halfOf c.lineThreshold ++ [byteOf c.need, byteOf (c.slotCount * c.need)])
  | _, _ => s.refuse .badArg

/-- STREAM_CLOSE (R30, R17, R4). -/
def streamCloseHandler (body : List Byte) (s : State) : Answer :=
  match eight? (byteAt body 0) with
  | none => s.refuse .badArg
  | some i =>
    if (s.stream i).isNone ∨ s.named i = true then s.refuse .wrongState
    else ({ s with segments := freeStream s.segments i }.setStream i none).done []

/-- A STILL stream rearmed (R16, R31). -/
def Stream.rearm (r : Stream) : Stream :=
  match r.state with
  | .fixed => { r.setSlot 0 .empty with latest := none, state := .idle }
  | .receiving _ => r.abandon
  | .idle => r

/-- STREAM_REARM (R16, R31). -/
def streamRearmHandler (body : List Byte) (s : State) : Answer :=
  match eight? (byteAt body 0) with
  | none => s.refuse .badArg
  | some i =>
    match s.stream i with
    | none => s.refuse .wrongState
    | some r =>
      if r.config.kind = .video ∨ s.named i = true ∨ 0 < s.refs ⟨i, 0⟩ then s.refuse .wrongState
      else (s.setStream i (some r.rearm)).done []

def StreamState.code : StreamState → Nat
  | .idle => 1
  | .receiving _ => 2
  | .fixed => 3

def StreamCounters.bytes (c : StreamCounters) : List Byte :=
  halfBytes c.accepted ++ halfBytes c.published ++ halfBytes c.damaged ++ halfBytes c.overruns ++
  halfBytes c.decimated ++ halfBytes c.timeouts ++ halfBytes c.lineErrors ++ halfBytes c.sourceGaps ++
  halfBytes c.refused

/-- The seq of a stream's latest frame, 0 for none (11.2.2). -/
def Stream.latestSeq (r : Stream) : Word :=
  match r.latest with
  | none => 0
  | some j => ((r.slot j).seq?).getD 0

/-- The body of STREAM_STATUS (R32, 11.2.2). Bits 6 and 7 of the flags byte, for which 11.2.2 lists nothing, are 0 (entry 36,
DESIGN CHOICE). -/
def Stream.statusBody (r : Stream) : List Byte :=
  [byteOf r.state.code, byteOf r.config.kind.code, byteOf r.config.priority.code] ++ wordBytes r.published ++
  wordBytes r.latestSeq ++ wordOr0 r.lastPublish ++
  [byteOf (packFlags [r.lastPublish.isSome, r.stable, r.lastNumber.isSome, r.decimating, r.lineLength, r.lineCount])] ++
  wordOf r.measuredPeriod ++ halfBytes (r.lastNumber.getD 0) ++ r.counts.bytes

/-- STREAM_STATUS (R32): counters and sticky flags are zeroed. -/
def streamStatusHandler (body : List Byte) (s : State) : Answer :=
  match eight? (byteAt body 0) with
  | none => s.refuse .badArg
  | some i =>
    match s.stream i with
    | none => s.done (List.replicate 40 0)
    | some r =>
      (s.setStream i (some { r with counts := StreamCounters.zero, lineLength := false, lineCount := false })).done
        r.statusBody

/-! ### Timing capture (R35, R36) -/

/-- |q − p| × 64 ≤ p for each neighbouring pair. -/
def steadyPeriods : List Word → Bool
  | p :: q :: rest => decide ((q.toNat - p.toNat + (p.toNat - q.toNat)) * 64 ≤ p.toNat) && steadyPeriods (q :: rest)
  | _ => true

/-- Stable: four periods, each within 1/64 of the one before (R36). -/
def stableOf (periods : List Word) : Bool := periods.length == 4 && steadyPeriods periods

/-- Appends a period; the history keeps the newest four (R35). -/
def appendPeriod (periods : List Word) (p : Word) : List Word :=
  (if periods.length < 4 then periods else periods.drop 1) ++ [p]

/-- Timing and frame number at a FRAME_START (R35, R36). -/
def Stream.capture (r : Stream) (now : Word) (number : Half) : Stream :=
  let timed := match r.lastStart with
    | none => r
    | some t =>
      { r with periods := appendPeriod r.periods (now - t), stable := stableOf (appendPeriod r.periods (now - t)) }
  let gap := match r.lastNumber with
    | none => false
    | some n => number != n + 1
  { timed with
    counts := if gap then { timed.counts with sourceGaps := bump timed.counts.sourceGaps } else timed.counts
    lastStart := some now
    lastNumber := some number }

/-! ### How a frame ends (R34) -/

/-- The frame of a RECEIVING stream ends; `late` when by truncation or timeout, which always damages it. -/
def State.endFrame (s : State) (i : Fin 8) (late : Bool) : State :=
  match s.stream i with
  | none => s
  | some r =>
    match r.state with
    | .idle => s
    | .fixed => s
    | .receiving f =>
      let damaged := f.damaged || late
      let counted : Stream :=
        if damaged then { r with counts := { r.counts with damaged := bump r.counts.damaged } } else r
      if damaged = true ∧ r.config.damagedPolicy = .dropDamaged then
        s.setStream i (some { counted.setSlot f.slot .empty with state := .idle })
      else
        let shown := counted.publish f.slot s.timeBase
        let final : StreamState := match r.config.kind with
          | .still => .fixed
          | .video => .idle
        { s with
          store := fillLines s.store (s.slotSegments ⟨i, f.slot⟩) r.config.lineBytes f.expected
            (r.config.height - f.expected) }.setStream i
          (some { shown with
            counts := { shown.counts with published := bump shown.counts.published }
            state := final })

/-! ### FRAME_START (R37 to R39) -/

/-- Is a stream the source of an applied SAFETY route (R38, R60)? -/
def State.safetySource (s : State) (i : Fin 8) : Bool :=
  allFour.any (fun o =>
    (s.output o).route.safety.isSome &&
    (match (s.output o).route.source with
     | some p => p.stream == i
     | none => false))

/-- The decimation condition (R38). -/
def State.decimates (s : State) (i : Fin 8) (r : Stream) : Bool :=
  match r.config.kind with
  | .still => false
  | .video =>
    match r.config.priority with
    | .low => s.thermal != .cool
    | .high => (s.thermal == .critical || s.thermal == .shutdown) && !s.safetySource i

/-- A frame that goes on to slot choice gets a slot or is an overrun (R37 case 5, R39). -/
def State.beginFrame (s : State) (i : Fin 8) (r : Stream) : State :=
  match s.writeSlot? i r with
  | some j =>
    s.setStream i (some { r.setSlot j .filling with
      state := .receiving ⟨j, 0, false, r.config.timeoutMs * Config.ms⟩
      counts := { r.counts with accepted := bump r.counts.accepted } })
  | none =>
    (s.setStream i (some { r with counts := { r.counts with overruns := bump r.counts.overruns } })).post
      .streamOverrun i.val

/-- The decimation phase decides whether a frame is skipped (R38). -/
def State.decimateOrBegin (s : State) (i : Fin 8) (r : Stream) : State :=
  match r.config.kind with
  | .still => s.beginFrame i r
  | .video =>
    if s.decimates i r then
      match r.phase with
      | .accept => s.beginFrame i { r with phase := .skip, decimating := true }
      | .skip =>
        s.setStream i (some { r with
          phase := .accept
          decimating := true
          counts := { r.counts with decimated := bump r.counts.decimated } })
    else s.beginFrame i { r with phase := .accept, decimating := false }

/-- A FRAME_START that passes screening (R35 to R39). -/
def State.startFrame (s : State) (i : Fin 8) (number : Half) : State :=
  let captured := (s.modStream i (fun r => r.capture s.timeBase number)).endFrame i true
  match captured.stream i with
  | none => captured
  | some r =>
    if s.mode ≠ .run then captured
    else if r.state = .fixed then
      captured.setStream i (some { r with counts := { r.counts with refused := bump r.counts.refused } })
    else captured.decimateOrBegin i r

/-! ### LINE (R40 to R42) -/

/-- The pixels of a written line brought to W pixels (R41): padded with the last pixel or black, or cut. -/
def adjustLine (width bytes : Nat) (pixels : List Byte) : List Byte :=
  let n := pixels.length / bytes
  if width ≤ n then pixels.take (width * bytes)
  else
    let last := if n = 0 then List.replicate bytes 0 else (pixels.drop ((n - 1) * bytes)).take bytes
    pixels.take (n * bytes) ++ (List.replicate (width - n) last).flatten

/-- Is a LINE bad: CRC, declared count, or a part of a pixel left over (R40, R210)? -/
def lineBad (bytes : Nat) (count : Half) (pixels : List Byte) (crc : Half) : Bool :=
  crc16 pixels != crc || count.toNat != pixels.length / bytes || pixels.length % bytes != 0

/-- A line with a fault is counted; crossing the threshold posts STREAM_ERRORS (R42). -/
def State.countLineError (s : State) (i : Fin 8) : State :=
  match s.stream i with
  | none => s
  | some r =>
    let errors := bump r.counts.lineErrors
    let s' := s.setStream i (some { r with counts := { r.counts with lineErrors := errors } })
    if r.counts.lineErrors.toNat ≤ r.config.lineThreshold ∧ r.config.lineThreshold < errors.toNat then
      s'.post .streamErrors i.val
    else s'

/-- A LINE for a RECEIVING stream (R40 to R42). -/
def State.takeLine (s : State) (i : Fin 8) (r : Stream) (f : Incoming) (index count : Half) (pixels : List Byte)
    (crc : Half) : State :=
  let k := index.toNat
  let bad := lineBad r.config.format.bytes count pixels crc
  if k < f.expected ∨ r.config.height ≤ k then
    (s.setStream i (some { r with state := .receiving { f with damaged := true } })).countLineError i
  else
    let short := pixels.length / r.config.format.bytes != r.config.width
    let fault := bad || short || f.expected != k
    let segs := s.slotSegments ⟨i, f.slot⟩
    let filled :=
      if k = f.expected then s.store
      else fillLines s.store segs r.config.lineBytes f.expected (k - f.expected)
    let written := { s with
      store := writeSlot filled segs (k * r.config.lineBytes)
        (adjustLine r.config.width r.config.format.bytes pixels) }.setStream i
      (some { r with
        state := .receiving { f with expected := k + 1, damaged := f.damaged || fault }
        lineLength := r.lineLength || short })
    if fault then written.countLineError i else written

/-! ### FRAME_END (R43) -/

def State.takeFrameEnd (s : State) (i : Fin 8) (r : Stream) (f : Incoming) (count : Half) : State :=
  let wrong := count.toNat != r.config.height || decide (f.expected < r.config.height)
  (s.setStream i (some { r with
    state := .receiving { f with damaged := f.damaged || wrong }
    lineCount := r.lineCount || wrong })).endFrame i false

/-! ### Screening (R33) and the frame timeout (R44) -/

/-- A packet that no open stream takes is discarded and counted as stray; in SLEEP it is not counted (R33). -/
def State.strayPacket (s : State) : State :=
  if s.mode = .sleep then s else { s with stray := bump s.stray }

/-- A packet is screened and handled (R33). -/
def State.takePacket (s : State) (p : Packet) : State :=
  if s.mode = .sleep then s
  else
    match p with
    | .stray => s.strayPacket
    | .frameStart stream number =>
      match eight? stream with
      | none => s.strayPacket
      | some i =>
        match s.stream i with
        | none => s.strayPacket
        | some _ => s.startFrame i number
    | .line stream index count pixels crc =>
      match eight? stream with
      | none => s.strayPacket
      | some i =>
        match s.stream i with
        | none => s.strayPacket
        | some r =>
          match r.state with
          | .receiving f => s.takeLine i r f index count pixels crc
          | .idle => s
          | .fixed => s
    | .frameEnd stream count =>
      match eight? stream with
      | none => s.strayPacket
      | some i =>
        match s.stream i with
        | none => s.strayPacket
        | some r =>
          match r.state with
          | .receiving f => s.takeFrameEnd i r f count
          | .idle => s
          | .fixed => s

/-- The running frame timeout of a stream (R44). -/
def State.frameTimer (s : State) (i : Fin 8) : Timer :=
  match s.stream i with
  | none => none
  | some r =>
    match r.state with
    | .receiving f => some f.timeout
    | .idle => none
    | .fixed => none

/-- The frame timeout expires with the frame in progress (R44). -/
def State.frameTimedOut (s : State) (i : Fin 8) : State :=
  ((s.modStream i (fun r => { r with counts := { r.counts with timeouts := bump r.counts.timeouts } })).post
    .streamTimeout i.val).endFrame i true

end Sys2Proof.Machine
end

