-- ==== Sys2Proof/Machine/Scaler.lean ====
section
/-! DEFINITION. From stored frame to screen pixels (spec/03 section 3.6), the lines of a frame on the forward channel
(R212), and the bytes of the safety window (R180). Exact integer arithmetic throughout. -/

namespace Sys2Proof.Machine

/-- The step of an axis (R53). -/
def axisStep (source dest : Nat) : Nat := source * 65536 / dest

/-- Where a destination column or line samples its axis: two source positions and a weight 0 to 255 (R68). -/
structure Sample where
  first : Nat
  second : Nat
  weight : Nat
deriving DecidableEq, Repr

/-- R68: destination position `i` on an axis of a step, a window start and a window length. -/
def axisSample (step start len i : Nat) : Sample :=
  let p : Int := (i : Int) * (step : Int) + ((step : Int) - 65536) / 2
  let q := p.toNat
  ⟨start + min (q / 65536) (len - 1), start + min (q / 65536 + 1) (len - 1), q % 65536 / 256⟩

/-- The filtered value of two samples (R70). -/
def mix (a b f : Nat) : Nat := (a * (256 - f) + b * f + 128) / 256

/-- A stored pixel as three 8-bit components (R69). -/
def expandPixel (format : Format) (bytes : List Byte) : Colour :=
  match format with
  | .rgb888 => ⟨byteAt bytes 0, byteAt bytes 1, byteAt bytes 2⟩
  | .rgb565 =>
    let w := (half bytes 0).toNat
    let r5 := w / 2048
    let g6 := w / 32 % 64
    let b5 := w % 32
    ⟨byteOf (8 * r5 + r5 / 4), byteOf (4 * g6 + g6 / 16), byteOf (8 * b5 + b5 / 4)⟩

/-- What the Scaler reads: the store, the slot's segments, its stream's configuration, the source window, and the size
of the destination. -/
structure ScalerSource where
  store : List Host.Cell
  segments : List Nat
  config : StreamConfig
  window : Rect
  destW : Nat
  destH : Nat

/-- The stored pixel at a canvas column and line (R6, R69). -/
def ScalerSource.pixel (q : ScalerSource) (x y : Nat) : Colour :=
  expandPixel q.config.format
    (slotBytes q.store q.segments ((y * q.config.width + x) * q.config.format.bytes) q.config.format.bytes)

/-- Both passes for one component of the four samples (R70). -/
def mixFour (a b c d : Byte) (fx fy : Nat) : Byte :=
  byteOf (mix (mix a.toNat b.toNat fx) (mix c.toNat d.toNat fx) fy)

/-- The scaled pixel at destination position (i, j) (R68 to R70). -/
def ScalerSource.scaled (q : ScalerSource) (i j : Nat) : Colour :=
  let cx := axisSample (axisStep q.window.w q.destW) q.window.x q.window.w i
  let cy := axisSample (axisStep q.window.h q.destH) q.window.y q.window.h j
  let a := q.pixel cx.first cy.first
  let b := q.pixel cx.second cy.first
  let c := q.pixel cx.first cy.second
  let d := q.pixel cx.second cy.second
  ⟨mixFour a.r b.r c.r d.r cx.weight cy.weight, mixFour a.g b.g c.g d.g cx.weight cy.weight,
    mixFour a.b b.b c.b d.b cx.weight cy.weight⟩

/-- What the Scaler reads for a frame: none when the content is BACKGROUND (R66, R67). It reads the slot as it stands; the
spec does not say what the lines still going out hold once OUTPUT_CONTROL OFF has released the slot (entry 41, DESIGN CHOICE). -/
def State.scalerSource (s : State) (f : TxFrame) : Option (ScalerSource × Rect) :=
  match f.content, f.slot, f.route.source with
  | .background, _, _ => none
  | _, none, _ => none
  | _, _, none => none
  | content, some ref, some p =>
    match s.stream ref.stream with
    | none => none
    | some r =>
      let window := if content = .fallback then ⟨0, 0, r.config.width, r.config.height⟩ else p.window
      some (⟨s.store, s.slotSegments ref, r.config, window, p.dest.w, p.dest.h⟩, p.dest)

/-- The 8-bit pixel of a frame at a screen column and line (R66). -/
def framePixel (source : Option (ScalerSource × Rect)) (background : Colour) (x y : Nat) : Colour :=
  match source with
  | none => background
  | some (q, d) =>
    if d.x ≤ x ∧ x < d.x + d.w ∧ d.y ≤ y ∧ y < d.y + d.h then q.scaled (x - d.x) (y - d.y) else background

/-- Reduction to 6 bits (R71). -/
def reduce6 (c : Byte) : Byte := byteOf (min 63 ((c.toNat + 2) / 4))

/-- A pixel at the depth of a tier (R71, R102). -/
def atDepth (tier : Tier) (c : Colour) : Colour :=
  match tier with
  | .t18 | .talt => ⟨reduce6 c.r, reduce6 c.g, reduce6 c.b⟩
  | .noTier | .t24 | .blocked => c

def Colour.bytes (c : Colour) : List Byte := [c.r, c.g, c.b]

/-- The pixel of a frame at the depth it is sent at. -/
def State.sentPixel (s : State) (f : TxFrame) (x y : Nat) : Colour :=
  atDepth f.tier (framePixel (s.scalerSource f) f.route.background x y)

/-- The byte string the CRC of a frame is computed over: the safety window in raster order (R180). -/
def State.windowBytes (s : State) (f : TxFrame) (w : Rect) : List Byte :=
  ((List.range w.h).map (fun j =>
    ((List.range w.w).map (fun i => (s.sentPixel f (w.x + i) (w.y + j)).bytes)).flatten)).flatten

/-! ### Lines on the forward channel (R212) -/

/-- The low six bits of a component, most significant first. -/
def sixBits (c : Byte) : List Bool :=
  [c.getLsbD 5, c.getLsbD 4, c.getLsbD 3, c.getLsbD 2, c.getLsbD 1, c.getLsbD 0]

def bitAt (bits : List Bool) (i : Nat) : Nat := if bits.getD i false then 1 else 0

/-- A bit string in bytes, most significant bit first, the last byte filled with 0 bits. -/
def packBits (bits : List Bool) : List Byte :=
  (List.range ((bits.length + 7) / 8)).map (fun k =>
    byteOf ((List.range 8).foldl (fun n i => 2 * n + bitAt bits (8 * k + i)) 0))

def linePixels (tier : Tier) (pixels : List Colour) : List Byte :=
  match tier with
  | .t18 | .talt => packBits ((pixels.map (fun c => sixBits c.r ++ sixBits c.g ++ sixBits c.b)).flatten)
  | .noTier | .t24 | .blocked => (pixels.map Colour.bytes).flatten

def HalfMark.code : HalfMark → Nat
  | .whole => 0
  | .first => 1
  | .second => 2

/-- Appends the CRC-16 over all of an item (R210, R212). -/
def withCrc16 (bytes : List Byte) : List Byte := bytes ++ halfBytes (crc16 bytes)

/-- Line `y` of a frame being sent: its header and its pixels (R127, R212). -/
def State.lineOnLink (s : State) (f : TxFrame) (y : Nat) : List Byte :=
  withCrc16 ([0x12#8, byteOf f.mark.code] ++ halfOf y ++ halfOf f.timing.hActive) ++
  linePixels f.tier ((List.range f.timing.hActive).map (fun x => s.sentPixel f x y))

/-- The lines of the frame being sent on a link, in order (R127): a view of the state. -/
def State.linesOnLink (s : State) (l : Fin 4) : List (List Byte) :=
  match (s.link l).sending with
  | none => []
  | some f => (List.range f.lines).map (fun k => s.lineOnLink f (f.firstLine + k))

end Sys2Proof.Machine
end

