-- ==== Sys2Proof/Machine/Integrity.lean ====
section
/-! DEFINITION. Content Integrity (spec/09): the context, freshness, the CRC queue, reports, integrity steps, requests. -/

namespace Sys2Proof.Machine

/-- A context as a SAFETY route apply sets it (R177). -/
def Context.new : Context := ⟨.waiting, none, .clean, false, 0, 0, [], 0⟩

/-- The context after a route is applied: new for SAFETY, none for NORMAL (R176, R177). -/
def contextFor (r : Route) : Option Context :=
  match r.safety with
  | none => none
  | some _ => some Context.new

/-! ### Freshness (R178, R179) -/

/-- A freshness evaluation: freshness and age after it, and the notice it posts (R178). A source that is a retained FIXED
STILL stream has its latest slot and last publish time at wake: the table of R178 then makes it FRESH within the timeout,
where R191 says WAITING until a publish since wake; the table is followed (entry 39, DESIGN CHOICE). -/
def evaluateFreshness (fr : Freshness) (published : Word) (hasLatest : Bool) (age : Option Word) (timeoutMs : Nat) :
    Freshness × Option NoticeKind :=
  let inTime := match age with
    | none => false
    | some a => decide (a.toNat ≤ timeoutMs * Config.ms)
  match fr with
  | .waiting => if hasLatest && inTime then (.fresh, none) else (.waiting, none)
  | .fresh => if inTime then (.fresh, none) else (.stale published, some .stale)
  | .stale base =>
    if inTime = true ∧ base.toNat + 2 ≤ published.toNat then (.fresh, some .fresh) else (.stale base, none)

/-- Freshness of an output at its vertical start (R178, R179). -/
def State.freshenOutput (s : State) (o : Fin 4) : State :=
  let v := s.output o
  match v.context, v.route.safety, v.route.source with
  | some c, some p, some src =>
    match s.stream src.stream with
    | none => s
    | some r =>
      let age := r.lastPublish.map (fun t => s.timeBase - t)
      let out := evaluateFreshness c.freshness r.published r.latest.isSome age p.timeoutMs
      let s' := s.setOutput o { v with context := some { c with freshness := out.1, age := age } }
      match out.2 with
      | none => s'
      | some k => s'.post k o.val
  | _, _, _ => s

/-! ### Integrity steps (R183 to R186) -/

/-- One step: a good comparison, a mismatch (of an injected record or not), or a missing report (R183). -/
inductive IntegrityStep where
  | good
  | mismatch (injected : Bool)
  | missing
deriving DecidableEq, Repr

/-- The comparison counters after a step (R183). -/
def Comparisons.count (k : Comparisons) : IntegrityStep → Comparisons
  | .good => { k with good := bump k.good }
  | .mismatch inj => { k with
      mismatch := bump k.mismatch
      injected := if inj then bump k.injected else k.injected }
  | .missing => { k with missing := bump k.missing }

/-- A good step: counters, and the state it leaves; yes when INTEGRITY is posted (R183 to R186). -/
def Context.goodStep (c : Context) (p : SafetyPart) : Context × Bool :=
  let c := { c with bad := 0, good := bump c.good }
  match c.integrity with
  | .clean => (c, false)
  | .suspect => ({ c with integrity := .clean }, false)
  | .fault =>
    if p.action = .notify ∧ 8 ≤ c.good.toNat then ({ c with integrity := .clean }, true) else (c, false)

/-- A bad step: counters, and at the threshold FAULT, BLANKED or another INTEGRITY (R183 to R186). -/
def Context.badStep (c : Context) (p : SafetyPart) : Context × Bool :=
  let c := { c with good := 0, bad := bump c.bad }
  let crossed := decide (p.threshold ≤ c.bad.toNat)
  match c.integrity with
  | .clean => if crossed then ({ c with integrity := .fault, bad := 0 }, true) else ({ c with integrity := .suspect }, false)
  | .suspect => if crossed then ({ c with integrity := .fault, bad := 0 }, true) else (c, false)
  | .fault =>
    if crossed then ({ c with bad := 0, blanked := c.blanked || p.action == .fallback }, true) else (c, false)

def Context.step (c : Context) (p : SafetyPart) : IntegrityStep → Context × Bool
  | .good => c.goodStep p
  | .mismatch _ => c.badStep p
  | .missing => c.badStep p

/-- One step of the integrity bookkeeping of an output (R183 to R186). -/
def State.integrityStep (s : State) (o : Fin 4) (e : IntegrityStep) : State :=
  let v := s.output o
  match v.context, v.route.safety with
  | some c, some p =>
    let out := c.step p e
    let s' := s.setOutput o { v with context := some out.1, comparisons := v.comparisons.count e }
    if out.2 then s'.post .integrity o.val else s'
  | _, _ => s

/-- Replaces the CRC queue of a context. -/
def State.setQueue (s : State) (o : Fin 4) (q : List CrcRecord) : State :=
  s.modOutput o (fun v => { v with context := v.context.map (fun c => { c with queue := q }) })

/-- `n` records removed as missing are `n` steps (R183). -/
def State.missingSteps (s : State) (o : Fin 4) : Nat → State
  | 0 => s
  | n + 1 => (s.integrityStep o .missing).missingSteps o n

/-! ### The CRC queue and reports (R181, R182) -/

/-- A frame is sent on an output with a context: its record is pushed (R181). -/
def State.pushCrc (s : State) (o : Fin 4) (seq : Half) (crc : Word) : State :=
  match (s.output o).context with
  | none => s
  | some c =>
    let injected := decide (0 < c.inject)
    let record : CrcRecord := ⟨seq, if injected then crc ^^^ 1#32 else crc, injected⟩
    let full := decide (4 ≤ c.queue.length)
    let queue := (if full then c.queue.drop 1 else c.queue) ++ [record]
    let s' := s.modOutput o (fun v => { v with
      context := v.context.map (fun c => { c with queue := queue, inject := c.inject - 1 }) })
    if full then s'.integrityStep o .missing else s'

/-- How many records of the queue come before the one with a tx sequence; none when no record holds it. -/
def olderThan (seq : Half) : List CrcRecord → Option (Nat × CrcRecord)
  | [] => none
  | q :: rest => if q.seq = seq then some (0, q) else (olderThan seq rest).map (fun p => (p.1 + 1, p.2))

/-- A CRC report reaches the Integrity Checker of output o (R182). -/
def State.takeReport (s : State) (o : Fin 4) (seq : Half) (crc : Word) : State :=
  match (s.output o).context with
  | none =>
    s.modOutput o (fun v => { v with comparisons := { v.comparisons with noContext := bump v.comparisons.noContext } })
  | some c =>
    match olderThan seq c.queue with
    | none => s.modOutput o (fun v => { v with comparisons := { v.comparisons with late := bump v.comparisons.late } })
    | some (n, record) =>
      ((s.setQueue o (c.queue.drop (n + 1))).missingSteps o n).integrityStep o
        (if crc = record.crc then .good else .mismatch record.injected)

/-- The queue is emptied without counting its records as missing (R187). -/
def State.emptyQueue (s : State) (o : Fin 4) : State := s.setQueue o []

/-! ### Requests (R188 to R190) -/

def crcInjectHandler (body : List Byte) (s : State) : Answer :=
  match four? (byteAt body 0) with
  | none => s.refuse .badArg
  | some o =>
    match (s.output o).context with
    | none => s.refuse .wrongState
    | some c =>
      let n := min 8 (max 1 (byteAt body 1).toNat)
      (s.modOutput o (fun v => { v with context := some { c with inject := n } })).done [byteOf n]

def integrityClearHandler (body : List Byte) (s : State) : Answer :=
  match four? (byteAt body 0) with
  | none => s.refuse .badArg
  | some o =>
    match (s.output o).context with
    | none => s.refuse .wrongState
    | some c =>
      (s.modOutput o (fun v => { v with
        context := some { c with integrity := .clean, blanked := false, bad := 0, good := 0 } })).done []

def Comparisons.bytes (k : Comparisons) : List Byte :=
  halfBytes k.good ++ halfBytes k.mismatch ++ halfBytes k.missing ++ halfBytes k.late ++ halfBytes k.injected ++
  halfBytes k.noContext

def Output.integrityBody (v : Output) : List Byte :=
  match v.context, v.route.safety with
  | some c, some p =>
    [1, byteOf p.action.code, byteOf p.threshold, byteOf c.freshness.code, flagByte c.age.isSome] ++ wordOr0 c.age ++
    [byteOf c.integrity.code, flagByte c.blanked] ++ halfBytes c.bad ++ halfBytes c.good ++
    [byteOf c.queue.length, byteOf c.inject] ++ v.comparisons.bytes
  | _, _ => List.replicate 17 0 ++ v.comparisons.bytes

def integrityStatusHandler (body : List Byte) (s : State) : Answer :=
  match four? (byteAt body 0) with
  | none => s.refuse .badArg
  | some o =>
    (s.modOutput o (fun v => { v with comparisons := ⟨0, 0, 0, 0, 0, 0⟩ })).done (s.output o).integrityBody

/-! ### Sleep (R191) -/

def Context.sleep (c : Context) : Context := { c with freshness := .waiting, age := none, queue := [] }

def State.integritySleep (s : State) : State :=
  { s with outputs := s.outputs.map (fun v => { v with context := v.context.map Context.sleep }) }

end Sys2Proof.Machine
end

