-- ==== Sys2Proof/Machine/Remote.lean ====
section
/-! DEFINITION. Remote devices (spec/07 section 7.3): the Alias Table, remote requests and responses, ration writes,
result records. -/

namespace Sys2Proof.Machine

/-! ### The Alias Table (R137, R138) -/

def State.alias? (s : State) (a : Byte) : Option AliasEntry := s.aliases.find? (fun e => e.aliasNo == a)

def aliasInRange (a : Byte) : Bool := decide (1 ≤ a.toNat ∧ a.toNat ≤ 127)

/-- The entry of an alias is replaced by a new one (R137). -/
def replaceAlias (table : List AliasEntry) (e : AliasEntry) : List AliasEntry :=
  table.map (fun x => if x.aliasNo = e.aliasNo then e else x)

def aliasSetHandler (body : List Byte) (s : State) : Answer :=
  let a := byteAt body 0
  let address := byteAt body 2
  match four? (byteAt body 1), yesNo? (byteAt body 3) with
  | some l, some posted =>
    if aliasInRange a = true ∧ 0x08 ≤ address.toNat ∧ address.toNat ≤ 0x77 then
      let e : AliasEntry := ⟨a, l, address, posted⟩
      if (s.alias? a).isSome then ({ s with aliases := replaceAlias s.aliases e } : State).done []
      else if s.aliases.length < 16 then ({ s with aliases := s.aliases ++ [e] } : State).done []
      else s.refuse .noRoom
    else s.refuse .badArg
  | _, _ => s.refuse .badArg

def aliasClearHandler (body : List Byte) (s : State) : Answer :=
  let a := byteAt body 0
  if aliasInRange a = true ∧ (s.alias? a).isSome then
    ({ s with aliases := s.aliases.filter (fun e => e.aliasNo != a) } : State).done []
  else s.refuse .badArg

/-! ### Sending (R141, R212) -/

/-- The forward channel item of a remote request (R212). Bits 2 to 7 of its byte 1, which R212 does not list, are 0 (entry
36). -/
def remoteItem (toggle : Bool) (request : RemoteRequest) (address offset : Byte) : List Byte :=
  match request with
  | .write data =>
    withCrc16 ([0x20#8, flagByte toggle, address, offset, byteOf data.length] ++ data)
  | .read count => withCrc16 [0x20#8, flagByte toggle + 2, address, offset, byteOf count]

/-- A request is sent on link l: the next toggle, an awaiting entry, a 10 ms watchdog (R141). -/
def State.sendRequest (s : State) (l : Fin 4) (request : RemoteRequest) (origin : Origin) (address offset : Byte) :
    State :=
  s.modLink l (fun v => { v with
    forward := v.forward ++ [remoteItem v.nextToggle request address offset]
    awaiting := v.awaiting ++ [⟨v.nextToggle, request, origin, 10 * Config.ms⟩]
    nextToggle := !v.nextToggle })

/-! ### Ration writes (R147, R171) -/

/-- The outcome of a ration write: a failure is counted (R171). -/
def State.rationOutcome (s : State) (l : Fin 4) (ok : Bool) : State :=
  if ok then s else s.modChannel l (fun c => { c with failedWrites := bump c.failedWrites })

def rationByte (a : RationAction) : RationWrite → Byte
  | .engage => a.engage
  | .restore => a.restore

/-- The Coax Power Switch asks for its pending write on link l (R147, R171): NO_ALIAS counts as sent and failed; a link
that is not UP or has no room leaves it pending. -/
def State.askRation (s : State) (l : Fin 4) : State :=
  let c := s.channel l
  match c.pendingByte, c.policy.action with
  | some w, some a =>
    let sent := s.modChannel l (fun c => { c with pendingByte := none, lastByte := some w })
    match (s.alias? a.aliasNo).filter (fun e => e.link == l) with
    | none => sent.rationOutcome l false
    | some e =>
      if (s.link l).state = .up ∧ (s.link l).room = true then
        sent.sendRequest l (.write [rationByte a w]) .ration e.address a.offset
      else s
  | _, _ => s

/-- Room gained on an UP link is offered to the Coax Power Switch (R147). -/
def State.offerRoom (s : State) (l : Fin 4) : State :=
  if (s.link l).state = .up ∧ (s.link l).room = true then s.askRation l else s

/-! ### Completion (R142 to R146) -/

/-- The outcome of a response (R142). -/
def responseOutcome (request : RemoteRequest) (ack : Bool) (data : List Byte) : ResultStatus :=
  match ack, request with
  | false, _ => .nack
  | true, .write sent => if data = sent then .ok else .checkError
  | true, .read count => if data.length = count then .ok else .checkError

/-- An entry leaves the list with an outcome, which goes by origin (R143 to R147). -/
def State.deliver (s : State) (l : Fin 4) (e : Awaiting) (outcome : ResultStatus) (data : List Byte) : State :=
  match e.origin with
  | .host =>
    (s.modLink l (fun v => { v with result := { v.result with
      status := outcome
      data := match outcome, e.request with
        | .ok, .read _ => data
        | _, _ => [] } })).post .remoteDone l.val
  | .posted =>
    if outcome = .ok then s else s.modLink l (fun v => { v with postedErrors := bump v.postedErrors })
  | .ration => s.rationOutcome l (outcome == .ok)

/-- Splits the awaiting list at the entry with a toggle: the older entries, the entry, the newer ones. -/
def splitAtToggle (toggle : Bool) : List Awaiting → Option (List Awaiting × Awaiting × List Awaiting)
  | [] => none
  | e :: rest =>
    if e.toggle = toggle then some ([], e, rest)
    else (splitAtToggle toggle rest).map (fun p => (e :: p.1, p.2.1, p.2.2))

/-- A remote response: toggle, ACK, data (11.5). -/
structure Response where
  toggle : Bool
  ack : Bool
  data : List Byte
deriving DecidableEq, Repr

/-- Entries removed unanswered because a newer one was answered: each counts one posted-write error (R142, R145). -/
def State.dropOlder (s : State) (l : Fin 4) (older : List Awaiting) : State :=
  s.modLink l (fun v => { v with postedErrors := bumpBy v.postedErrors older.length })

/-- A remote response reaches the Remote Transaction Unit (R142). The room it leaves is offered in the same step, so a host
request never goes ahead of the offer, an order that R147 also allows (entry 43, DESIGN CHOICE). -/
def State.takeResponse (s : State) (l : Fin 4) (r : Response) : State :=
  match splitAtToggle r.toggle (s.link l).awaiting with
  | none => s.modLink l (fun v => { v with seqErrors := bump v.seqErrors })
  | some (older, e, newer) =>
    (((s.dropOlder l older).modLink l (fun v => { v with awaiting := newer })).deliver l e
      (responseOutcome e.request r.ack r.data) r.data).offerRoom l

/-- The watchdog of the entry with a toggle (R144). -/
def State.watchdog (s : State) (l : Fin 4) (toggle : Bool) : Timer :=
  (splitAtToggle toggle (s.link l).awaiting).map (fun p => p.2.1.watchdog)

/-- The watchdog of the entry with a toggle expires (R144); the room it leaves is offered in the same step (entry 43). -/
def State.watchdogExpired (s : State) (l : Fin 4) (toggle : Bool) : State :=
  match splitAtToggle toggle (s.link l).awaiting with
  | none => s
  | some (older, e, newer) =>
    ((s.modLink l (fun v => { v with awaiting := older ++ newer })).deliver l e .timeout []).offerRoom l

/-- Link l leaves UP: the awaiting list is emptied (R146). -/
def State.remoteLinkLoss (s : State) (l : Fin 4) : State :=
  (s.link l).awaiting.foldl (fun t e => t.deliver l e .linkDown []) (s.modLink l (fun v => { v with awaiting := [] }))

/-! ### Requests (R140, R145, R148) -/

/-- A remote request that passes checks 1 and 2 of R140. -/
def State.hostRequest (s : State) (e : AliasEntry) (request : RemoteRequest) (offset : Byte) : Answer :=
  let kind : RemoteKind := match request with
    | .write _ => .write
    | .read _ => .read
  let posted := e.posted && kind == .write
  let withResult (t : State) (status : ResultStatus) : State :=
    t.modLink e.link (fun v => { v with result := ⟨status, some kind, e.aliasNo, posted, offset, []⟩ })
  if (s.link e.link).room = false then s.refuse .busy
  else if (s.link e.link).state ≠ .up then (withResult s .linkDown).done []
  else if posted then (withResult (s.sendRequest e.link request .posted e.address offset) .ok).done []
  else (withResult (s.sendRequest e.link request .host e.address offset) .pending).taken []

def remoteWriteHandler (body : List Byte) (s : State) : Answer :=
  let a := byteAt body 0
  let data := body.drop 3
  if aliasInRange a = true ∧ 1 ≤ data.length ∧ data.length ≤ 32 then
    match s.alias? a with
    | none => s.refuse .badArg
    | some e => s.hostRequest e (.write data) (byteAt body 1)
  else s.refuse .badArg

def remoteReadHandler (body : List Byte) (s : State) : Answer :=
  let a := byteAt body 0
  let count := (byteAt body 2).toNat
  if aliasInRange a = true ∧ 1 ≤ count ∧ count ≤ 32 then
    match s.alias? a with
    | none => s.refuse .badArg
    | some e => s.hostRequest e (.read count) (byteAt body 1)
  else s.refuse .badArg

def Result.bytes (r : Result) : List Byte :=
  [byteOf r.status.code,
   (match r.kind with
    | none => 0xFF
    | some k => byteOf k.code),
   r.aliasNo, flagByte r.posted, r.offset, byteOf r.data.length] ++ r.data

def remoteResultHandler (body : List Byte) (s : State) : Answer :=
  match four? (byteAt body 0) with
  | none => s.refuse .badArg
  | some l => s.done (s.link l).result.bytes

end Sys2Proof.Machine
end

