-- ==== Sys2Proof/Machine/Touch.lean ====
section
/-! DEFINITION. The touch queues (spec/07 section 7.4) and the screen status mirror (section 7.2). -/

namespace Sys2Proof.Machine

/-- On a queue newest first: the newest record of the contact takes a MOVE's position if it is a MOVE (R150 case 1). -/
def coalesceNewest (t : TouchRecord) : List TouchRecord → Option (List TouchRecord)
  | [] => none
  | q :: rest =>
    if q.contact = t.contact then
      match q.kind with
      | .move => some ({ q with x := t.x, y := t.y, time := t.time } :: rest)
      | .down => none
      | .up => none
    else (coalesceNewest t rest).map (fun r => q :: r)

/-- A MOVE merged into the queue, oldest first; none when it cannot be merged. -/
def coalesce (t : TouchRecord) (queue : List TouchRecord) : Option (List TouchRecord) :=
  match t.kind with
  | .move => (coalesceNewest t queue.reverse).map List.reverse
  | .down => none
  | .up => none

/-- The queue without its oldest MOVE; none when no MOVE is queued (R150 case 3). -/
def dropOldestMove : List TouchRecord → Option (List TouchRecord)
  | [] => none
  | q :: rest =>
    match q.kind with
    | .move => some rest
    | .down => (dropOldestMove rest).map (fun r => q :: r)
    | .up => (dropOldestMove rest).map (fun r => q :: r)

/-- What a touch record does to the queue and whether it is counted as overflow (R150). -/
def touchQueueAfter (t : TouchRecord) (queue : List TouchRecord) : List TouchRecord × Bool :=
  match coalesce t queue with
  | some q => (q, false)
  | none =>
    if queue.length < 16 then (queue ++ [t], false)
    else
      match t.kind with
      | .move => (queue, true)
      | .down | .up =>
        match dropOldestMove queue with
        | some q => (q ++ [t], true)
        | none => (queue, true)

/-- A touch record of a valid status record (R149 to R151). -/
def State.takeTouch (s : State) (l : Fin 4) (t : TouchRecord) : State :=
  if 9 < t.contact then s.modLink l (fun v => { v with touchInvalid := bump v.touchInvalid })
  else
    let before := (s.link l).touch
    let out := touchQueueAfter t before
    let s' := s.modLink l (fun v => { v with
      touch := out.1
      touchOverflow := if out.2 then bump v.touchOverflow else v.touchOverflow })
    if before.isEmpty then s'.post .touch l.val else s'

/-- The queue is cleared and its records counted as lost (R152). -/
def Link.clearTouch (v : Link) : Link := { v with touch := [], touchLost := bumpBy v.touchLost v.touch.length }

def TouchRecord.bytes (t : TouchRecord) : List Byte :=
  [byteOf (t.contact + 16 * t.kind.code)] ++ halfBytes t.x ++ halfBytes t.y ++ halfBytes t.time

/-- TOUCH_FETCH (R151). -/
def touchFetchHandler (body : List Byte) (s : State) : Answer :=
  match four? (byteAt body 0) with
  | none => s.refuse .badArg
  | some l =>
    let v := s.link l
    (s.modLink l (fun v => { v with touch := [], touchOverflow := 0, touchLost := 0, touchInvalid := 0 })).done
      ([byteOf v.touch.length] ++ halfBytes v.touchOverflow ++ halfBytes v.touchLost ++ halfBytes v.touchInvalid ++
        (v.touch.map TouchRecord.bytes).flatten)

/-- The mirror takes the status bytes of a valid record (R135). -/
def State.takeMirror (s : State) (l : Fin 4) (bytes : Four Byte) : State :=
  if (s.link l).mirror = bytes then s
  else (s.modLink l (fun v => { v with mirror := bytes, mirrorChanged := true })).post .screenStatus l.val

/-- SCREEN_STATUS, the request (R136). -/
def screenStatusHandler (body : List Byte) (s : State) : Answer :=
  match four? (byteAt body 0) with
  | none => s.refuse .badArg
  | some l =>
    (s.modLink l (fun v => { v with mirrorChanged := false })).done
      ((s.link l).mirror.toList ++ [flagByte (s.link l).mirrorChanged])

end Sys2Proof.Machine
end

