-- ==== Sys2Proof/Machine/Link.lean ====
section
/-! DEFINITION. Downstream Links (spec/06): policy, training and the drive search, monitoring, retraining, requests,
sleep and wake. -/

namespace Sys2Proof.Machine

def State.postLink (s : State) (l : Fin 4) : State := s.post .linkState l.val

/-! ### Leaving UP and winding down (R110 to R112) -/

/-- The link leaves UP: the hand-over to its neighbours (R112). -/
def State.leaveUp (s : State) (l : Fin 4) : State :=
  (((s.modLink l (fun v => { v with
      errorWindow := none
      windowSum := 0
      sending := none
      halfPending := false
      lastConfig := none })).remoteLinkLoss l).emptyQueue l).modLink l (fun v => { v with lockChanged := true })

/-- A search stops and every timer of the link stops (R110 item 2). -/
def Link.stopTimers (v : Link) : Link :=
  { v with search := none, backWait := none, silence := none, errorWindow := none, retry := none }

/-- The rx-lock mirror becomes NOT_LOCKED (R110 item 5). -/
def Link.unlock (v : Link) : Link := { v with rxLock := false, lockChanged := v.lockChanged || v.rxLock }

/-- The demotion ends (R110 item 6, R126). -/
def Link.endDemotion (v : Link) : Link := { v with demoted := false, history := [] }

/-- Items 1 to 6 of R110, which R111 and R130 share. -/
def State.windDown (s : State) (l : Fin 4) : State :=
  (if (s.link l).state = .up then s.leaveUp l else s).modLink l
    (fun v => v.stopTimers.clearTouch.unlock.endDemotion)

/-- The link goes down into DISABLED or WAIT_POWER, one LINK_STATE posted and the tier evaluated once (R110, R111). -/
def State.goDown (s : State) (l : Fin 4) (target : LinkState) : State :=
  ((((s.windDown l).modLink l (fun v => { v with state := target })).postLink l).evaluate l)

/-! ### The drive search (R113 to R122) -/

/-- The start value s of a policy (R108). -/
def LinkPolicy.startSetting (p : LinkPolicy) : Nat :=
  match p.start with
  | .middle => (p.driveMin + p.driveMax) / 2
  | .low => p.driveMin

/-- The rates of a search, in order (R114). -/
def searchRates (p : LinkPolicy) (demoted : Bool) : List Rate :=
  match p.rate with
  | .auto => if demoted then [.half] else [.full, .half]
  | .fullOnly => [.full]
  | .halfOnly => [.half]

/-- The settings of a pass in the order that alternates around c (R115). -/
def passOrder (lo hi c : Nat) : List Nat :=
  (c :: ((List.range 15).map (fun k => (c + (k + 1)) :: (if k + 1 ≤ c then [c - (k + 1)] else []))).flatten).filter
    (fun d => decide (lo ≤ d ∧ d ≤ hi))

/-- A candidate begins at drive setting d, with what the search has left after it (R116). -/
def Link.beginCandidate (v : Link) (d : Nat) (settings : List Nat) (rates : List Rate) : Link :=
  { v with
    drive := d
    search := some ⟨settings, rates, v.searchPolicy.dwellMs * Config.ms,
      if v.searchPolicy.twoStep then some (v.searchPolicy.dwellMs * Config.ms / 2) else none, none, none⟩
    silence := some (5 * Config.ms) }

/-- A pass begins at first candidate c (R115). -/
def Link.beginPass (v : Link) (c : Nat) (rates : List Rate) : Link :=
  match passOrder v.searchPolicy.driveMin v.searchPolicy.driveMax c with
  | [] => v.beginCandidate c [] rates
  | d :: rest => v.beginCandidate d rest rates

/-- The link enters TRAINING: policy copied, start setting and first rate, back-channel wait of 50 ms; LINK_STATE posted
(R113, R114). -/
def State.enterTraining (s : State) (l : Fin 4) : State :=
  (s.modLink l (fun v => { v.stopTimers with
    state := .training
    searchPolicy := v.policy
    drive := v.policy.startSetting
    rate := (searchRates v.policy v.demoted).headD v.rate
    backWait := some (50 * Config.ms) })).postLink l

/-- The first valid record of TRAINING ends the wait and begins the first candidate (R113). -/
def State.endBackWait (s : State) (l : Fin 4) : State :=
  s.modLink l (fun v => { v with backWait := none }.beginPass v.searchPolicy.startSetting
    ((searchRates v.searchPolicy v.demoted).drop 1))

/-- The link enters FAILED (R122). -/
def State.enterFailed (s : State) (l : Fin 4) (cause : FailureCause) : State :=
  (s.modLink l (fun v => { v.stopTimers with
    state := .failed
    cause := cause
    retry := some (1000 * Config.ms) })).postLink l

/-- A candidate fails: the next candidate, the next pass, or FAILED (R116, R121). -/
def State.candidateFails (s : State) (l : Fin 4) : State :=
  match (s.link l).search with
  | none => s
  | some c =>
    match c.settings, c.rates with
    | d :: rest, rates => s.modLink l (fun v => v.beginCandidate d rest rates)
    | [], r :: rates =>
      (s.modLink l (fun v => { v with rate := r }.beginPass v.searchPolicy.startSetting rates)).postLink l
    | [], [] => s.enterFailed l .noSetting

/-- A candidate passes: the link enters UP (R119, R139, R99 item 4), and its room is offered in the same step (entry 43). -/
def State.candidatePasses (s : State) (l : Fin 4) : State :=
  (((s.modLink l (fun v => { v with
    state := .up
    search := none
    errorWindow := some (100 * Config.ms)
    windowSum := 0
    lastConfig := none
    lockChanged := true
    awaiting := []
    nextToggle := false })).postLink l).evaluate l).offerRoom l

/-- A search is under way: TRAINING after its back-channel wait, or RETRAIN (R107). -/
def Link.candidate (v : Link) : Option Search :=
  match v.state with
  | .training | .retrain => v.search
  | .disabled | .waitPower | .up | .failed => none

/-- The back-channel wait of TRAINING expires (R113). -/
def State.backWaitExpired (s : State) (l : Fin 4) : State :=
  if (s.link l).state = .training then s.enterFailed l .noBackchannel else s

/-- The retry timer of FAILED expires (R122). -/
def State.retryExpired (s : State) (l : Fin 4) : State :=
  if (s.link l).state = .failed then s.enterTraining l else s

/-- The half-dwell point of a two-step candidate (R118 step 1). -/
def State.halfDwell (s : State) (l : Fin 4) : State :=
  match (s.link l).candidate with
  | none => s
  | some c =>
    if c.seen = some true then
      s.modLink l (fun v => { v with search := some { c with halfDwell := none, sum := some 0 } })
    else s.candidateFails l

/-- The dwell expiry decides the candidate (R117, R118, entry 27). -/
def State.dwellExpired (s : State) (l : Fin 4) : State :=
  match (s.link l).candidate with
  | none => s
  | some c => if c.seen = some true then s.candidatePasses l else s.candidateFails l

/-- A valid record is weighed for the candidate under way (R117, R118, R120). -/
def State.weigh (s : State) (l : Fin 4) (lock : Bool) (errors : Nat) : State :=
  match (s.link l).search with
  | none => s
  | some c =>
    let counted := { c with seen := some lock, sum := c.sum.map (fun n => n + errors) }
    let s' := s.modLink l (fun v => { v with search := some counted, silence := some (5 * Config.ms) })
    match counted.sum with
    | none => s'
    | some n =>
      if lock = false ∨ (s.link l).searchPolicy.candidateThreshold < n then s'.candidateFails l else s'

/-! ### Retraining (R125, R126) -/

/-- The demotion check at a RETRAIN entry (R126). -/
def Link.demotionCheck (v : Link) (now : Word) : Link :=
  if v.searchPolicy.rate = .auto ∧ v.rate = .full then
    let h := v.history.filter (fun t => decide ((now - t).toNat ≤ 10000 * Config.ms)) ++ [now]
    if 3 ≤ h.length then { v with demoted := true, history := [] } else { v with history := h }
  else v

/-- A RETRAIN search: policy copied, current rate and drive setting where they fit (R114). -/
def Link.beginRetrain (v : Link) : Link :=
  let rates := searchRates v.policy v.demoted
  let rate := if rates.contains v.rate then v.rate else rates.headD v.rate
  let c := if v.policy.driveMin ≤ v.drive ∧ v.drive ≤ v.policy.driveMax then v.drive else v.policy.startSetting
  { v with state := .retrain, searchPolicy := v.policy, rate := rate }.beginPass c
    ((rates.dropWhile (fun r => r != rate)).drop 1)

/-- An UP link enters RETRAIN (R125). -/
def State.enterRetrain (s : State) (l : Fin 4) : State :=
  (((((s.modLink l (fun v => { v with retrains := bump v.retrains }.demotionCheck s.timeBase)).leaveUp l).modLink l
    Link.beginRetrain).postLink l).evaluate l)

/-- The silence timer expires: a candidate fails, an UP link retrains (R116, R125). -/
def State.silenceExpired (s : State) (l : Fin 4) : State :=
  match (s.link l).state with
  | .up => s.enterRetrain l
  | .training | .retrain => s.candidateFails l
  | .disabled | .waitPower | .failed => s

/-- An error window expires and the next one starts (R123). -/
def State.windowExpired (s : State) (l : Fin 4) : State :=
  s.modLink l (fun v => { v with windowSum := 0, errorWindow := some (100 * Config.ms) })

/-! ### Status records at the Link Transmitter (R123, R124) -/

/-- Symbol errors and rx lock of a valid record, in any state but DISABLED (R124). -/
def Link.takeCounts (v : Link) (lock : Bool) (errors : Nat) : Link :=
  { v with
    symbolErrors := bumpWordBy v.symbolErrors errors
    lockChanged := v.lockChanged || (v.rxLock != lock)
    rxLock := lock }

/-- A valid record on an UP link (R123, R125). -/
def State.monitor (s : State) (l : Fin 4) (lock : Bool) (errors : Nat) : State :=
  let s' := s.modLink l (fun v => { v with windowSum := v.windowSum + errors, silence := some (5 * Config.ms) })
  if (s.link l).searchPolicy.retrainThreshold < (s.link l).windowSum + errors ∨ lock = false then s'.enterRetrain l
  else s'

/-- A valid record reaches the Link Transmitter (R124). -/
def State.takeLock (s : State) (l : Fin 4) (lock : Bool) (errors : Nat) : State :=
  let s' := s.modLink l (fun v => v.takeCounts lock errors)
  match (s.link l).state with
  | .disabled => s
  | .waitPower => s'
  | .failed => s'
  | .training => if (s.link l).search.isNone then s'.endBackWait l else s'.weigh l lock errors
  | .retrain => s'.weigh l lock errors
  | .up => s'.monitor l lock errors

/-! ### Power, sleep and wake (R111, R130, R131) -/

/-- A DISABLED link comes up: TRAINING when its channel is ACTIVE, else WAIT_POWER; one LINK_STATE (R109, R131). -/
def State.enableLink (s : State) (l : Fin 4) : State :=
  if (s.channel l).state = .active then s.enterTraining l
  else (s.modLink l (fun v => { v with state := .waitPower })).postLink l

/-- Power channel l enters ACTIVE (R111). -/
def State.linkPowered (s : State) (l : Fin 4) : State :=
  if (s.link l).state = .waitPower then s.enterTraining l else s

/-- Power channel l leaves ACTIVE other than at sleep entry (R111). -/
def State.linkUnpowered (s : State) (l : Fin 4) : State :=
  if (s.link l).state = .disabled then s else s.goDown l .waitPower

/-- Sleep entry of a link (R130). -/
def State.linkSleep (s : State) (l : Fin 4) : State :=
  if (s.link l).state = .disabled then s else s.goDown l .disabled

/-- Wake of a link (R131). -/
def State.linkWake (s : State) (l : Fin 4) : State :=
  if (s.link l).intent = true ∧ (s.link l).state = .disabled then s.enableLink l else s

/-- SOFT_RESET of a link: UP is left first (R132). What went out on the forward channel stays on record (entry 12). -/
def State.linkSoftReset (s : State) (l : Fin 4) : State :=
  (if (s.link l).state = .up then s.leaveUp l else s).modLink l (fun v => { Link.reset with forward := v.forward })

/-! ### Requests (R108 to R110, R125, R129) -/

/-- The allowed dwell of a requested one (R108). -/
def effectiveDwell (n : Nat) : Nat := if n ≤ 2 then 2 else if n ≤ 4 then 4 else if n ≤ 8 then 8 else 16

def readLinkPolicy (body : List Byte) : Option LinkPolicy :=
  let lo := (byteAt body 1).toNat
  let hi := (byteAt body 2).toNat
  match StartPoint.ofByte? (byteAt body 3), yesNo? (byteAt body 5), RatePolicy.ofByte? (byteAt body 9) with
  | some start, some twoStep, some rate =>
    if hi ≤ 15 ∧ lo ≤ hi then
      some ⟨lo, hi, start, effectiveDwell (byteAt body 4).toNat, twoStep, (byteAt body 6).toNat,
        max 1 (half body 7).toNat, rate⟩
    else none
  | _, _, _ => none

def LinkPolicy.bytes (p : LinkPolicy) : List Byte :=
  [byteOf p.driveMin, byteOf p.driveMax, byteOf p.start.code, byteOf p.dwellMs, flagByte p.twoStep,
   byteOf p.candidateThreshold] ++ halfOf p.retrainThreshold ++ [byteOf p.rate.code]

/-- LINK_POLICY (R108, R99 item 6). -/
def linkPolicyHandler (body : List Byte) (s : State) : Answer :=
  match four? (byteAt body 0), readLinkPolicy body with
  | some l, some p => ((s.modLink l (fun v => { v with policy := p })).evaluate l).done (byteAt body 0 :: p.bytes)
  | _, _ => s.refuse .badArg

/-- LINK_CONTROL: ENABLE, DISABLE, RETRAIN (R109, R110, R125). -/
def linkControlHandler (body : List Byte) (s : State) : Answer :=
  match four? (byteAt body 0) with
  | none => s.refuse .badArg
  | some l =>
    match (byteAt body 1).toNat, (s.link l).state with
    | 0, .disabled => ((s.modLink l (fun v => { v with intent := true })).enableLink l).done []
    | 0, _ => s.done []
    | 1, .disabled => s.done []
    | 1, _ => ((s.goDown l .disabled).modLink l (fun v => { v with intent := false })).done []
    | 2, .up => (s.enterRetrain l).done []
    | 2, .training | 2, .retrain => s.done []
    | 2, .failed => (s.enterTraining l).done []
    | 2, .disabled | 2, .waitPower => s.refuse .wrongState
    | _, _ => s.refuse .badArg

def Link.statusBody (v : Link) : List Byte :=
  [byteOf v.state.code, flagByte v.intent, byteOf v.rate.code, byteOf v.drive, flagByte v.demoted, byteOf v.cause.code,
   flagByte v.rxLock] ++ halfBytes v.retrains ++ v.policy.bytes ++ wordBytes v.symbolErrors ++
  halfBytes v.badRecords ++ halfBytes v.seqErrors ++ halfBytes v.postedErrors ++ [flagByte v.lockChanged]

/-- LINK_STATUS (R129). -/
def linkStatusHandler (body : List Byte) (s : State) : Answer :=
  match four? (byteAt body 0) with
  | none => s.refuse .badArg
  | some l =>
    (s.modLink l (fun v => { v with
      symbolErrors := 0, badRecords := 0, seqErrors := 0, postedErrors := 0, lockChanged := false })).done
      (s.link l).statusBody

end Sys2Proof.Machine
end

