-- ==== Sys2Proof/Machine/BackChannel.lean ====
section
/-! DEFINITION. Status records (spec/07 section 7.1, R211): reading one and handing on its parts. -/

namespace Sys2Proof.Machine

/-- The parts of a valid status record (7.1). -/
structure StatusRecord where
  lock : Bool
  errors : Nat
  status : Four Byte
  report : Option (Half × Word)
  touches : List TouchRecord
  response : Option Response
deriving DecidableEq, Repr

/-- A touch record of seven bytes at an offset; none for a kind code of 3 (R211). -/
def readTouch (bytes : List Byte) (i : Nat) : Option TouchRecord :=
  let b := (byteAt bytes i).toNat
  (TouchKind.ofCode? (b / 16 % 4)).map (fun k => ⟨b % 16, k, half bytes (i + 1), half bytes (i + 3), half bytes (i + 5)⟩)

/-- `n` touch records from an offset on. -/
def readTouches (bytes : List Byte) : Nat → Nat → Option (List TouchRecord)
  | 0, _ => some []
  | n + 1, i =>
    match readTouch bytes i, readTouches bytes n (i + 7) with
    | some t, some rest => some (t :: rest)
    | _, _ => none

/-- Reads a status record; none when it is bad (R133, R211). -/
def readStatus (bytes : List Byte) : Option StatusRecord :=
  let flags := byteAt bytes 0
  let t := flags.toNat / 16 % 8
  let reportAt := 6
  let touchAt := if flags.getLsbD 1 then 12 else 6
  let headerAt := touchAt + 7 * t
  let header := byteAt bytes headerAt
  let n := header.toNat / 4
  let checkAt := if flags.getLsbD 2 then headerAt + 1 + n else headerAt
  if bytes.length ≠ checkAt + 2 ∨ 4 < t ∨ (flags.getLsbD 2 = true ∧ 32 < n) ∨
      crc16 (bytes.take checkAt) ≠ half bytes checkAt then none
  else
    (readTouches bytes t touchAt).map (fun touches =>
      { lock := flags.getLsbD 0
        errors := (byteAt bytes 1).toNat
        status := ⟨byteAt bytes 2, byteAt bytes 3, byteAt bytes 4, byteAt bytes 5⟩
        report := if flags.getLsbD 1 then some (half bytes reportAt, word bytes (reportAt + 2)) else none
        touches := touches
        response :=
          if flags.getLsbD 2 then
            some ⟨header.getLsbD 0, header.getLsbD 1, (bytes.drop (headerAt + 1)).take n⟩
          else none })

/-- A valid record is handed on part by part (R134). -/
def State.handOn (s : State) (l : Fin 4) (r : StatusRecord) : State :=
  let mirrored := s.takeMirror l r.status
  let touched := r.touches.foldl (fun t x => t.takeTouch l x) mirrored
  let answered := match r.response with
    | none => touched
    | some x => touched.takeResponse l x
  let compared := match r.report with
    | none => answered
    | some (seq, crc) => answered.takeReport l seq crc
  compared.takeLock l r.lock r.errors

/-- A status record arrives on link l (R133, R134). -/
def State.takeRecord (s : State) (l : Fin 4) (bytes : List Byte) : State :=
  if (s.link l).state = .disabled then s
  else
    match readStatus bytes with
    | none => s.modLink l (fun v => { v with badRecords := bump v.badRecords })
    | some r => s.handOn l r

end Sys2Proof.Machine
end

