-- ==== Sys2Proof/Machine/Power.lean ====
section
/-! DEFINITION. Coax Power (spec/08): channel states, faults and recovery, samples, the budget with rationing and
SUPPLY_BOOST, requests, sleep and wake. -/

namespace Sys2Proof.Machine

/-! ### State changes (R154, R160 to R162) -/

/-- A channel in a new state: every timer and run of the old one stops, and the blip flag is cleared (R160, R163). -/
def Channel.settle (v : Channel) (state : ChannelState) : Channel :=
  { v with
    state := state
    dischargeTimer := none
    coolDown := none
    activeTimer := none
    blipHold := none
    blip := false
    waiting := false
    attachRun := 0
    removalRun := 0
    overRun := 0 }

def State.postPower (s : State) (c : Fin 4) : State := s.post .powerState c.val

/-- Hands a departure from ACTIVE to the link (R161). -/
def State.handLoss (s : State) (c : Fin 4) (wasActive : Bool) : State := if wasActive then s.linkUnpowered c else s

/-- The channel enters ACTIVE (R161). -/
def State.enterActive (s : State) (c : Fin 4) : State :=
  ((s.modChannel c (fun v => { v.settle .active with activeTimer := some (10000 * Config.ms) })).postPower c).linkPowered c

def State.enterDetect (s : State) (c : Fin 4) : State := (s.modChannel c (fun v => v.settle .detect)).postPower c

/-- The channel enters OFF; `wait` when it waits there as a FORCED channel (R157). -/
def State.enterOff (s : State) (c : Fin 4) (wait : Bool) : State :=
  (s.modChannel c (fun v => { v.settle .off with current := 0, waiting := wait })).postPower c

/-- The channel enters DISCHARGE for 50 ms (R160). -/
def State.enterDischarge (s : State) (c : Fin 4) (target : Target) : State :=
  ((s.modChannel c (fun v => { v.settle (.discharge target) with
    current := 0
    dischargeTimer := some (50 * Config.ms) })).postPower c).handLoss c ((s.channel c).state == .active)

/-- A channel that has just faulted: cause, counter, latch, cool-down (R162, R165); out of DISCHARGE by SHUTDOWN the
discharge element stays on for the rest of its 50 ms (R164). -/
def Channel.faulted (v : Channel) (cause : PowerCause) : Channel :=
  let faults := bump v.faults
  let latched := v.latched || v.policy.handling == .latch || decide (8 ≤ faults.toNat)
  { v.settle .fault with
    current := 0
    cause := cause
    faults := faults
    latched := latched
    coolDown := if latched then none else some (500 * Config.ms)
    dischargeTimer := match v.state with
      | .discharge _ => v.dischargeTimer
      | .off | .detect | .active | .fault => none }

/-- The channel enters FAULT (R162). -/
def State.enterFault (s : State) (c : Fin 4) (cause : PowerCause) : State :=
  ((s.modChannel c (fun v => v.faulted cause)).postPower c).handLoss c ((s.channel c).state == .active)

/-! ### On and off (R157, R158, R167) -/

/-- POWER_CONTROL ON, and wake of a channel with on-intent (R157, R174). -/
def State.powerOn (s : State) (c : Fin 4) : State :=
  let s := s.modChannel c (fun v => { v with intent := true })
  let v := s.channel c
  match v.state with
  | .off =>
    if s.thermal = .shutdown then s.enterFault c .thermal
    else
      match v.policy.mode with
      | .auto => s.enterDetect c
      | .forced =>
        if s.supply = .good then s.enterActive c else s.modChannel c (fun v => { v with waiting := true })
  | .discharge .off =>
    s.modChannel c (fun v => { v with state := .discharge (match v.policy.mode with
      | .auto => Target.detect
      | .forced => Target.active) })
  | .discharge .detect | .discharge .active | .detect | .active | .fault => s

/-- POWER_CONTROL OFF (R158). -/
def State.powerOff (s : State) (c : Fin 4) : State :=
  let s := s.modChannel c (fun v => { v with intent := false })
  match (s.channel c).state with
  | .off => s.modChannel c (fun v => { v with waiting := false })
  | .detect | .active => s.enterDischarge c .off
  | .discharge _ => s.modChannel c (fun v => { v with state := .discharge .off })
  | .fault => if (s.channel c).latched then s else s.enterOff c false

/-- FORCED channels that wait in OFF enter ACTIVE once the supply is good and the part is not in SHUTDOWN (R157). -/
def State.releaseWaiting (s : State) : State :=
  if s.supply = .good ∧ s.thermal ≠ .shutdown then
    forEach allFour (fun c t =>
      if (t.channel c).waiting = true ∧ (t.channel c).state = .off then t.enterActive c else t) s
  else s

/-- The supply comparators show a level (R155, entry 8). -/
def State.setSupply (s : State) (level : Supply) : State := { s with supply := level }.releaseWaiting

/-! ### Rationing (R169 to R171) -/

/-- The priority values present among channels with a ration action, lowest priority first (R170). -/
def State.prioritiesPresent (s : State) : List Nat :=
  [3, 2, 1, 0].filter (fun p => s.channels.toList.any (fun v => v.policy.action.isSome && v.policy.priority == p))

/-- The maximum level M (R169). -/
def State.maxLevel (s : State) : Nat := s.prioritiesPresent.length

/-- Is a channel in the rationed set at the present level (R170)? -/
def State.inRationedSet (s : State) (c : Fin 4) : Bool :=
  let p := (s.channel c).policy
  p.action.isSome && (s.prioritiesPresent.take s.level).contains p.priority

/-- A channel's rationed flag and ration write record follow the set; `fresh` when its ration action has just been
changed (R171, entry 19). -/
def State.reration (s : State) (c : Fin 4) (fresh : Bool) : State :=
  let want := s.inRationedSet c
  let v := s.channel c
  let write : RationWrite := if want then .engage else .restore
  if fresh then
    (s.modChannel c (fun v => { v with
      rationed := want
      lastByte := none
      pendingByte := if want then some .engage else none })).askRation c
  else if want = v.rationed then s
  else
    (s.modChannel c (fun v => { v with
      rationed := want
      pendingByte := if v.lastByte = some write then none else some write })).askRation c

/-- The rationed set is recomputed (R170). -/
def State.recompute (s : State) (changed : Option (Fin 4)) : State :=
  forEach allFour (fun c t => t.reration c (changed == some c)) s

/-- Over budget and below M (R169). -/
def State.overCondition (s : State) : Bool := decide (s.budget < s.total ∧ s.level < s.maxLevel)

/-- Under budget and above 0 (R169). -/
def State.underCondition (s : State) : Bool := decide (s.total * 10 ≤ s.budget * 9 ∧ 0 < s.level)

/-- A timer that runs while its condition holds. -/
def runWhile (holds : Bool) (t : Timer) (duration : Nat) : Timer :=
  if holds then some (t.getD duration) else none

/-- The total is formed: budget timers and SUPPLY_BOOST (R168, R169, R172). -/
def State.formTotal (s : State) : State :=
  let above := decide (s.boostThreshold < s.total)
  let held := s.boostHold.getD 0 == 0
  { s with
    overTimer := runWhile s.overCondition s.overTimer (1000 * Config.ms)
    underTimer := runWhile s.underCondition s.underTimer (5000 * Config.ms)
    boost := if s.boost then above || !held else above
    boostHold := if s.boost then (if !above && held then none else s.boostHold)
      else if above then some (20 * Config.ms) else none }

/-- The level changes, POWER_BUDGET is posted and the rationed set recomputed (R169, R170). -/
def State.setLevel (s : State) (level : Nat) (changed : Option (Fin 4)) : State :=
  (({ s with level := level }.post .powerBudget 0).recompute changed)

/-- 1 s over budget (R169), by the budget as it stands, one set since the last formation included (entry 35). -/
def State.overExpired (s : State) : State :=
  let raised := { s with level := s.level + 1 }
  let timed := { s with overTimer := if raised.overCondition then some (1000 * Config.ms) else none }
  if s.level < s.maxLevel then timed.setLevel (s.level + 1) none else { s with overTimer := none }

/-- 5 s under budget (R169), by the budget as it stands, one set since the last formation included (entry 35). -/
def State.underExpired (s : State) : State :=
  let lowered := { s with level := s.level - 1 }
  let timed := { s with underTimer := if lowered.underCondition then some (5000 * Config.ms) else none }
  if 0 < s.level then timed.setLevel (s.level - 1) none else { s with underTimer := none }

/-! ### Samples (R155, R159, R160, R162) -/

/-- The conditions judged at a sample of a channel (R159, R160, R162). -/
def State.judgeSample (s : State) (c : Fin 4) (mA : Nat) : State :=
  let v := s.channel c
  match v.state with
  | .off | .discharge _ | .fault => s
  | .detect =>
    let run := if 15 < mA ∧ s.supply = .good then v.attachRun + 1 else 0
    if 21 ≤ run then s.enterActive c else s.modChannel c (fun v => { v with attachRun := run })
  | .active =>
    let exceeding := if v.policy.limit < mA then v.overRun + 1 else 0
    let gone := if mA < 5 ∧ v.policy.mode = .auto then v.removalRun + 1 else 0
    if 2 * v.policy.limit < mA then s.enterFault c .short
    else if 3 ≤ exceeding then s.enterFault c .overcurrent
    else if 201 ≤ gone then s.enterDischarge c .detect
    else s.modChannel c (fun v => { v with overRun := exceeding, removalRun := gone })

/-- A sample is the measured current only in DETECT and ACTIVE (R155). -/
def Channel.measure (v : Channel) (mA : Half) : Channel :=
  match v.state with
  | .detect | .active => { v with current := mA }
  | .off | .discharge _ | .fault => { v with current := 0 }

/-- A current sample of a channel, with the supply as it stands (R155, R168, entry 17). -/
def State.takeSample (s : State) (c : Fin 4) (mA : Half) (supply : Supply) : State :=
  (((s.setSupply supply).modChannel c (fun v => v.measure mA)).formTotal).judgeSample c mA.toNat

/-! ### Voltage conditions and back-drive (R162, R163) -/

/-- The supply has been low for 1 ms (R162, entry 33). -/
def State.undervoltage (s : State) (c : Fin 4) : State :=
  let s := s.setSupply .low
  if (s.channel c).state = .active then s.enterFault c .undervoltage else s

/-- Back-drive begins (R163, entry 20). -/
def State.backdriveBegins (s : State) (c : Fin 4) : State :=
  let v := s.channel c
  if v.backdrive then s
  else if v.state = .detect ∨ v.state = .active then
    s.modChannel c (fun v => { v with backdrive := true, blip := true, blipHold := some Config.ms })
  else s.modChannel c (fun v => { v with backdrive := true })

/-- Back-drive ends: a blip's path closes again (R163). -/
def State.backdriveEnds (s : State) (c : Fin 4) : State :=
  s.modChannel c (fun v => { v with backdrive := false, blip := false, blipHold := none })

/-- Back-drive has held for 1 ms (R162, R163, entry 20). -/
def State.backdriveHeld (s : State) (c : Fin 4) : State :=
  let v := s.channel c
  if v.backdrive = true ∧ (v.state = .detect ∨ v.state = .active) then
    (s.elapse (v.blipHold.getD 0)).enterFault c .backdrive
  else s

/-! ### Thermal (R164) -/

/-- SHUTDOWN begins: channels in DETECT, ACTIVE or DISCHARGE fault, and a fault's cause becomes THERMAL (R164). -/
def State.thermalFaults (s : State) : State :=
  forEach allFour (fun c t =>
    match (t.channel c).state with
    | .off => t
    | .fault => t.modChannel c (fun v => { v with cause := .thermal })
    | .detect | .active | .discharge _ => t.enterFault c .thermal) s

/-- What a sample of the temperature does to the channels (R157, R164). -/
def State.powerFollowsThermal (s : State) (before : Thermal) : State :=
  if s.thermal = .shutdown then (if before = .shutdown then s else s.thermalFaults) else s.releaseWaiting

/-! ### Timers (R160, R165, R166) -/

/-- The discharge timer expires (R160; in FAULT it only ends the discharge of R164). -/
def State.dischargeExpired (s : State) (c : Fin 4) : State :=
  let s := s.modChannel c (fun v => { v with dischargeTimer := none })
  let v := s.channel c
  let toActive := if s.supply = .good ∧ s.thermal ≠ .shutdown then s.enterActive c else s.enterOff c true
  match v.state with
  | .discharge .off => s.enterOff c false
  | .discharge .detect =>
    match v.policy.mode with
    | .auto => if s.thermal = .shutdown then s.enterFault c .thermal else s.enterDetect c
    | .forced => toActive
  | .discharge .active => toActive
  | .off | .detect | .active | .fault => s

/-- The cool-down timer of a channel in FAULT expires: recovery when the channel is clear (R166). -/
def State.coolDownExpired (s : State) (c : Fin 4) : State :=
  let v := s.channel c
  if v.state ≠ .fault then s
  else if s.supply = .good ∧ v.backdrive = false ∧ s.thermal ≠ .shutdown then
    if v.intent = false then s.enterOff c false
    else
      match v.policy.mode with
      | .auto => s.enterDetect c
      | .forced => s.enterActive c
  else s.modChannel c (fun v => { v with coolDown := some (500 * Config.ms) })

/-- The channel has held ACTIVE for 10 s (R165). -/
def State.activeHeld (s : State) (c : Fin 4) : State :=
  s.modChannel c (fun v => { v with faults := 0, activeTimer := none })

/-! ### Policy and budget requests (R156, R168) -/

/-- The effective limit: down to a multiple of 50, at least 100, at most the cap (R156). -/
def effectiveLimit (n : Nat) (cap : Cap) : Nat := min cap.milliamps (max 100 (n / 50 * 50))

def readPowerPolicy (body : List Byte) (cap : Cap) : Option PowerPolicy :=
  let action : RationAction := ⟨byteAt body 7, byteAt body 8, byteAt body 9, byteAt body 10⟩
  match PowerMode.ofByte? (byteAt body 1), FaultHandling.ofByte? (byteAt body 4), yesNo? (byteAt body 6) with
  | some mode, some handling, some present =>
    if (byteAt body 5).toNat ≤ 3 ∧ (present = true → aliasInRange action.aliasNo = true) then
      some ⟨mode, effectiveLimit (half body 2).toNat cap, handling, (byteAt body 5).toNat,
        if present then some action else none⟩
    else none
  | _, _, _ => none

/-- What a change of mode does to a channel (R156). -/
def State.modeChanged (s : State) (c : Fin 4) (before : PowerMode) : State :=
  let v := s.channel c
  match before, v.policy.mode with
  | .auto, .forced =>
    if v.state = .detect then (if s.supply = .good then s.enterActive c else s.enterOff c true) else s
  | .forced, .auto =>
    let s := s.modChannel c (fun v => { v with removalRun := 0 })
    if v.state = .off ∧ v.waiting = true ∧ v.intent = true then
      (if s.thermal = .shutdown then s.enterFault c .thermal else s.enterDetect c)
    else s
  | .auto, .auto | .forced, .forced => s

/-- What a change of policy does to the level and the rationed set (R169 to R171); `before` is M before it. The conditions
are judged by the budget as it stands, one set since the last formation included (entry 35). -/
def State.policyRations (s : State) (c : Fin 4) (before : Nat) (fresh : Bool) : State :=
  let changed := if fresh then some c else none
  let m := s.maxLevel
  if m < s.level then
    { s with
      overTimer := none
      underTimer := if s.underTimer.isSome && decide (0 < m) then some (5000 * Config.ms) else none }.setLevel m changed
  else
    { s with overTimer :=
        if before < m then (if s.overCondition then some (s.overTimer.getD (1000 * Config.ms)) else s.overTimer)
        else if s.level < m then s.overTimer else none }.recompute changed

/-- POWER_POLICY (R156). -/
def powerPolicyHandler (body : List Byte) (s : State) : Answer :=
  match four? (byteAt body 0) with
  | none => s.refuse .badArg
  | some c =>
    match readPowerPolicy body (s.channel c).cap with
    | none => s.refuse .badArg
    | some p =>
      let old := (s.channel c).policy
      let set := s.modChannel c (fun v => { v with policy := p })
      ((set.modeChanged c old.mode).policyRations c s.maxLevel (p.action != old.action)).done (halfOf p.limit)

/-- POWER_CONTROL: ON, OFF, CLEAR (R157, R158, R167). -/
def powerControlHandler (body : List Byte) (s : State) : Answer :=
  match four? (byteAt body 0) with
  | none => s.refuse .badArg
  | some c =>
    match (byteAt body 1).toNat with
    | 0 => (s.powerOn c).done []
    | 1 => (s.powerOff c).done []
    | 2 =>
      if (s.channel c).state = .fault then
        ((s.modChannel c (fun v => { v with latched := false, faults := 0, intent := false })).enterOff c false).done []
      else s.refuse .wrongState
    | _ => s.refuse .badArg

def effectiveBudget (n : Nat) : Nat := if n = 0 then 2000 else min 4000 (max 500 n)
def effectiveBoost (n : Nat) : Nat := if n = 0 then 1500 else min 4000 (max 200 n)

/-- POWER_BUDGET, the request (R168): the conditions are judged from the next formation of the total. -/
def powerBudgetHandler (body : List Byte) (s : State) : Answer :=
  let b := effectiveBudget (half body 0).toNat
  let t := effectiveBoost (half body 2).toNat
  ({ s with budget := b, boostThreshold := t } : State).done (halfOf b ++ halfOf t)

/-- The total in two bytes; beyond them the spec states none (entry 13). -/
def totalBytes (total : Nat) : List Byte :=
  if total < 65536 then halfOf total else halfBytes (Config.totalField total)

def State.powerBody (s : State) (c : Fin 4) : List Byte :=
  let v := s.channel c
  [byteOf v.state.code, flagByte v.intent, byteOf v.policy.mode.code, byteOf v.policy.handling.code,
   byteOf v.cause.code] ++ halfBytes v.current ++ halfOf v.policy.limit ++ halfOf v.cap.milliamps ++ halfBytes v.faults ++
  [flagByte v.latched, byteOf v.policy.priority, flagByte v.policy.action.isSome, flagByte v.rationed,
   byteOf (rationCode v.pendingByte)] ++ halfBytes v.failedWrites ++ halfOf s.budget ++ halfOf s.boostThreshold ++
  totalBytes s.total ++ [byteOf s.level, flagByte s.boost]

/-- POWER_STATUS (R173). -/
def powerStatusHandler (body : List Byte) (s : State) : Answer :=
  match four? (byteAt body 0) with
  | none => s.refuse .badArg
  | some c => (s.modChannel c (fun v => { v with failedWrites := 0 })).done (s.powerBody c)

/-! ### Sleep and wake (R174) -/

/-- Sleep entry of a channel: OFF, nothing handed to its link. -/
def State.channelSleep (s : State) (c : Fin 4) : State :=
  if (s.channel c).state = .off then s.modChannel c (fun v => { v with waiting := false }) else s.enterOff c false

/-- Sleep entry of the power switches (R174). -/
def State.powerSleep (s : State) : State :=
  let off := { forEach allFour (fun c t => t.channelSleep c) s with overTimer := none, underTimer := none }
  if s.level = 0 then off else off.setLevel 0 none

/-- Wake of a channel, OFF since sleep entry (R174). -/
def State.channelWake (s : State) (c : Fin 4) : State :=
  let v := s.channel c
  if v.state ≠ .off then s
  else if v.latched then (s.modChannel c (fun v => v.settle .fault)).postPower c
  else if v.intent then s.powerOn c
  else s

end Sys2Proof.Machine
end

