-- ==== Sys2Proof/Machine/VerticalStart.lean ====
section
/-! DEFINITION. The vertical start (spec/03 sections 3.3 and 3.5, spec/04 section 4.4 and 4.5, spec/06 section 6.5):
applying staged items, frame lock, content selection, hold-on-static, and sending the frame. -/

namespace Sys2Proof.Machine

/-! ### Applying routes and timings (R58, R59, R77) -/

/-- Steps 1, 3 and 4 of R58. -/
def Output.applyRoute (v : Output) (r : Route) : Output :=
  { v with route := r, stagedRoute := none, lastShown := none, context := contextFor r }

/-- The lock state becomes SEEKING with both counts and the last phase error 0 (R74, R77, R80, R87, R91). -/
def Output.seek (v : Output) : Output :=
  { v with lock := .seeking, goodLocks := 0, badLocks := 0, phaseError := 0 }

/-- SEEKING, with LOCK_STATE posted on a change from LOCKED. -/
def State.seekLock (s : State) (o : Fin 4) : State :=
  let s' := s.modOutput o Output.seek
  if (s.output o).lock = .locked then s'.post .lockState o.val else s'

/-- Does a new timing change what frame lock counts in (R77)? -/
def rasterChanged (old : Option Timing) (t : Timing) : Bool :=
  match old with
  | none => true
  | some u => u.pclk != t.pclk || u.hTotal != t.hTotal || u.vTotal != t.vTotal

/-- A staged timing is applied (R77). -/
def State.applyStagedTiming (s : State) (o : Fin 4) : State :=
  let v := s.output o
  match v.stagedTiming with
  | none => s
  | some t =>
    let s' := s.modOutput o (fun v => { v with timing := some t, stagedTiming := none })
    if v.lockOn && rasterChanged v.timing t then s'.seekLock o else s'

/-- A staged route is applied at once, or at a vertical start, where it also ends PAUSED (R58, R59). -/
def State.applyStagedRoute (s : State) (o : Fin 4) : State :=
  match (s.output o).stagedRoute with
  | none => s
  | some r => s.modOutput o (fun v => v.applyRoute r)

/-- PAUSED becomes SCANNING when a staged route is applied at a vertical start (R58 step 2). -/
def State.endPause (s : State) (o : Fin 4) : State :=
  if (s.output o).state = .paused then s.modOutput o (fun v => { v with state := .scanning, unchanged := 0 }) else s

/-- Staged timing and route are applied, the tier evaluated once, and ROUTE_APPLIED posted once (R58, R59, R77, R100). -/
def State.applyStaged (s : State) (o : Fin 4) (atStart : Bool) : State :=
  let v := s.output o
  if v.stagedTiming.isNone && v.stagedRoute.isNone then s
  else
    let timed := s.applyStagedTiming o
    let paused := if atStart && v.stagedRoute.isSome then timed.endPause o else timed
    ((paused.applyStagedRoute o).evaluate o).post .routeApplied o.val

/-! ### Frame lock (R86 to R89) -/

/-- The phase folded into (−P/2, P/2] (R88 step 1). -/
def foldPhase (d target period : Nat) : Int :=
  let r := ((d : Int) - (target : Int)) % (period : Int)
  if (period : Int) < 2 * r then r - period else r

/-- n / d rounded half away from zero (R88 step 2). -/
def roundAway (n : Int) (d : Nat) : Int :=
  let q : Nat := (2 * n.natAbs + d) / (2 * d)
  if n < 0 then -(q : Int) else q

/-- e_lines (R88 step 2). -/
def phaseLines (phi : Int) (t : Timing) : Int := roundAway (phi * t.pclk) (t.hTotal * 1000)

/-- Lines of the frame beginning here (R88 step 3). -/
def adjustedLines (t : Timing) (e : Int) : Nat :=
  if 1 ≤ e then t.vTotal - 1 else if e ≤ -1 then t.vTotal + 1 else t.vTotal

/-- The source of frame lock as its lock reads it: measured period and time since its last FRAME_START; none when it is
unusable (R87). -/
def State.lockSource (s : State) (o : Fin 4) : Option (Nat × Nat) :=
  match (s.output o).route.source with
  | none => none
  | some p =>
    match s.stream p.stream with
    | none => none
    | some r =>
      match r.lastStart with
      | none => none
      | some t =>
        let d := (s.timeBase - t).toNat
        if r.stable = true ∧ r.measuredPeriod ≠ 0 ∧ d ≤ 2 * r.measuredPeriod then some (r.measuredPeriod, d) else none

/-- The lock state update of R89; yes when LOCK_STATE is posted. -/
def Output.lockUpdate (v : Output) (e : Int) : Output × Bool :=
  match v.lock with
  | .free => (v, false)
  | .seeking =>
    if e.natAbs ≤ 1 then
      if 8 ≤ v.goodLocks + 1 then ({ v with lock := .locked, goodLocks := 0, badLocks := 0 }, true)
      else ({ v with goodLocks := v.goodLocks + 1 }, false)
    else ({ v with goodLocks := 0 }, false)
  | .locked =>
    if 4 < e.natAbs then
      if 2 ≤ v.badLocks + 1 then ({ v with lock := .seeking, goodLocks := 0, badLocks := 0 }, true)
      else ({ v with badLocks := v.badLocks + 1 }, false)
    else ({ v with badLocks := 0 }, false)

/-- The exact time to the next vertical start: what is left of this one's fraction of a µs, and the new frame (R82). -/
def Span.next (left : Span) (t : Timing) (lines : Nat) : Span :=
  let units := t.hTotal * lines * 1000
  if left.num = 0 then ⟨units, t.pclk⟩
  else if left.den % t.pclk = 0 then ⟨left.num + units * (left.den / t.pclk), left.den⟩
  else ⟨left.num * t.pclk + units * left.den, left.den * t.pclk⟩

/-- The frame beginning here has `lines` lines (R82, R88). -/
def Output.beginFrame (v : Output) (t : Timing) (lines : Nat) : Output :=
  { v with frameLines := lines, untilStart := v.untilStart.next t lines }

/-- Frame lock at a vertical start; `moved` when a route apply at this start changed the source stream (R87 to R89). -/
def State.lockFrame (s : State) (o : Fin 4) (moved : Bool) : State :=
  match (s.output o).timing with
  | none => s
  | some t =>
    if (s.output o).lockOn = false then s.modOutput o (fun v => v.beginFrame t t.vTotal)
    else
      let sought := if moved then s.seekLock o else s
      match sought.lockSource o with
      | none => (sought.seekLock o).modOutput o (fun v => v.beginFrame t t.vTotal)
      | some (period, d) =>
        let e := phaseLines (foldPhase d (s.output o).lockTarget period) t
        let out := { (sought.output o).beginFrame t (adjustedLines t e) with phaseError := e }.lockUpdate e
        let s' := sought.setOutput o out.1
        if out.2 then s'.post .lockState o.val else s'

/-! ### Content selection (R64, R65) -/

/-- What a selection decides: content, slot, last shown seq, and whether FALLBACK_MISSING is posted. -/
structure Selection where
  content : Content
  slot : Option SlotRef
  lastShown : Option Word
  missing : Bool
deriving DecidableEq, Repr

/-- Case 2 of R64. -/
def Context.blanks (c : Context) (p : SafetyPart) : Bool :=
  c.blanked || (c.integrity == .fault && p.action == .blank)

/-- Case 3 of R64. -/
def Context.fallsBack (c : Context) (p : SafetyPart) : Bool :=
  (c.integrity == .fault && p.action == .fallback) || c.freshness != .fresh

/-- Cases 4 to 6 of R64. -/
def State.selectPicture (s : State) (v : Output) (source : Fin 8) : Selection :=
  if v.state = .paused then
    match v.current with
    | some slot => ⟨.frozen, some slot, v.lastShown, false⟩
    | none => ⟨.background, none, v.lastShown, false⟩
  else
    match s.latest? source with
    | some (slot, seq) => ⟨if v.lastShown = some seq then .repeated else .live, some slot, some seq, false⟩
    | none => ⟨.background, none, v.lastShown, false⟩

/-- The first case of R64 that holds. -/
def State.select (s : State) (o : Fin 4) : Selection :=
  let v := s.output o
  match v.route.source with
  | none => ⟨.background, none, v.lastShown, false⟩
  | some p =>
    match v.route.safety, v.context with
    | some part, some c =>
      if c.blanks part then ⟨.background, none, v.lastShown, false⟩
      else if c.fallsBack part then
        match part.fallback.bind s.latest? with
        | some (slot, _) => ⟨.fallback, some slot, v.lastShown, false⟩
        | none => ⟨.background, none, v.lastShown, true⟩
      else s.selectPicture v p.stream
    | _, _ => s.selectPicture v p.stream

/-- Selection at a vertical start (R64, R65, R13). -/
def State.selectContent (s : State) (o : Fin 4) : State :=
  let c := s.select o
  let s' := s.modOutput o (fun v => { v with current := c.slot, content := c.content, lastShown := c.lastShown })
  if c.missing then s'.post .fallbackMissing o.val else s'

/-! ### Hold-on-static (R84) -/

/-- Count and state after a start in RUN at which selection ran; `applied` when a route was applied at this start. When the
first such start after ON, RESUME, a resume from SUSPENDED or the change from STANDBY to RUN is not LIVE and applies no
route, the count of R84 gives K - 1 frames before HOLD, none when K is 1, where R84's last paragraph says K frames and R85
says that the first start after STANDBY sends one: the count is followed (entry 37, DESIGN CHOICE). -/
def Output.holdOnStatic (v : Output) (applied : Bool) : Output :=
  let count := if v.content = .live ∨ applied = true then 0 else bump v.unchanged
  let k := v.route.holdAfter
  match v.state with
  | .hold => { v with unchanged := count, state := if count = 0 ∨ k = 0 then .scanning else .hold }
  | .scanning => { v with unchanged := count, state := if 0 < k ∧ k ≤ count.toNat then .hold else .scanning }
  | .paused => { v with unchanged := 0 }
  | .off => v
  | .suspended _ => v

/-! ### Sending the frame (R127, R128, R103) -/

def Tier.depth : Tier → Nat
  | .t18 | .talt => 18
  | .noTier | .t24 | .blocked => 24

def Tier.pacing : Tier → Nat
  | .talt => 2
  | .noTier | .t24 | .t18 | .blocked => 1

/-- The configuration a frame wants (R128). -/
def wantedConfig (tier : Tier) (r : Route) : Configuration :=
  ⟨tier.depth, tier.pacing, r.safety.map (fun p => p.window)⟩

/-- A configuration record (R212). -/
def configItem (c : Configuration) : List Byte :=
  let w := c.window.getD ⟨0, 0, 0, 0⟩
  withCrc16 ([0x10#8, byteOf c.depth, byteOf c.pacing, flagByte c.window.isSome] ++ halfOf w.x ++ halfOf w.y ++
    halfOf w.w ++ halfOf w.h)

/-- A frame header (R212). -/
def headerItem (seq : Half) (mark : HalfMark) (t : Timing) : List Byte :=
  withCrc16 ([0x11#8] ++ halfBytes seq ++ [byteOf mark.code] ++ halfOf t.hActive ++ halfOf t.vActive)

/-- Lines of the first half of a TALT frame (R103). -/
def firstHalf (t : Timing) : Nat := (t.vActive + 1) / 2

/-- The lines a frame or half carries: first line and count (R103, R127). -/
def HalfMark.span (m : HalfMark) (t : Timing) : Nat × Nat :=
  match m with
  | .whole => (0, t.vActive)
  | .first => (0, firstHalf t)
  | .second => (firstHalf t, t.vActive - firstHalf t)

/-- What is sent from a start: whole, first or second half, or nothing (R127). -/
def State.sendMark (s : State) (o : Fin 4) (odd : Bool) : Option HalfMark :=
  let v := s.output o
  if (s.link o).state = .up ∧ (v.state = .scanning ∨ v.state = .paused) then
    match v.tier with
    | .noTier | .blocked => none
    | .t24 | .t18 => some .whole
    | .talt => if odd then (if (s.link o).halfPending then some .second else none) else some .first
  else none

/-- A whole frame, a first half or a second half goes out (R127, R128, R181). A configuration record is due by the comparison
of R128 alone: a tier left and taken again with no frame between sends none, where R101 and R104 put one before the next
frame (entry 40, DESIGN CHOICE). -/
def State.sendMarked (s : State) (o : Fin 4) (t : Timing) (mark : HalfMark) : State :=
  let v := s.output o
  let w := s.link o
  let config := wantedConfig v.tier v.route
  let seq := if mark = .second then w.txSeq else w.txSeq + 1
  let due := mark != .second && w.lastConfig != some config
  let frame : TxFrame := ⟨seq, mark, (mark.span t).1, (mark.span t).2, t, v.tier, v.route, v.content, v.current⟩
  let sent := s.modLink o (fun w => { w with
    txSeq := seq
    halfPending := mark == .first
    lastConfig := if mark = .second then w.lastConfig else some config
    sending := some frame
    forward := w.forward ++ (if due then [configItem config] else []) ++ [headerItem seq mark t] })
  match v.context, v.route.safety with
  | some _, some p => if mark = .second then sent else sent.pushCrc o seq (crc32 (s.windowBytes frame p.window))
  | _, _ => sent

/-- The Link Transmitter decides on the frame of a start (R127). -/
def State.sendFrame (s : State) (o : Fin 4) (odd : Bool) : State :=
  match s.sendMark o odd, (s.output o).timing with
  | some mark, some t => s.sendMarked o t mark
  | _, _ => s.modLink o (fun w => { w with halfPending := false, sending := none })

/-! ### The start as a whole (R63, R82, R83) -/

def sourceStream (r : Route) : Option (Fin 8) := r.source.map (fun p => p.stream)

/-- A vertical start of a running output, at the present time. -/
def State.verticalStart (s : State) (o : Fin 4) : State :=
  let v := s.output o
  let odd := v.starts.getLsbD 0
  let skip := v.tier == .talt && odd
  let counted := s.modOutput o (fun v => { v with starts := v.starts + 1 })
  let applied := if skip then counted else counted.applyStaged o true
  let routed := !skip && v.stagedRoute.isSome
  let moved := decide (sourceStream (applied.output o).route ≠ sourceStream v.route)
  let fresh := (applied.lockFrame o moved).freshenOutput o
  let selected := if skip then fresh else fresh.selectContent o
  let held :=
    if s.mode = .run ∧ (skip = false ∨ (selected.output o).state = .paused) then
      selected.modOutput o (fun v => v.holdOnStatic routed)
    else selected
  held.sendFrame o odd

/-- Time left to the next vertical start of a running output, in whole µs (R82). -/
def State.startTimer (s : State) (o : Fin 4) : Timer :=
  let v := s.output o
  if v.state.running then some (v.untilStart.num / v.untilStart.den) else none

end Sys2Proof.Machine
end

