-- ==== Sys2Proof/Machine/Routes.lean ====
section
/-! DEFINITION. The requests on routes and timing (spec/03 section 3.2, spec/04), and what the device mode does to the
outputs (R72, R85, R91). -/

namespace Sys2Proof.Machine

/-! ### ROUTE_SET (R52 to R55) -/

def effectiveFreshness (n : Nat) : Nat := if n = 0 then 100 else min 2000 (max 20 n)
def effectiveMismatch (n : Nat) : Nat := if n = 0 then 2 else min 8 n

/-- A stream number or none; the outer none when the byte is neither (R209). -/
def streamOrNone? (b : Byte) : Option (Option (Fin 8)) :=
  if b = 0xFF then some none else (eight? b).map some

def readRect (body : List Byte) (i : Nat) : Rect :=
  ⟨(half body i).toNat, (half body (i + 2)).toNat, (half body (i + 4)).toNat, (half body (i + 6)).toNat⟩

/-- The safety part of a body of class SAFETY (R50, R52). -/
def readSafety (body : List Byte) : Option SafetyPart :=
  match streamOrNone? (byteAt body 25), FaultAction.ofByte? (byteAt body 37) with
  | some fallback, some action =>
    some ⟨fallback, effectiveFreshness (half body 26).toNat, readRect body 28,
      effectiveMismatch (byteAt body 36).toNat, action⟩
  | _, _ => none

/-- The class byte: NORMAL has no safety part, SAFETY has one (R49, R52 check 2). -/
def readClass (body : List Byte) : Option (Option SafetyPart) :=
  match (byteAt body 24).toNat with
  | 0 => some none
  | 1 => (readSafety body).map some
  | _ => none

/-- The route of a ROUTE_SET body that passes checks 2 to 4 of R52 (and the yes/no checks of R209). -/
def readRoute (body : List Byte) : Option Route :=
  match streamOrNone? (byteAt body 1), yesNo? (byteAt body 21), yesNo? (byteAt body 22), readClass body with
  | some source, some allow18, some allowAlt, some safety =>
    if (allowAlt = true → allow18 = true) ∧ (safety.isSome = true → source.isSome = true) then
      some ⟨source.map (fun i => ⟨i, readRect body 2, readRect body 10⟩),
        ⟨byteAt body 18, byteAt body 19, byteAt body 20⟩, allow18, allowAlt, min 15 (byteAt body 23).toNat, safety⟩
    else none
  | _, _, _, _ => none

def stepInRange (n : Nat) : Bool := decide (16384 ≤ n ∧ n ≤ 262144)

/-- A rectangle inside an area, with sides of at least `least`. -/
def Rect.inside (r : Rect) (w h least : Nat) : Bool :=
  decide (least ≤ r.w ∧ least ≤ r.h ∧ r.x + r.w ≤ w ∧ r.y + r.h ≤ h)

/-- Check 6 of R52. -/
def State.streamsOpen (s : State) (r : Route) : Bool :=
  (match r.source with
   | none => true
   | some p => (s.stream p.stream).isSome) &&
  (match r.safety.bind (fun p => p.fallback) with
   | none => true
   | some i => ((s.stream i).map (fun x => x.config.kind)) == some .still)

/-- Checks 7 to 9 of R53. -/
def State.placementOk (s : State) (r : Route) (t : Timing) : Bool :=
  match r.source with
  | none => true
  | some p =>
    match s.stream p.stream with
    | none => false
    | some x =>
      p.window.inside x.config.width x.config.height 16 && p.dest.inside t.hActive t.vActive 16 &&
      stepInRange (axisStep p.window.w p.dest.w) && stepInRange (axisStep p.window.h p.dest.h)

/-- Checks 10 and 11 of R53. -/
def State.safetyWindowOk (s : State) (r : Route) (t : Timing) : Bool :=
  match r.safety, r.source with
  | some part, some p =>
    part.window.inside t.hActive t.vActive 1 &&
    (match part.fallback.bind s.stream with
     | none => true
     | some x => stepInRange (axisStep x.config.width p.dest.w) && stepInRange (axisStep x.config.height p.dest.h))
  | _, _ => true

/-- The checks of R54. -/
def State.safetyStateOk (s : State) (r : Route) : Bool :=
  match r.safety, r.source with
  | some _, some p =>
    ((s.stream p.stream).map (fun x => x.config.damagedPolicy)) == some .dropDamaged && !r.allowAlt && r.holdAfter == 0
  | _, _ => true

/-- The timing a ROUTE_SET is checked against: the staged one, or else the applied one (R53). -/
def Output.timingInForce (v : Output) : Option Timing := v.stagedTiming.or v.timing

/-- Why a ROUTE_SET whose fields pass is refused, if it is (R52 check 5 to R55). -/
def State.routeRefusal (s : State) (o : Fin 4) (r : Route) : Option Status :=
  match (s.output o).timingInForce with
  | none => some .wrongState
  | some t =>
    if s.streamsOpen r = false then some .wrongState
    else if (s.placementOk r t && s.safetyWindowOk r t) = false then some .badArg
    else if s.safetyStateOk r = false then some .wrongState
    else if s.overBudget o t r = true then some .overBudget
    else none

/-- An accepted route is applied at once on an OFF output and staged on any other (R57, R59). -/
def State.acceptRoute (s : State) (o : Fin 4) (r : Route) (reply : List Byte) : Answer :=
  if (s.output o).state = .off then ((s.modOutput o (fun v => v.applyRoute r)).evaluate o).done reply
  else (s.modOutput o (fun v => { v with stagedRoute := some r })).taken reply

/-- The reply body of an accepted ROUTE_SET (R55). -/
def Route.replyBody (r : Route) (output : Byte) : List Byte :=
  let steps := match r.source with
    | none => (0, 0)
    | some p => (axisStep p.window.w p.dest.w, axisStep p.window.h p.dest.h)
  let safety := match r.safety with
    | none => (0, 0)
    | some p => (p.timeoutMs, p.threshold)
  [output] ++ wordOf steps.1 ++ wordOf steps.2 ++ [byteOf r.holdAfter] ++ halfOf safety.1 ++ [byteOf safety.2]

def routeSetHandler (body : List Byte) (s : State) : Answer :=
  match four? (byteAt body 0), readRoute body with
  | some o, some r =>
    match s.routeRefusal o r with
    | some status => s.refuse status
    | none => s.acceptRoute o r (r.replyBody (byteAt body 0))
  | _, _ => s.refuse .badArg

/-- The clearing route of a route (R56). -/
def clearingRoute (r : Route) : Route :=
  { emptyRoute with background := r.background, allow18 := r.allow18, allowAlt := r.allowAlt }

/-- The route in force for a TIMING_SET, and the one a ROUTE_CLEAR replaces (R56, R75). -/
def Output.routeInForce (v : Output) : Route := v.stagedRoute.getD v.route

def routeClearHandler (body : List Byte) (s : State) : Answer :=
  match four? (byteAt body 0) with
  | none => s.refuse .badArg
  | some o => s.acceptRoute o (clearingRoute (s.output o).routeInForce) []

/-! ### TIMING_SET (R75, R76) -/

def readTiming (body : List Byte) : Timing :=
  ⟨(word body 1).toNat, (half body 5).toNat, (half body 7).toNat, (half body 9).toNat, (half body 11).toNat⟩

/-- The ranges of R74. -/
def Timing.inRange (t : Timing) : Bool :=
  decide (25000 ≤ t.pclk ∧ t.pclk ≤ 300000 ∧ 320 ≤ t.hActive ∧ t.hActive ≤ 3840 ∧ t.hActive % 2 = 0 ∧
    32 ≤ t.hBlank ∧ t.hBlank ≤ 1024 ∧ 240 ≤ t.vActive ∧ t.vActive ≤ 2160 ∧ 4 ≤ t.vBlank ∧ t.vBlank ≤ 255)

/-- Check 3 of R75: destination and safety window of the route in force inside the new active area. -/
def Route.fitsTiming (r : Route) (t : Timing) : Bool :=
  (match r.source with
   | none => true
   | some p => p.dest.inside t.hActive t.vActive 0) &&
  (match r.safety with
   | none => true
   | some p => p.window.inside t.hActive t.vActive 0)

def Timing.replyBody (t : Timing) (output : Byte) : List Byte :=
  [output] ++ halfOf t.hTotal ++ halfOf t.vTotal ++ wordOf (t.hTotal * t.vTotal * 1000 / t.pclk)

def timingSetHandler (body : List Byte) (s : State) : Answer :=
  match four? (byteAt body 0) with
  | none => s.refuse .badArg
  | some o =>
    let t := readTiming body
    let v := s.output o
    let r := v.routeInForce
    if t.inRange = false ∨ r.fitsTiming t = false then s.refuse .badArg
    else if r.source.isSome = true ∧ s.overBudget o t r = true then s.refuse .overBudget
    else if v.state = .off then
      ((s.modOutput o (fun v => { v with timing := some t })).evaluate o).done (t.replyBody (byteAt body 0))
    else (s.modOutput o (fun v => { v with stagedTiming := some t })).taken (t.replyBody (byteAt body 0))

/-! ### OUTPUT_CONTROL (R79 to R81) -/

/-- The raster begins at line 0 and a vertical start fires at once (R79, R91). -/
def State.beginRaster (s : State) (o : Fin 4) (state : OutputState) : State :=
  (s.modOutput o (fun v => { v with state := state, starts := 0, unchanged := 0, untilStart := ⟨0, 1⟩ })).verticalStart o

/-- SEEKING without a posting, when the lock setting is on (R79, R91). -/
def Output.seekQuietly (v : Output) : Output := if v.lockOn then v.seek else v

def State.outputOn (s : State) (o : Fin 4) : Answer :=
  let v := s.output o
  if v.state ≠ .off then s.done []
  else if v.timing.isNone then s.refuse .wrongState
  else ((s.modOutput o Output.seekQuietly).beginRaster o (if s.mode = .run then .scanning else .hold)).done []

/-- No frame under way, no current frame (R14, R65). -/
def Output.stop (v : Output) : Output :=
  { v with current := none, content := .background, frameLines := 0, untilStart := ⟨0, 1⟩ }

def State.outputOff (s : State) (o : Fin 4) : Answer :=
  if (s.output o).state = .off then s.done []
  else
    let stopped := (s.applyStaged o false).modOutput o (fun v =>
      { v.stop with state := .off, lastShown := none, unchanged := 0 })
    (if (s.output o).lockOn then stopped.seekLock o else stopped).done []

def State.outputPause (s : State) (o : Fin 4) : Answer :=
  let v := s.output o
  let pause := (s.modOutput o (fun v => { v with state := .paused, unchanged := 0 })).done []
  if v.route.safety.isSome then s.refuse .wrongState
  else
    match v.state with
    | .off | .suspended _ => s.refuse .wrongState
    | .scanning => pause
    | .paused => s.done []
    | .hold => if s.mode = .run then pause else s.refuse .wrongState

def State.outputResume (s : State) (o : Fin 4) : Answer :=
  match (s.output o).state with
  | .off | .suspended _ => s.refuse .wrongState
  | .scanning | .hold => s.done []
  | .paused => (s.modOutput o (fun v => { v with state := .scanning, unchanged := 0 })).done []

def outputControlHandler (body : List Byte) (s : State) : Answer :=
  match four? (byteAt body 0) with
  | none => s.refuse .badArg
  | some o =>
    match (byteAt body 1).toNat with
    | 0 => s.outputOn o
    | 1 => s.outputOff o
    | 2 => s.outputPause o
    | 3 => s.outputResume o
    | _ => s.refuse .badArg

/-! ### LOCK_SET and OUTPUT_STATUS (R86, R90) -/

/-- LOCK_SET; T is kept when the lock is switched off (entry 14). -/
def lockSetHandler (body : List Byte) (s : State) : Answer :=
  let target := (word body 2).toNat
  match four? (byteAt body 0), yesNo? (byteAt body 1) with
  | some o, some on =>
    if 100000 < target then s.refuse .badArg
    else if on then
      (s.modOutput o (fun v => { v.seek with lockOn := true, lockTarget := target })).done [byteOf LockState.seeking.code]
    else
      (s.modOutput o (fun v => { v.seek with lockOn := false, lock := .free })).done [byteOf LockState.free.code]
  | _, _ => s.refuse .badArg

/-- The last phase error in two signed bytes; beyond them the spec states none (entry 13). -/
def phaseBytes (e : Int) : List Byte :=
  halfBytes (if -32768 ≤ e ∧ e ≤ 32767 then BitVec.ofInt 16 e else Config.phaseErrorField e)

def timingBytes : Option Timing → List Byte
  | none => List.replicate 12 0
  | some t => wordOf t.pclk ++ halfOf t.hActive ++ halfOf t.hBlank ++ halfOf t.vActive ++ halfOf t.vBlank

/-- Current stream, slot and seq, none as 0xFF, 0xFF and 0 (entry 23). -/
def State.currentBytes (s : State) (v : Output) : List Byte :=
  match v.current with
  | none => [0xFF, 0xFF] ++ wordBytes 0
  | some ref =>
    [byteOf ref.stream.val, byteOf ref.index.val] ++
    wordOr0 ((s.stream ref.stream).bind (fun r => (r.slot ref.index).seq?))

/-- The body of OUTPUT_STATUS (R90, 11.2.3). Bits 5 to 7 of the flags byte, for which 11.2 lists nothing, are 0 (entry 36,
DESIGN CHOICE). -/
def State.outputBody (s : State) (o : Fin 4) : List Byte :=
  let v := s.output o
  [byteOf v.state.code,
   (match v.state with
    | .suspended r => byteOf r.code
    | .off | .scanning | .paused | .hold => 0xFF),
   byteOf (packFlags [v.timing.isSome, v.stagedTiming.isSome, v.stagedRoute.isSome, v.route.safety.isSome, v.lockOn])] ++
  timingBytes v.timing ++ [byteOf v.content.code] ++ s.currentBytes v ++
  [byteOf v.tier.code, byteOf v.lock.code] ++ wordOf v.lockTarget ++ phaseBytes v.phaseError ++
  halfBytes (s.link o).txSeq ++ wordBytes v.starts ++ halfBytes v.unchanged

def outputStatusHandler (body : List Byte) (s : State) : Answer :=
  match four? (byteAt body 0) with
  | none => s.refuse .badArg
  | some o => s.done (s.outputBody o)

/-! ### Device modes (R72, R85, R91) -/

/-- An output at the change from RUN to STANDBY (R85). -/
def Output.toStandby (v : Output) : Output :=
  match v.state with
  | .scanning | .hold => { v with state := .hold }
  | .paused => { v with state := .hold, unchanged := 0 }
  | .off | .suspended _ => v

/-- An output at a change to RUN (R85, R91). -/
def State.outputToRun (s : State) (o : Fin 4) : State :=
  match (s.output o).state with
  | .hold => s.modOutput o (fun v => { v with state := .scanning, unchanged := 0 })
  | .suspended .scanning => s.beginRaster o .scanning
  | .suspended .paused => s.beginRaster o .paused
  | .off | .scanning | .paused => s

/-- An output at sleep entry (R72, R91). R91 does not say what becomes of the consecutive unchanged count before the
resume zeroes it: it is kept (entry 38, DESIGN CHOICE). -/
def Output.sleep (v : Output) : Output :=
  match v.state with
  | .off => v
  | .suspended _ => v
  | .paused => { v.stop.seekQuietly with state := .suspended .paused }
  | .scanning | .hold => { v.stop.seekQuietly with state := .suspended .scanning }

end Sys2Proof.Machine
end

