-- ==== Sys2Proof/Machine/Modes.lean ====
section
/-! DEFINITION. Device modes (spec/10 sections 10.4 and 10.5): mode changes, sleep entry, wake, SOFT_RESET, device reset,
INIT. -/

namespace Sys2Proof.Machine

/-- The mode changes and MODE_CHANGED is posted (R202). -/
def State.changeMode (s : State) (m : Mode) : State := { s with mode := m }.post .modeChanged 0

/-- Sleep entry of every block, links before channels (R202, entry 16). -/
def State.sleepEntry (s : State) : State :=
  let s := { s.changeMode .sleep with wakeWindow := none }
  let stored := s.storeSleep
  let suspended := { stored with outputs := stored.outputs.map Output.sleep }
  (forEach allFour (fun l t => t.linkSleep l) suspended.integritySleep).powerSleep

/-- Wake of every block, channels before links (R203, entry 15). -/
def State.wakeUp (s : State) : State :=
  let s := { s.changeMode .standby with wakeWindow := some (250 * Config.ms) }
  forEach allFour (fun l t => t.linkWake l) (forEach allFour (fun c t => t.channelWake c) s.streamWake)

/-- The change from STANDBY to RUN (R85, R91, R202). -/
def State.toRun (s : State) : State := forEach allFour (fun o t => t.outputToRun o) (s.changeMode .run)

/-- The change from RUN to STANDBY (R85, R202). -/
def State.toStandby (s : State) : State :=
  let s := s.changeMode .standby
  { s with outputs := s.outputs.map Output.toStandby }

/-- SET_MODE (R202). -/
def setModeHandler (body : List Byte) (s : State) : Answer :=
  match (byteAt body 0).toNat with
  | 1 => (if s.mode = .standby then s else s.toStandby).done []
  | 2 => (if s.mode = .run then s else s.toRun).done []
  | 3 => (if s.mode = .sleep then s else s.sleepEntry).done []
  | _ => s.refuse .badArg

/-- SOFT_RESET of every block, then of the Control Port (R207, R26, R48, R73, R92, R106, R132, R153, R175, R192). -/
def State.softReset (s : State) : State :=
  let s := forEach allFour (fun l t => t.linkSoftReset l) s
  { s with
    segments := List.replicate 32 none
    streams := Eight.fill none
    outputs := Four.fill Output.reset
    aliases := []
    notices := []
    mask := 0
    wakeWindow := none
    mode := .standby }.post .resetDone 0

def softResetHandler (_body : List Byte) (s : State) : Answer := s.softReset.done []

/-- Device reset with the straps' caps and the first temperature sample (R19, R155, R201). What waits in the queue and the
levels at the comparators are not the part's to reset (entries 8, 20). -/
def State.deviceReset (s : State) (caps : Four Cap) (reading : Int) : State :=
  let channel (c : Fin 4) : Channel := { Channel.reset (caps.get c) with backdrive := (s.channel c).backdrive }
  { State.reset with
    temperature := clampTemperature reading
    thermal := thermalOfFirst (clampTemperature reading)
    channels := ⟨channel 0, channel 1, channel 2, channel 3⟩
    supply := s.supply
    pending := s.pending }

/-- INIT ends: STANDBY and RESET_DONE (R201). -/
def State.endInit (s : State) : State := { s with mode := .standby, initTimer := none }.post .resetDone 0

/-- A temperature sample (R19 to R21, R157, R164). -/
def State.sampleTemperature (s : State) (reading : Int) : State :=
  (s.takeTemperature reading).powerFollowsThermal s.thermal

end Sys2Proof.Machine
end

