-- ==== Sys2Proof/Machine/Control.lean ====
section
/-! DEFINITION. The Control Port (spec/10): SPI transactions, replies, the requests it owns, and the handing on of every
request to its owner (R193 to R199, R205, R206). -/

namespace Sys2Proof.Machine

/-! ### Requests the Control Port owns -/

def capBytes (v : Channel) : List Byte := halfOf v.cap.milliamps

/-- IDENTIFY (R205). -/
def identifyHandler (_body : List Byte) (s : State) : Answer :=
  s.done ([0x4E#8] ++ halfOf 0x4120 ++ [1, 32] ++ (s.channels.toList.map capBytes).flatten)

def State.deviceBody (s : State) : List Byte :=
  [byteOf s.mode.code, byteOf s.initResult.code, byteOf s.thermal.code] ++ halfBytes (BitVec.ofInt 16 s.temperature) ++
  [flagByte s.thermalChanged, byteOf s.freeSegments] ++ halfBytes s.stray ++ wordBytes s.timeBase

/-- DEVICE_STATUS (R206). -/
def deviceStatusHandler (_body : List Byte) (s : State) : Answer :=
  ({ s with thermalChanged := false, stray := 0 } : State).done s.deviceBody

def Notice.bytes (n : Notice) : List Byte := [byteOf n.kind.code, byteOf n.object, byteOf n.count]

/-- NOTICE_FETCH (R198). -/
def noticeFetchHandler (_body : List Byte) (s : State) : Answer :=
  ({ s with notices := [] } : State).done ((s.notices.map Notice.bytes).flatten)

/-- The kinds a mask can hold: bits 2 to 19 (R199). -/
def effectiveMask (m : Word) : Word := m &&& 0x000FFFFC#32

/-- NOTICE_MASK (R199). -/
def noticeMaskHandler (body : List Byte) (s : State) : Answer :=
  let m := effectiveMask (word body 0)
  ({ s with mask := m, notices := s.notices.filter (fun n => !m.getLsbD n.kind.code) } : State).done (wordBytes m)

/-- The owning block of each kind (R195 item 4). -/
def handlerOf : RequestKind → List Byte → State → Answer
  | .identify => identifyHandler
  | .deviceStatus => deviceStatusHandler
  | .setMode => setModeHandler
  | .softReset => softResetHandler
  | .noticeFetch => noticeFetchHandler
  | .noticeMask => noticeMaskHandler
  | .streamOpen => streamOpenHandler
  | .streamClose => streamCloseHandler
  | .streamRearm => streamRearmHandler
  | .streamStatus => streamStatusHandler
  | .storeMap => storeMapHandler
  | .routeSet => routeSetHandler
  | .routeClear => routeClearHandler
  | .timingSet => timingSetHandler
  | .outputControl => outputControlHandler
  | .lockSet => lockSetHandler
  | .outputStatus => outputStatusHandler
  | .crcInject => crcInjectHandler
  | .integrityClear => integrityClearHandler
  | .integrityStatus => integrityStatusHandler
  | .linkPolicy => linkPolicyHandler
  | .linkControl => linkControlHandler
  | .linkStatus => linkStatusHandler
  | .screenStatus => screenStatusHandler
  | .aliasSet => aliasSetHandler
  | .aliasClear => aliasClearHandler
  | .remoteWrite => remoteWriteHandler
  | .remoteRead => remoteReadHandler
  | .remoteResult => remoteResultHandler
  | .touchFetch => touchFetchHandler
  | .powerPolicy => powerPolicyHandler
  | .powerControl => powerControlHandler
  | .powerBudget => powerBudgetHandler
  | .powerStatus => powerStatusHandler

/-! ### Transactions -/

/-- Checks 2 to 4 of R195 for a kind that names a request. -/
def State.handle (s : State) (k : RequestKind) (tag : Byte) (body : List Byte) : State :=
  if s.mode = .init ∧ k ≠ .identify then s.answer k.code tag .initializing []
  else if k.lengthOk body = false then s.answer k.code tag .badArg []
  else
    let a := handlerOf k body s
    a.after.answer k.code tag a.status a.body

/-- The part drives 0x00 throughout a write transaction of `n` bytes, its first byte included (R193). -/
def State.driveZeros (s : State) (n : Nat) : State := { s with spiOut := List.replicate n 0 }

/-- A write transaction in SLEEP: WAKING, and the part wakes (R203). -/
def State.wakeBy (s : State) (kind tag : Byte) : State := s.wakeUp.answer kind tag .waking []

/-- A well-framed request of a known kind, `dt` after the command before: it wakes the part in SLEEP, and otherwise ends
the wake window and is handed on (R195, R203, R204). -/
def State.request (s : State) (k : RequestKind) (tag : Byte) (body : List Byte) : State :=
  let s := s.driveZeros (body.length + 5)
  if s.mode = .sleep then s.wakeBy k.code tag else { s with wakeWindow := none }.handle k tag body

/-- A well-framed request of any kind byte (R195). -/
def State.anyRequest (s : State) (kind tag : Byte) (body : List Byte) : State :=
  match RequestKind.ofCode? kind with
  | some k => s.request k tag body
  | none =>
    let s := s.driveZeros (body.length + 5)
    if s.mode = .sleep then s.wakeBy kind tag
    else { s with wakeWindow := none }.answer kind tag .unknownKind []

/-- A reply frame (11.1, R196). -/
def replyFrame (r : Reply) : List Byte :=
  let covered := [0xA5#8, r.kind, r.tag, byteOf r.status.code, byteOf r.body.length] ++ r.body
  covered ++ [crc8 covered]

/-- The first `n` bytes the part sends: a frame, then 0x00 (R196). -/
def clockOut (frame : List Byte) (n : Nat) : List Byte := frame.take n ++ List.replicate (n - frame.length) 0

/-- A read transaction of `clocked` bytes, the 0xA5 included (R196). What the part drives during the 0xA5 is stated
nowhere and stays out of the record (entry 28). -/
def State.read (s : State) (clocked : Nat) : State :=
  if clocked = 0 then s
  else { s with
    spiOut := clockOut (replyFrame (s.reply.getD ⟨0, 0, .empty, []⟩)) (clocked - 1)
    reply := none }

/-- An SPI transaction in which the host sends these bytes (R193, R194, R203). -/
def State.transaction (s : State) (bytes : List Byte) : State :=
  match bytes with
  | [] => s
  | first :: _ =>
    if first = 0xA5#8 then s.read bytes.length
    else if s.mode = .sleep then
      (s.driveZeros bytes.length).wakeBy (receivedTags bytes).1 (receivedTags bytes).2
    else
      match frameCheck bytes with
      | .bad kind tag => (s.driveZeros bytes.length).answer kind tag .badFrame []
      | .good kind tag body => s.anyRequest kind tag body

end Sys2Proof.Machine
end

