-- ==== Sys2Proof/Machine/CommandsControl.lean ====
section
/-! DEFINITION. The meanings of the control port rows of spec/opcode_table.json. -/

namespace Sys2Proof.Machine

/-- DEVICE_RESET (R201). -/
def execDeviceReset (caps : Four Cap) (reading : Int) (s : State) : Host.Outcome State Fault Refusal :=
  .next (s.deviceReset caps reading)

/-- STORE_TEST_DONE (R24). -/
def execStoreTestDone (dt : Nat) (failing : Word) (s : State) : Host.Outcome State Fault Refusal :=
  .next ((s.elapse dt).endStoreTest failing)

/-- INIT_EXPIRY (R201). -/
def execInitExpiry (s : State) : Host.Outcome State Fault Refusal :=
  .next (s.onExpiry s.initTimer State.endInit)

/-- READ_TRANSACTION (R196). -/
def execReadTransaction (dt clocked : Nat) (s : State) : Host.Outcome State Fault Refusal :=
  .next ((s.elapse dt).read clocked)

/-- BAD_FRAME (R194). -/
def execBadFrame (dt : Nat) (bytes : List Byte) (s : State) : Host.Outcome State Fault Refusal :=
  .next ((s.elapse dt).transaction bytes)

/-- UNKNOWN_KIND (R195). -/
def execUnknownKind (dt : Nat) (kind tag : Byte) (body : List Byte) (s : State) : Host.Outcome State Fault Refusal :=
  .next ((s.elapse dt).anyRequest kind tag body)

/-- WAKE (R203). -/
def execWake (dt : Nat) (bytes : List Byte) (s : State) : Host.Outcome State Fault Refusal :=
  .next ((s.elapse dt).transaction bytes)

/-- WAKE_WINDOW_EXPIRY (R204). -/
def execWakeWindowExpiry (s : State) : Host.Outcome State Fault Refusal :=
  .next (s.onExpiry s.wakeWindow State.sleepEntry)

/-- IDENTIFY (R205). -/
def execIdentify (dt : Nat) (tag : Byte) (body : List Byte) (s : State) : Host.Outcome State Fault Refusal :=
  .next ((s.elapse dt).request .identify tag body)

/-- DEVICE_STATUS (R206). -/
def execDeviceStatus (dt : Nat) (tag : Byte) (body : List Byte) (s : State) : Host.Outcome State Fault Refusal :=
  .next ((s.elapse dt).request .deviceStatus tag body)

/-- SET_MODE_RUN (R202). -/
def execSetModeRun (dt : Nat) (tag : Byte) (body : List Byte) (s : State) : Host.Outcome State Fault Refusal :=
  .next ((s.elapse dt).request .setMode tag body)

/-- SET_MODE_STANDBY (R202). -/
def execSetModeStandby (dt : Nat) (tag : Byte) (body : List Byte) (s : State) : Host.Outcome State Fault Refusal :=
  .next ((s.elapse dt).request .setMode tag body)

/-- SET_MODE_SLEEP (R202). -/
def execSetModeSleep (dt : Nat) (tag : Byte) (body : List Byte) (s : State) : Host.Outcome State Fault Refusal :=
  .next ((s.elapse dt).request .setMode tag body)

/-- SOFT_RESET (R207). -/
def execSoftReset (dt : Nat) (tag : Byte) (body : List Byte) (s : State) : Host.Outcome State Fault Refusal :=
  .next ((s.elapse dt).request .softReset tag body)

/-- NOTICE_FETCH (R198). -/
def execNoticeFetch (dt : Nat) (tag : Byte) (body : List Byte) (s : State) : Host.Outcome State Fault Refusal :=
  .next ((s.elapse dt).request .noticeFetch tag body)

/-- NOTICE_MASK (R199). -/
def execNoticeMask (dt : Nat) (tag : Byte) (body : List Byte) (s : State) : Host.Outcome State Fault Refusal :=
  .next ((s.elapse dt).request .noticeMask tag body)

end Sys2Proof.Machine
end

