-- ==== Sys2Proof/Machine/CommandsLinks.lean ====
section
/-! DEFINITION. The meanings of the link, back channel and remote device rows of spec/opcode_table.json. -/

namespace Sys2Proof.Machine

/-- LINK_POLICY (R108). -/
def execLinkPolicy (dt : Nat) (tag : Byte) (body : List Byte) (s : State) : Host.Outcome State Fault Refusal :=
  .next ((s.elapse dt).request .linkPolicy tag body)

/-- LINK_CONTROL_ENABLE (R109). -/
def execLinkControlEnable (dt : Nat) (tag : Byte) (body : List Byte) (s : State) : Host.Outcome State Fault Refusal :=
  .next ((s.elapse dt).request .linkControl tag body)

/-- LINK_CONTROL_DISABLE (R110). -/
def execLinkControlDisable (dt : Nat) (tag : Byte) (body : List Byte) (s : State) :
    Host.Outcome State Fault Refusal :=
  .next ((s.elapse dt).request .linkControl tag body)

/-- LINK_CONTROL_RETRAIN (R125). -/
def execLinkControlRetrain (dt : Nat) (tag : Byte) (body : List Byte) (s : State) :
    Host.Outcome State Fault Refusal :=
  .next ((s.elapse dt).request .linkControl tag body)

/-- LINK_STATUS (R129). -/
def execLinkStatus (dt : Nat) (tag : Byte) (body : List Byte) (s : State) : Host.Outcome State Fault Refusal :=
  .next ((s.elapse dt).request .linkStatus tag body)

/-- BACKCHANNEL_WAIT_EXPIRY (R113). -/
def execBackchannelWaitExpiry (link : Fin 4) (s : State) : Host.Outcome State Fault Refusal :=
  .next (s.onExpiry (s.link link).backWait (fun t => t.backWaitExpired link))

/-- HALF_DWELL_POINT (R118). -/
def execHalfDwellPoint (link : Fin 4) (s : State) : Host.Outcome State Fault Refusal :=
  .next (s.onExpiry ((s.link link).candidate.bind Search.halfDwell) (fun t => t.halfDwell link))

/-- DWELL_EXPIRY (R117). -/
def execDwellExpiry (link : Fin 4) (s : State) : Host.Outcome State Fault Refusal :=
  .next (s.onExpiry ((s.link link).candidate.map Search.dwell) (fun t => t.dwellExpired link))

/-- SILENCE_TIMER_EXPIRY (R125). -/
def execSilenceTimerExpiry (link : Fin 4) (s : State) : Host.Outcome State Fault Refusal :=
  .next (s.onExpiry (s.link link).silence (fun t => t.silenceExpired link))

/-- ERROR_WINDOW_EXPIRY (R123). -/
def execErrorWindowExpiry (link : Fin 4) (s : State) : Host.Outcome State Fault Refusal :=
  .next (s.onExpiry (s.link link).errorWindow (fun t => t.windowExpired link))

/-- RETRY_TIMER_EXPIRY (R122). -/
def execRetryTimerExpiry (link : Fin 4) (s : State) : Host.Outcome State Fault Refusal :=
  .next (s.onExpiry (s.link link).retry (fun t => t.retryExpired link))

/-- STATUS_RECORD (R134). -/
def execStatusRecord (dt : Nat) (link : Fin 4) (bytes : List Byte) (s : State) : Host.Outcome State Fault Refusal :=
  .next ((s.elapse dt).takeRecord link bytes)

/-- SCREEN_STATUS (R136). -/
def execScreenStatus (dt : Nat) (tag : Byte) (body : List Byte) (s : State) : Host.Outcome State Fault Refusal :=
  .next ((s.elapse dt).request .screenStatus tag body)

/-- ALIAS_SET (R137). -/
def execAliasSet (dt : Nat) (tag : Byte) (body : List Byte) (s : State) : Host.Outcome State Fault Refusal :=
  .next ((s.elapse dt).request .aliasSet tag body)

/-- ALIAS_CLEAR (R138). -/
def execAliasClear (dt : Nat) (tag : Byte) (body : List Byte) (s : State) : Host.Outcome State Fault Refusal :=
  .next ((s.elapse dt).request .aliasClear tag body)

/-- REMOTE_WRITE (R140). -/
def execRemoteWrite (dt : Nat) (tag : Byte) (body : List Byte) (s : State) : Host.Outcome State Fault Refusal :=
  .next ((s.elapse dt).request .remoteWrite tag body)

/-- REMOTE_READ (R140). -/
def execRemoteRead (dt : Nat) (tag : Byte) (body : List Byte) (s : State) : Host.Outcome State Fault Refusal :=
  .next ((s.elapse dt).request .remoteRead tag body)

/-- REMOTE_RESULT (R148). -/
def execRemoteResult (dt : Nat) (tag : Byte) (body : List Byte) (s : State) : Host.Outcome State Fault Refusal :=
  .next ((s.elapse dt).request .remoteResult tag body)

/-- REMOTE_WATCHDOG_EXPIRY (R144). -/
def execRemoteWatchdogExpiry (link : Fin 4) (toggle : Bool) (s : State) : Host.Outcome State Fault Refusal :=
  .next (s.onExpiry (s.watchdog link toggle) (fun t => t.watchdogExpired link toggle))

/-- TOUCH_FETCH (R151). -/
def execTouchFetch (dt : Nat) (tag : Byte) (body : List Byte) (s : State) : Host.Outcome State Fault Refusal :=
  .next ((s.elapse dt).request .touchFetch tag body)

end Sys2Proof.Machine
end

