-- ==== Sys2Proof/Machine/CommandsOutputs.lean ====
section
/-! DEFINITION. The meanings of the route, timing, output and integrity rows of spec/opcode_table.json. -/

namespace Sys2Proof.Machine

/-- ROUTE_SET (R52). -/
def execRouteSet (dt : Nat) (tag : Byte) (body : List Byte) (s : State) : Host.Outcome State Fault Refusal :=
  .next ((s.elapse dt).request .routeSet tag body)

/-- ROUTE_CLEAR (R56). -/
def execRouteClear (dt : Nat) (tag : Byte) (body : List Byte) (s : State) : Host.Outcome State Fault Refusal :=
  .next ((s.elapse dt).request .routeClear tag body)

/-- TIMING_SET (R75). -/
def execTimingSet (dt : Nat) (tag : Byte) (body : List Byte) (s : State) : Host.Outcome State Fault Refusal :=
  .next ((s.elapse dt).request .timingSet tag body)

/-- OUTPUT_CONTROL_ON (R79). -/
def execOutputControlOn (dt : Nat) (tag : Byte) (body : List Byte) (s : State) : Host.Outcome State Fault Refusal :=
  .next ((s.elapse dt).request .outputControl tag body)

/-- OUTPUT_CONTROL_OFF (R80). -/
def execOutputControlOff (dt : Nat) (tag : Byte) (body : List Byte) (s : State) : Host.Outcome State Fault Refusal :=
  .next ((s.elapse dt).request .outputControl tag body)

/-- OUTPUT_CONTROL_PAUSE (R81). -/
def execOutputControlPause (dt : Nat) (tag : Byte) (body : List Byte) (s : State) :
    Host.Outcome State Fault Refusal :=
  .next ((s.elapse dt).request .outputControl tag body)

/-- OUTPUT_CONTROL_RESUME (R81). -/
def execOutputControlResume (dt : Nat) (tag : Byte) (body : List Byte) (s : State) :
    Host.Outcome State Fault Refusal :=
  .next ((s.elapse dt).request .outputControl tag body)

/-- LOCK_SET (R86). -/
def execLockSet (dt : Nat) (tag : Byte) (body : List Byte) (s : State) : Host.Outcome State Fault Refusal :=
  .next ((s.elapse dt).request .lockSet tag body)

/-- OUTPUT_STATUS (R90). -/
def execOutputStatus (dt : Nat) (tag : Byte) (body : List Byte) (s : State) : Host.Outcome State Fault Refusal :=
  .next ((s.elapse dt).request .outputStatus tag body)

/-- VERTICAL_START (R83). -/
def execVerticalStart (output : Fin 4) (s : State) : Host.Outcome State Fault Refusal :=
  .next (s.onExpiry (s.startTimer output) (fun t => t.verticalStart output))

/-- CRC_INJECT (R188). -/
def execCrcInject (dt : Nat) (tag : Byte) (body : List Byte) (s : State) : Host.Outcome State Fault Refusal :=
  .next ((s.elapse dt).request .crcInject tag body)

/-- INTEGRITY_CLEAR (R189). -/
def execIntegrityClear (dt : Nat) (tag : Byte) (body : List Byte) (s : State) : Host.Outcome State Fault Refusal :=
  .next ((s.elapse dt).request .integrityClear tag body)

/-- INTEGRITY_STATUS (R190). -/
def execIntegrityStatus (dt : Nat) (tag : Byte) (body : List Byte) (s : State) : Host.Outcome State Fault Refusal :=
  .next ((s.elapse dt).request .integrityStatus tag body)

end Sys2Proof.Machine
end

