-- ==== Sys2Proof/Machine/CommandsPower.lean ====
section
/-! DEFINITION. The meanings of the coax power rows of spec/opcode_table.json. -/

namespace Sys2Proof.Machine

/-- POWER_POLICY (R156). -/
def execPowerPolicy (dt : Nat) (tag : Byte) (body : List Byte) (s : State) : Host.Outcome State Fault Refusal :=
  .next ((s.elapse dt).request .powerPolicy tag body)

/-- POWER_CONTROL_ON (R157). -/
def execPowerControlOn (dt : Nat) (tag : Byte) (body : List Byte) (s : State) : Host.Outcome State Fault Refusal :=
  .next ((s.elapse dt).request .powerControl tag body)

/-- POWER_CONTROL_OFF (R158). -/
def execPowerControlOff (dt : Nat) (tag : Byte) (body : List Byte) (s : State) : Host.Outcome State Fault Refusal :=
  .next ((s.elapse dt).request .powerControl tag body)

/-- POWER_CONTROL_CLEAR (R167). -/
def execPowerControlClear (dt : Nat) (tag : Byte) (body : List Byte) (s : State) : Host.Outcome State Fault Refusal :=
  .next ((s.elapse dt).request .powerControl tag body)

/-- POWER_BUDGET (R168). -/
def execPowerBudget (dt : Nat) (tag : Byte) (body : List Byte) (s : State) : Host.Outcome State Fault Refusal :=
  .next ((s.elapse dt).request .powerBudget tag body)

/-- POWER_STATUS (R173). -/
def execPowerStatus (dt : Nat) (tag : Byte) (body : List Byte) (s : State) : Host.Outcome State Fault Refusal :=
  .next ((s.elapse dt).request .powerStatus tag body)

/-- CURRENT_SAMPLE (R155). -/
def execCurrentSample (dt : Nat) (channel : Fin 4) (milliamps : Half) (supply : Supply) (s : State) :
    Host.Outcome State Fault Refusal :=
  .next ((s.elapse dt).takeSample channel milliamps supply)

/-- UNDERVOLTAGE_FAULT (R162). -/
def execUndervoltageFault (dt : Nat) (channel : Fin 4) (s : State) : Host.Outcome State Fault Refusal :=
  .next ((s.elapse dt).undervoltage channel)

/-- BACKDRIVE_BEGIN (R163). -/
def execBackdriveBegin (dt : Nat) (channel : Fin 4) (s : State) : Host.Outcome State Fault Refusal :=
  .next ((s.elapse dt).backdriveBegins channel)

/-- BACKDRIVE_END (R163). -/
def execBackdriveEnd (dt : Nat) (channel : Fin 4) (s : State) : Host.Outcome State Fault Refusal :=
  .next ((s.elapse dt).backdriveEnds channel)

/-- BACKDRIVE_FAULT (R163). -/
def execBackdriveFault (channel : Fin 4) (s : State) : Host.Outcome State Fault Refusal :=
  .next (s.backdriveHeld channel)

/-- SUPPLY_GOOD (R157). -/
def execSupplyGood (dt : Nat) (s : State) : Host.Outcome State Fault Refusal :=
  .next ((s.elapse dt).setSupply .good)

/-- DISCHARGE_EXPIRY (R160). -/
def execDischargeExpiry (channel : Fin 4) (s : State) : Host.Outcome State Fault Refusal :=
  .next (s.onExpiry (s.channel channel).dischargeTimer (fun t => t.dischargeExpired channel))

/-- COOL_DOWN_EXPIRY (R166). -/
def execCoolDownExpiry (channel : Fin 4) (s : State) : Host.Outcome State Fault Refusal :=
  .next (s.onExpiry (s.channel channel).coolDown (fun t => t.coolDownExpired channel))

/-- ACTIVE_TIMER_EXPIRY (R165). -/
def execActiveTimerExpiry (channel : Fin 4) (s : State) : Host.Outcome State Fault Refusal :=
  .next (s.onExpiry (s.channel channel).activeTimer (fun t => t.activeHeld channel))

/-- OVER_BUDGET_TIMER_EXPIRY (R169). -/
def execOverBudgetTimerExpiry (s : State) : Host.Outcome State Fault Refusal :=
  .next (s.onExpiry s.overTimer State.overExpired)

/-- UNDER_BUDGET_TIMER_EXPIRY (R169). -/
def execUnderBudgetTimerExpiry (s : State) : Host.Outcome State Fault Refusal :=
  .next (s.onExpiry s.underTimer State.underExpired)

end Sys2Proof.Machine
end

