-- ==== Sys2Proof/Machine/CommandsStreams.lean ====
section
/-! DEFINITION. The meanings of the stream, store and temperature rows of spec/opcode_table.json. -/

namespace Sys2Proof.Machine

/-- STREAM_OPEN (R28). -/
def execStreamOpen (dt : Nat) (tag : Byte) (body : List Byte) (s : State) : Host.Outcome State Fault Refusal :=
  .next ((s.elapse dt).request .streamOpen tag body)

/-- STREAM_CLOSE (R30). -/
def execStreamClose (dt : Nat) (tag : Byte) (body : List Byte) (s : State) : Host.Outcome State Fault Refusal :=
  .next ((s.elapse dt).request .streamClose tag body)

/-- STREAM_REARM (R16). -/
def execStreamRearm (dt : Nat) (tag : Byte) (body : List Byte) (s : State) : Host.Outcome State Fault Refusal :=
  .next ((s.elapse dt).request .streamRearm tag body)

/-- STREAM_STATUS (R32). -/
def execStreamStatus (dt : Nat) (tag : Byte) (body : List Byte) (s : State) : Host.Outcome State Fault Refusal :=
  .next ((s.elapse dt).request .streamStatus tag body)

/-- STORE_MAP (R18). -/
def execStoreMap (dt : Nat) (tag : Byte) (body : List Byte) (s : State) : Host.Outcome State Fault Refusal :=
  .next ((s.elapse dt).request .storeMap tag body)

/-- FRAME_START (R37). -/
def execFrameStart (dt : Nat) (stream : Byte) (number : Half) (s : State) : Host.Outcome State Fault Refusal :=
  .next ((s.elapse dt).takePacket (.frameStart stream number))

/-- LINE (R40). -/
def execLine (dt : Nat) (stream : Byte) (index count : Half) (pixels : List Byte) (crc : Half) (s : State) :
    Host.Outcome State Fault Refusal :=
  .next ((s.elapse dt).takePacket (.line stream index count pixels crc))

/-- FRAME_END (R43). -/
def execFrameEnd (dt : Nat) (stream : Byte) (count : Half) (s : State) : Host.Outcome State Fault Refusal :=
  .next ((s.elapse dt).takePacket (.frameEnd stream count))

/-- STRAY_PACKET (R210). -/
def execStrayPacket (dt : Nat) (bytes : List Byte) (s : State) : Host.Outcome State Fault Refusal :=
  .next ((s.elapse dt).takePacket (readPacket bytes))

/-- FRAME_TIMEOUT_EXPIRY (R44). -/
def execFrameTimeoutExpiry (stream : Fin 8) (s : State) : Host.Outcome State Fault Refusal :=
  .next (s.onExpiry (s.frameTimer stream) (fun t => t.frameTimedOut stream))

/-- TEMPERATURE_SAMPLE (R20). -/
def execTemperatureSample (dt : Nat) (reading : Int) (s : State) : Host.Outcome State Fault Refusal :=
  .next ((s.elapse dt).sampleTemperature reading)

end Sys2Proof.Machine
end

