-- ==== Sys2Proof/Machine/Dispatch.lean ====
section
/-! DEFINITION. Dispatch: one arm per command. -/

namespace Sys2Proof.Machine

def exec (i : Instr) (s : State) : Host.Outcome State Fault Refusal :=
  match i with
  | .deviceReset caps reading => Sys2Proof.Machine.execDeviceReset caps reading s
  | .storeTestDone dt failing => Sys2Proof.Machine.execStoreTestDone dt failing s
  | .initExpiry => Sys2Proof.Machine.execInitExpiry s
  | .readTransaction dt clocked => Sys2Proof.Machine.execReadTransaction dt clocked s
  | .badFrame dt bytes => Sys2Proof.Machine.execBadFrame dt bytes s
  | .unknownKind dt kind tag body => Sys2Proof.Machine.execUnknownKind dt kind tag body s
  | .wake dt bytes => Sys2Proof.Machine.execWake dt bytes s
  | .wakeWindowExpiry => Sys2Proof.Machine.execWakeWindowExpiry s
  | .identify dt tag body => Sys2Proof.Machine.execIdentify dt tag body s
  | .deviceStatus dt tag body => Sys2Proof.Machine.execDeviceStatus dt tag body s
  | .setModeRun dt tag body => Sys2Proof.Machine.execSetModeRun dt tag body s
  | .setModeStandby dt tag body => Sys2Proof.Machine.execSetModeStandby dt tag body s
  | .setModeSleep dt tag body => Sys2Proof.Machine.execSetModeSleep dt tag body s
  | .softReset dt tag body => Sys2Proof.Machine.execSoftReset dt tag body s
  | .noticeFetch dt tag body => Sys2Proof.Machine.execNoticeFetch dt tag body s
  | .noticeMask dt tag body => Sys2Proof.Machine.execNoticeMask dt tag body s
  | .streamOpen dt tag body => Sys2Proof.Machine.execStreamOpen dt tag body s
  | .streamClose dt tag body => Sys2Proof.Machine.execStreamClose dt tag body s
  | .streamRearm dt tag body => Sys2Proof.Machine.execStreamRearm dt tag body s
  | .streamStatus dt tag body => Sys2Proof.Machine.execStreamStatus dt tag body s
  | .storeMap dt tag body => Sys2Proof.Machine.execStoreMap dt tag body s
  | .frameStart dt stream number => Sys2Proof.Machine.execFrameStart dt stream number s
  | .line dt stream index count pixels crc => Sys2Proof.Machine.execLine dt stream index count pixels crc s
  | .frameEnd dt stream count => Sys2Proof.Machine.execFrameEnd dt stream count s
  | .strayPacket dt bytes => Sys2Proof.Machine.execStrayPacket dt bytes s
  | .frameTimeoutExpiry stream => Sys2Proof.Machine.execFrameTimeoutExpiry stream s
  | .temperatureSample dt reading => Sys2Proof.Machine.execTemperatureSample dt reading s
  | .routeSet dt tag body => Sys2Proof.Machine.execRouteSet dt tag body s
  | .routeClear dt tag body => Sys2Proof.Machine.execRouteClear dt tag body s
  | .timingSet dt tag body => Sys2Proof.Machine.execTimingSet dt tag body s
  | .outputControlOn dt tag body => Sys2Proof.Machine.execOutputControlOn dt tag body s
  | .outputControlOff dt tag body => Sys2Proof.Machine.execOutputControlOff dt tag body s
  | .outputControlPause dt tag body => Sys2Proof.Machine.execOutputControlPause dt tag body s
  | .outputControlResume dt tag body => Sys2Proof.Machine.execOutputControlResume dt tag body s
  | .lockSet dt tag body => Sys2Proof.Machine.execLockSet dt tag body s
  | .outputStatus dt tag body => Sys2Proof.Machine.execOutputStatus dt tag body s
  | .verticalStart output => Sys2Proof.Machine.execVerticalStart output s
  | .crcInject dt tag body => Sys2Proof.Machine.execCrcInject dt tag body s
  | .integrityClear dt tag body => Sys2Proof.Machine.execIntegrityClear dt tag body s
  | .integrityStatus dt tag body => Sys2Proof.Machine.execIntegrityStatus dt tag body s
  | .linkPolicy dt tag body => Sys2Proof.Machine.execLinkPolicy dt tag body s
  | .linkControlEnable dt tag body => Sys2Proof.Machine.execLinkControlEnable dt tag body s
  | .linkControlDisable dt tag body => Sys2Proof.Machine.execLinkControlDisable dt tag body s
  | .linkControlRetrain dt tag body => Sys2Proof.Machine.execLinkControlRetrain dt tag body s
  | .linkStatus dt tag body => Sys2Proof.Machine.execLinkStatus dt tag body s
  | .backchannelWaitExpiry link => Sys2Proof.Machine.execBackchannelWaitExpiry link s
  | .halfDwellPoint link => Sys2Proof.Machine.execHalfDwellPoint link s
  | .dwellExpiry link => Sys2Proof.Machine.execDwellExpiry link s
  | .silenceTimerExpiry link => Sys2Proof.Machine.execSilenceTimerExpiry link s
  | .errorWindowExpiry link => Sys2Proof.Machine.execErrorWindowExpiry link s
  | .retryTimerExpiry link => Sys2Proof.Machine.execRetryTimerExpiry link s
  | .statusRecord dt link bytes => Sys2Proof.Machine.execStatusRecord dt link bytes s
  | .screenStatus dt tag body => Sys2Proof.Machine.execScreenStatus dt tag body s
  | .aliasSet dt tag body => Sys2Proof.Machine.execAliasSet dt tag body s
  | .aliasClear dt tag body => Sys2Proof.Machine.execAliasClear dt tag body s
  | .remoteWrite dt tag body => Sys2Proof.Machine.execRemoteWrite dt tag body s
  | .remoteRead dt tag body => Sys2Proof.Machine.execRemoteRead dt tag body s
  | .remoteResult dt tag body => Sys2Proof.Machine.execRemoteResult dt tag body s
  | .remoteWatchdogExpiry link toggle => Sys2Proof.Machine.execRemoteWatchdogExpiry link toggle s
  | .touchFetch dt tag body => Sys2Proof.Machine.execTouchFetch dt tag body s
  | .powerPolicy dt tag body => Sys2Proof.Machine.execPowerPolicy dt tag body s
  | .powerControlOn dt tag body => Sys2Proof.Machine.execPowerControlOn dt tag body s
  | .powerControlOff dt tag body => Sys2Proof.Machine.execPowerControlOff dt tag body s
  | .powerControlClear dt tag body => Sys2Proof.Machine.execPowerControlClear dt tag body s
  | .powerBudget dt tag body => Sys2Proof.Machine.execPowerBudget dt tag body s
  | .powerStatus dt tag body => Sys2Proof.Machine.execPowerStatus dt tag body s
  | .currentSample dt channel milliamps supply => Sys2Proof.Machine.execCurrentSample dt channel milliamps supply s
  | .undervoltageFault dt channel => Sys2Proof.Machine.execUndervoltageFault dt channel s
  | .backdriveBegin dt channel => Sys2Proof.Machine.execBackdriveBegin dt channel s
  | .backdriveEnd dt channel => Sys2Proof.Machine.execBackdriveEnd dt channel s
  | .backdriveFault channel => Sys2Proof.Machine.execBackdriveFault channel s
  | .supplyGood dt => Sys2Proof.Machine.execSupplyGood dt s
  | .dischargeExpiry channel => Sys2Proof.Machine.execDischargeExpiry channel s
  | .coolDownExpiry channel => Sys2Proof.Machine.execCoolDownExpiry channel s
  | .activeTimerExpiry channel => Sys2Proof.Machine.execActiveTimerExpiry channel s
  | .overBudgetTimerExpiry => Sys2Proof.Machine.execOverBudgetTimerExpiry s
  | .underBudgetTimerExpiry => Sys2Proof.Machine.execUnderBudgetTimerExpiry s

end Sys2Proof.Machine
end

