-- ==== Sys2Proof/Safety.lean ====
section
/-! DEFINITION. What counts as a safe state, in the terms the claims use. Every step answers a next state; these are the
properties of the spec that every step is to keep. -/

namespace Sys2Proof.Machine

/-- The store's contents are in canonical form. -/
def StoreOk (s : State) : Prop := storeWf s.store = true

/-- An entry comes before another in the order of NOTICE_FETCH (R198). -/
def noticeLt (a b : Notice) : Prop := a.kind.code < b.kind.code ∨ (a.kind.code = b.kind.code ∧ a.object < b.object)

/-- The Notice Table: one entry per kind and object, in order, each count 1 to 255 (R197, R198). -/
def NoticesOk (s : State) : Prop := s.notices.Pairwise noticeLt ∧ ∀ n ∈ s.notices, 1 ≤ n.count ∧ n.count ≤ 255

/-- A link that trains, carries pictures or has failed has its power channel ACTIVE (R111, R122). -/
def LinkPowered (s : State) : Prop :=
  ∀ l : Fin 4, (s.link l).state = .disabled ∨ (s.link l).state = .waitPower ∨ (s.channel l).state = .active

/-- A link outside UP has nothing awaiting and no frame going out (R112, R139, R146). -/
def QuietWhenDown (s : State) : Prop :=
  ∀ l : Fin 4, (s.link l).state = .up ∨ ((s.link l).awaiting = [] ∧ (s.link l).halfPending = false)

/-- An integrity context exists exactly while the applied route is SAFETY (R176). -/
def ContextOk (s : State) : Prop :=
  ∀ o : Fin 4, (s.output o).context.isSome = (s.output o).route.safety.isSome

/-- The bounded queues: touch records, awaiting entries, aliases (R137, R139, R149). -/
def QueuesOk (s : State) : Prop :=
  s.aliases.length ≤ 16 ∧ ∀ l : Fin 4, (s.link l).touch.length ≤ 16 ∧ (s.link l).awaiting.length ≤ 2

/-- Outside RUN no output sends: none is SCANNING or PAUSED (R85, R91). -/
def HeldOutsideRun (s : State) : Prop :=
  s.mode = .run ∨ ∀ o : Fin 4, (s.output o).state ≠ .scanning ∧ (s.output o).state ≠ .paused

/-- In SLEEP nothing is powered and nothing runs: links DISABLED, channels OFF and none waiting, no output with vertical
starts (R91, R130, R174). -/
def DarkInSleep (s : State) : Prop :=
  s.mode = .sleep → ∀ n : Fin 4, (s.link n).state = .disabled ∧ (s.channel n).state = .off ∧
    (s.channel n).waiting = false ∧ (s.output n).state.running = false

/-- A channel's effective limit never exceeds its strap cap (R156). -/
def LimitsOk (s : State) : Prop := ∀ c : Fin 4, (s.channel c).policy.limit ≤ (s.channel c).cap.milliamps

/-- Every output holds the tier that an evaluation would choose now (R96, R97, R99). -/
def TierOk (s : State) : Prop := ∀ o : Fin 4, (s.output o).tier = s.tierNow o

/-- Frame custody. An output that does not run shows no stored frame (R14). An output's current frame is a READY slot of a
stream that its applied route names, so it is never being written (R7, R13). The write slot of a RECEIVING stream is
FILLING (R7). -/
def CustodyOk (s : State) : Prop :=
  (∀ o : Fin 4, (s.output o).state.running = false → (s.output o).current = none) ∧
  (∀ o : Fin 4, ∀ ref : SlotRef, (s.output o).current = some ref →
    (s.output o).route.names ref.stream = true ∧
    ∃ r q, s.stream ref.stream = some r ∧ r.slot ref.index = .ready q) ∧
  (∀ i : Fin 8, ∀ r : Stream, ∀ f : Incoming, s.stream i = some r → r.state = .receiving f → r.slot f.slot = .filling)

/-- The 40 ms of INIT run only in INIT, and a wake window only in STANDBY (R201, R203, R204). -/
def ModeTimersOk (s : State) : Prop :=
  (s.initTimer.isSome = true → s.mode = .init) ∧ (s.wakeWindow.isSome = true → s.mode = .standby)

/-- RESET_DONE is never masked, and no bit of the mask that names no kind is set (R199). -/
def MaskOk (s : State) : Prop := s.mask &&& 0x000FFFFC#32 = s.mask

end Sys2Proof.Machine

/-! ### The terms the statements share -/

namespace Sys2Proof.Claims

open Sys2Proof.Machine

/-- The request a row carries: kind, time since the command before, tag, body. -/
def requestOf : Instr → Option (RequestKind × Nat × Byte × List Byte)
  | .identify dt tag body => some (.identify, dt, tag, body)
  | .deviceStatus dt tag body => some (.deviceStatus, dt, tag, body)
  | .setModeRun dt tag body => some (.setMode, dt, tag, body)
  | .setModeStandby dt tag body => some (.setMode, dt, tag, body)
  | .setModeSleep dt tag body => some (.setMode, dt, tag, body)
  | .softReset dt tag body => some (.softReset, dt, tag, body)
  | .noticeFetch dt tag body => some (.noticeFetch, dt, tag, body)
  | .noticeMask dt tag body => some (.noticeMask, dt, tag, body)
  | .streamOpen dt tag body => some (.streamOpen, dt, tag, body)
  | .streamClose dt tag body => some (.streamClose, dt, tag, body)
  | .streamRearm dt tag body => some (.streamRearm, dt, tag, body)
  | .streamStatus dt tag body => some (.streamStatus, dt, tag, body)
  | .storeMap dt tag body => some (.storeMap, dt, tag, body)
  | .routeSet dt tag body => some (.routeSet, dt, tag, body)
  | .routeClear dt tag body => some (.routeClear, dt, tag, body)
  | .timingSet dt tag body => some (.timingSet, dt, tag, body)
  | .outputControlOn dt tag body => some (.outputControl, dt, tag, body)
  | .outputControlOff dt tag body => some (.outputControl, dt, tag, body)
  | .outputControlPause dt tag body => some (.outputControl, dt, tag, body)
  | .outputControlResume dt tag body => some (.outputControl, dt, tag, body)
  | .lockSet dt tag body => some (.lockSet, dt, tag, body)
  | .outputStatus dt tag body => some (.outputStatus, dt, tag, body)
  | .crcInject dt tag body => some (.crcInject, dt, tag, body)
  | .integrityClear dt tag body => some (.integrityClear, dt, tag, body)
  | .integrityStatus dt tag body => some (.integrityStatus, dt, tag, body)
  | .linkPolicy dt tag body => some (.linkPolicy, dt, tag, body)
  | .linkControlEnable dt tag body => some (.linkControl, dt, tag, body)
  | .linkControlDisable dt tag body => some (.linkControl, dt, tag, body)
  | .linkControlRetrain dt tag body => some (.linkControl, dt, tag, body)
  | .linkStatus dt tag body => some (.linkStatus, dt, tag, body)
  | .screenStatus dt tag body => some (.screenStatus, dt, tag, body)
  | .aliasSet dt tag body => some (.aliasSet, dt, tag, body)
  | .aliasClear dt tag body => some (.aliasClear, dt, tag, body)
  | .remoteWrite dt tag body => some (.remoteWrite, dt, tag, body)
  | .remoteRead dt tag body => some (.remoteRead, dt, tag, body)
  | .remoteResult dt tag body => some (.remoteResult, dt, tag, body)
  | .touchFetch dt tag body => some (.touchFetch, dt, tag, body)
  | .powerPolicy dt tag body => some (.powerPolicy, dt, tag, body)
  | .powerControlOn dt tag body => some (.powerControl, dt, tag, body)
  | .powerControlOff dt tag body => some (.powerControl, dt, tag, body)
  | .powerControlClear dt tag body => some (.powerControl, dt, tag, body)
  | .powerBudget dt tag body => some (.powerBudget, dt, tag, body)
  | .powerStatus dt tag body => some (.powerStatus, dt, tag, body)
  | _ => none

/-- The time that a command says has passed since the command before; expiries, vertical starts, BACKDRIVE_FAULT and
DEVICE_RESET carry none. -/
def durationOf : Instr → Option Nat
  | .storeTestDone dt _ => some dt
  | .readTransaction dt _ => some dt
  | .badFrame dt _ => some dt
  | .unknownKind dt _ _ _ => some dt
  | .wake dt _ => some dt
  | .frameStart dt _ _ => some dt
  | .line dt _ _ _ _ _ => some dt
  | .frameEnd dt _ _ => some dt
  | .strayPacket dt _ => some dt
  | .temperatureSample dt _ => some dt
  | .statusRecord dt _ _ => some dt
  | .currentSample dt _ _ _ => some dt
  | .undervoltageFault dt _ => some dt
  | .backdriveBegin dt _ => some dt
  | .backdriveEnd dt _ => some dt
  | .supplyGood dt => some dt
  | i => (requestOf i).map (fun r => r.2.1)

/-- The mode in which requests are carried out (R195). -/
def Awake (s : State) : Prop := s.mode = .standby ∨ s.mode = .run

/-- What the owner of a request finds as the request arrives: time has passed, the part has driven 0x00 throughout the
write transaction, and the wake window has ended (R193, R204). -/
def arrived (s : State) (dt : Nat) (body : List Byte) : State :=
  { s.elapse dt with spiOut := List.replicate (body.length + 5) 0, wakeWindow := none }

/-- A state with a reply of this kind and tag in the reply holder. -/
def replied (s : State) (k : RequestKind) (tag : Byte) (status : Status) (body : List Byte) : State :=
  { s with reply := some ⟨k.code, tag, status, body⟩ }

/-- The occurrence count of the pending entry of a kind and object; 0 when none is pending (R197). -/
def countOf (ns : List Notice) (k : NoticeKind) (object : Nat) : Nat :=
  ((ns.find? (fun n => n.kind == k && n.object == object)).map Notice.count).getD 0

/-- What a change of link l leaves with its neighbours, from the state `handed` in which the Remote Transaction Unit has
done its part (R112, R146): result record, posted-write errors and failed ration writes are those of `handed`; LINK_STATE is
posted once for the link, OUTPUT_TIER once for its output when the tier changes (R101), and nothing else. -/
def HandedOver (s handed t : State) (l : Fin 4) : Prop :=
  (t.link l).result = (handed.link l).result ∧ (t.link l).postedErrors = (handed.link l).postedErrors ∧
  t.channel l = handed.channel l ∧
  (NoticesOk s → NoticesOk t ∧ ∀ (kind : NoticeKind) (object : Nat), countOf t.notices kind object =
    if s.mode ≠ .init ∧ s.masked kind = false ∧ object = l.val ∧
      (kind = .linkState ∨ (kind = .outputTier ∧ (t.output l).tier ≠ (s.output l).tier))
    then min 255 (countOf handed.notices kind object + 1) else countOf handed.notices kind object)

/-- An entry of NOTICE_FETCH (11.3). -/
def noticeEntry (n : Notice) : List Byte :=
  [BitVec.ofNat 8 n.kind.code, BitVec.ofNat 8 n.object, BitVec.ofNat 8 n.count]

end Sys2Proof.Claims
end

