-- ==== Sys2Proof/WellFormed.lean ====
section
/-! DEFINITION. Which commands can arrive as the row they stand for: a body fits a frame, the bytes of a transaction or a
packet belong to their row, and a body whose kind has several rows does not carry another row's action. -/

namespace Sys2Proof

/-- A body fits a request frame (R194). -/
def fitsFrame (body : List Byte) : Bool := decide (body.length ≤ 248)

/-- The bytes of a write transaction: at least one, the first not 0xA5 (R193). -/
def writeBytes (bytes : List Byte) : Bool :=
  match bytes with
  | [] => false
  | b :: _ => b != 0xA5#8

/-- The body's action byte is none of the other rows' (11.2). -/
def notAction (body : List Byte) (at' : Nat) (others : List Nat) : Bool :=
  match body[at']? with
  | none => true
  | some b => !others.contains b.toNat

def Instr.wellFormed : Instr → Bool
  | .deviceReset _ _ => true
  | .storeTestDone _ _ => true
  | .initExpiry => true
  | .readTransaction _ clocked => decide (0 < clocked)
  | .badFrame _ bytes => writeBytes bytes && (match frameCheck bytes with
    | .bad _ _ => true
    | .good _ _ _ => false)
  | .unknownKind _ kind _ body => fitsFrame body && (RequestKind.ofCode? kind).isNone
  | .wake _ bytes => writeBytes bytes
  | .wakeWindowExpiry => true
  | .identify _ _ body => fitsFrame body
  | .deviceStatus _ _ body => fitsFrame body
  | .setModeRun _ _ body => fitsFrame body && notAction body 0 [1, 3]
  | .setModeStandby _ _ body => fitsFrame body && notAction body 0 [2, 3]
  | .setModeSleep _ _ body => fitsFrame body && notAction body 0 [1, 2]
  | .softReset _ _ body => fitsFrame body
  | .noticeFetch _ _ body => fitsFrame body
  | .noticeMask _ _ body => fitsFrame body
  | .streamOpen _ _ body => fitsFrame body
  | .streamClose _ _ body => fitsFrame body
  | .streamRearm _ _ body => fitsFrame body
  | .streamStatus _ _ body => fitsFrame body
  | .storeMap _ _ body => fitsFrame body
  | .frameStart _ _ _ => true
  | .line _ _ _ _ _ _ => true
  | .frameEnd _ _ _ => true
  | .strayPacket _ bytes => readPacket bytes == .stray
  | .frameTimeoutExpiry _ => true
  | .temperatureSample _ _ => true
  | .routeSet _ _ body => fitsFrame body
  | .routeClear _ _ body => fitsFrame body
  | .timingSet _ _ body => fitsFrame body
  | .outputControlOn _ _ body => fitsFrame body && notAction body 1 [1, 2, 3]
  | .outputControlOff _ _ body => fitsFrame body && notAction body 1 [0, 2, 3]
  | .outputControlPause _ _ body => fitsFrame body && notAction body 1 [0, 1, 3]
  | .outputControlResume _ _ body => fitsFrame body && notAction body 1 [0, 1, 2]
  | .lockSet _ _ body => fitsFrame body
  | .outputStatus _ _ body => fitsFrame body
  | .verticalStart _ => true
  | .crcInject _ _ body => fitsFrame body
  | .integrityClear _ _ body => fitsFrame body
  | .integrityStatus _ _ body => fitsFrame body
  | .linkPolicy _ _ body => fitsFrame body
  | .linkControlEnable _ _ body => fitsFrame body && notAction body 1 [1, 2]
  | .linkControlDisable _ _ body => fitsFrame body && notAction body 1 [0, 2]
  | .linkControlRetrain _ _ body => fitsFrame body && notAction body 1 [0, 1]
  | .linkStatus _ _ body => fitsFrame body
  | .backchannelWaitExpiry _ => true
  | .halfDwellPoint _ => true
  | .dwellExpiry _ => true
  | .silenceTimerExpiry _ => true
  | .errorWindowExpiry _ => true
  | .retryTimerExpiry _ => true
  | .statusRecord _ _ _ => true
  | .screenStatus _ _ body => fitsFrame body
  | .aliasSet _ _ body => fitsFrame body
  | .aliasClear _ _ body => fitsFrame body
  | .remoteWrite _ _ body => fitsFrame body
  | .remoteRead _ _ body => fitsFrame body
  | .remoteResult _ _ body => fitsFrame body
  | .remoteWatchdogExpiry _ _ => true
  | .touchFetch _ _ body => fitsFrame body
  | .powerPolicy _ _ body => fitsFrame body
  | .powerControlOn _ _ body => fitsFrame body && notAction body 1 [1, 2]
  | .powerControlOff _ _ body => fitsFrame body && notAction body 1 [0, 2]
  | .powerControlClear _ _ body => fitsFrame body && notAction body 1 [0, 1]
  | .powerBudget _ _ body => fitsFrame body
  | .powerStatus _ _ body => fitsFrame body
  | .currentSample _ _ _ _ => true
  | .undervoltageFault _ _ => true
  | .backdriveBegin _ _ => true
  | .backdriveEnd _ _ => true
  | .backdriveFault _ => true
  | .supplyGood _ => true
  | .dischargeExpiry _ => true
  | .coolDownExpiry _ => true
  | .activeTimerExpiry _ => true
  | .overBudgetTimerExpiry => true
  | .underBudgetTimerExpiry => true

end Sys2Proof
end

