-- ==== Sys2Proof/Certificates/Slice0/Obligations.lean ====
section
/-! DEFINITION. The statements for the provers, chapter by chapter of the spec, in the terms of Safety.lean. -/

open Sys2Proof Sys2Proof.Machine Sys2Proof.Claims

/-! ### The queue, time and replies (spec/00 section 5, spec/10) -/

/-- Model's choice (entry 3): one step takes the command at the front of the queue; an empty queue idles. -/
def Obligations.StepTakesTheFrontCommand : Prop :=
  (∀ (s : State) (c : Instr) (rest : List Instr), s.pending = c :: rest →
    step s = exec c { s with pending := rest }) ∧
  (∀ s : State, s.pending = [] → step s = .next s)

/-- Every command, with every operand and in every state, answers a next state and leaves the queue alone (entry 3); the
time base counts the µs that a command says have passed, modulo 2^32 (spec/00 section 5.3, entry 1). -/
def Obligations.EveryCommandCompletes : Prop :=
  ∀ (i : Instr) (s : State), ∃ t, exec i s = .next t ∧ t.pending = s.pending ∧
    ∀ dt, durationOf i = some dt → t.timeBase = s.timeBase + BitVec.ofNat 32 dt

/-- Outside SLEEP every request is answered with its own kind and tag, the reply has a body only with OK or ACCEPTED, and
the wake window has ended (R195, R204, R209). -/
def Obligations.RequestsAreAnswered : Prop :=
  ∀ (i : Instr) (s : State) (k : RequestKind) (dt : Nat) (tag : Byte) (body : List Byte),
    requestOf i = some (k, dt, tag, body) → s.mode ≠ .sleep →
    ∃ t status reply, exec i s = .next t ∧ t.reply = some ⟨k.code, tag, status, reply⟩ ∧ t.wakeWindow = none ∧
      (status = .ok ∨ status = .accepted ∨ reply = [])

/-- What the Control Port refuses itself, with no effect but the reply: bad frames, unknown kinds, every request but
IDENTIFY in INIT, and a body of the wrong length (R194, R195). -/
def Obligations.ControlPortRefusals : Prop :=
  (∀ (s : State) (dt : Nat) (bytes : List Byte) (kind tag : Byte), s.mode ≠ .sleep → writeBytes bytes = true →
    frameCheck bytes = .bad kind tag →
    exec (.badFrame dt bytes) s = .next { s.elapse dt with
      spiOut := List.replicate bytes.length 0, reply := some ⟨kind, tag, .badFrame, []⟩ }) ∧
  (∀ (s : State) (dt : Nat) (kind tag : Byte) (body : List Byte), s.mode ≠ .sleep → RequestKind.ofCode? kind = none →
    exec (.unknownKind dt kind tag body) s =
      .next { arrived s dt body with reply := some ⟨kind, tag, .unknownKind, []⟩ }) ∧
  (∀ (i : Instr) (s : State) (k : RequestKind) (dt : Nat) (tag : Byte) (body : List Byte),
    requestOf i = some (k, dt, tag, body) →
    (s.mode = .init → k ≠ .identify → exec i s = .next (replied (arrived s dt body) k tag .initializing [])) ∧
    (s.mode ≠ .sleep → (s.mode = .init → k = .identify) → k.lengthOk body = false →
      exec i s = .next (replied (arrived s dt body) k tag .badArg [])))

/-- Framing loses nothing and admits nothing else: a request frame of 0 to 248 body bytes passes the checks and gives back
its kind, tag and body, every frame that passes is such a frame, and a refused one carries the second and third byte as
received, or 0 for both (R194). -/
def Obligations.FramingRoundTrip : Prop :=
  (∀ (kind tag : Byte) (body : List Byte), body.length ≤ 248 →
    frameCheck (encodeRequest kind tag body) = .good kind tag body) ∧
  (∀ (bytes body : List Byte) (kind tag : Byte), frameCheck bytes = .good kind tag body →
    bytes = encodeRequest kind tag body ∧ body.length ≤ 248) ∧
  (∀ (bytes : List Byte) (kind tag : Byte), frameCheck bytes = .bad kind tag →
    (bytes.length < 3 → kind = 0 ∧ tag = 0) ∧
    (3 ≤ bytes.length → bytes[1]? = some kind ∧ bytes[2]? = some tag))

/-- A request row does what the SPI write transaction of its frame does, in every mode (R193 to R195, R203). A row whose
body holds another row's action does what its body says (entry 4). -/
def Obligations.RequestRowsAreTheirFrames : Prop :=
  (∀ k : RequestKind, RequestKind.ofCode? k.code = some k) ∧
  ∀ (i : Instr) (s : State) (k : RequestKind) (dt : Nat) (tag : Byte) (body : List Byte),
    requestOf i = some (k, dt, tag, body) → body.length ≤ 248 →
    exec i s = .next ((s.elapse dt).transaction (encodeRequest k.code tag body))

/-- A read transaction sends the held reply frame from its second byte on, 0x00 beyond the frame's end and no more than
clocked, and empties the holder; an empty holder sends an EMPTY frame and stays empty. Nothing else changes (R196); what was
sent is on the model's record `spiOut` (entries 12 and 28). -/
def Obligations.ReadTransactionSendsTheReply : Prop :=
  ∀ (s : State) (dt clocked : Nat), 0 < clocked →
    let sent (covered : List Byte) : List Byte :=
      (covered ++ [crc8 covered] ++ List.replicate clocked 0).take (clocked - 1)
    (s.reply = none →
      exec (.readTransaction dt clocked) s = .next { s.elapse dt with spiOut := sent [0xA5, 0, 0, 2, 0] }) ∧
    (∀ r : Reply, s.reply = some r →
      exec (.readTransaction dt clocked) s = .next { s.elapse dt with
        reply := none
        spiOut := sent ([0xA5, r.kind, r.tag, BitVec.ofNat 8 r.status.code, BitVec.ofNat 8 r.body.length] ++ r.body) })

/-- The check values and worked examples the spec gives for its arithmetic: CRC-16 and CRC-32 (R210, R180), demands
(5.6.1), sample positions (3.6.1, 3.6.2), passes (R115). -/
def Obligations.WorkedExamples : Prop :=
  let nine : List Byte := [0x31, 0x32, 0x33, 0x34, 0x35, 0x36, 0x37, 0x38, 0x39]
  let rear : Timing := ⟨241700, 2560, 160, 1440, 41⟩
  crc16 nine = 0x29B1 ∧ crc32 nine = 0xFC891918 ∧
  demand rear 24 1 = 5465264 ∧ demand rear 18 1 = 4100370 ∧ demand rear 18 2 = 2050185 ∧
  chooseTier (some rear) true true .full = .t18 ∧ chooseTier (some rear) true true .half = .talt ∧
  axisSample 98304 1920 1920 1279 = ⟨3838, 3839, 192⟩ ∧ axisSample 32768 0 960 1919 = ⟨959, 959, 64⟩ ∧
  passOrder 2 13 12 = [12, 13, 11, 10, 9, 8, 7, 6, 5, 4, 3, 2]

/-! ### Notices (R197 to R200) -/

/-- What a posting does (R197). -/
def Obligations.PostingRules : Prop :=
  ∀ (s : State) (k : NoticeKind) (object : Nat), NoticesOk s →
    (s.mode = .init ∨ s.masked k = true → s.post k object = s) ∧
    (s.mode ≠ .init → s.masked k = false →
      ∃ ns, s.post k object = { s with notices := ns } ∧ NoticesOk { s with notices := ns } ∧
        countOf ns k object = min 255 (countOf s.notices k object + 1) ∧
        ∀ (k' : NoticeKind) (object' : Nat), (k' ≠ k ∨ object' ≠ object) →
          countOf ns k' object' = countOf s.notices k' object')

/-- NOTICE_FETCH lists and removes every entry, in order (R198); NOTICE_MASK replaces the mask and removes the entries it
masks, and no kind is masked after a reset (R199). -/
def Obligations.FetchAndMask : Prop :=
  (∀ (s : State) (dt : Nat) (tag : Byte), Awake s →
    (NoticesOk s → s.notices.Pairwise noticeLt) ∧
    ∃ t, exec (.noticeFetch dt tag []) s = .next t ∧ t.attn = false ∧
      t = replied { arrived s dt [] with notices := [] } .noticeFetch tag .ok ((s.notices.map noticeEntry).flatten)) ∧
  (∀ (s : State) (dt : Nat) (tag : Byte) (body : List Byte), Awake s → body.length = 4 →
    let set : Word := word body 0 &&& 0x000FFFFC
    exec (.noticeMask dt tag body) s = .next (replied { arrived s dt body with
        mask := set
        notices := s.notices.filter (fun n => !set.getLsbD n.kind.code) } .noticeMask tag .ok (wordBytes set))) ∧
  State.reset.mask = 0 ∧ (∀ s : State, s.softReset.mask = 0)

/-! ### Identity, reset and modes (R19, R24, R201 to R208) -/

/-- IDENTIFY and DEVICE_STATUS (R205, R206). -/
def Obligations.IdentityAndStatus : Prop :=
  (∀ (s : State) (dt : Nat) (tag : Byte), s.mode ≠ .sleep →
    exec (.identify dt tag []) s = .next (replied (arrived s dt []) .identify tag .ok
      ([0x4E, 0x20, 0x41, 1, 32] ++ (allFour.map (fun c => halfOf (s.channel c).cap.milliamps)).flatten))) ∧
  (∀ (s : State) (dt : Nat) (tag : Byte), Awake s →
    exec (.deviceStatus dt tag []) s = .next (replied { arrived s dt [] with thermalChanged := false, stray := 0 }
      .deviceStatus tag .ok
      ([BitVec.ofNat 8 s.mode.code, if s.initResult = .ok then 0 else 1, BitVec.ofNat 8 s.thermal.code] ++
        halfBytes (BitVec.ofInt 16 s.temperature) ++
        [if s.thermalChanged then 1 else 0, BitVec.ofNat 8 (s.segments.filter (fun e => e == none)).length] ++
        halfBytes s.stray ++ wordBytes (s.timeBase + BitVec.ofNat 32 dt))))

/-- What device reset leaves (R19, R26, R48, R73, R92, R106, R132, R153, R175, R192, R201, R208), what ends the store test
(R24), and what ends INIT (R201). The caps and the first reading are the command's operands (entry 6), the comparator level
`backdrive` stays as the comparator shows it (entry 20), every link has an error window sum of 0 (entry 42) and an empty
record `forward` of what it sent (entry 12), a STORE_TEST_DONE outside INIT changes nothing (entry 7), and so does an
INIT_EXPIRY while its timer does not run (entry 2). -/
def Obligations.ResetAndInit : Prop :=
  (∀ (caps : Four Cap) (reading : Int) (s : State), ∃ t, exec (.deviceReset caps reading) s = .next t ∧
    t.mode = .init ∧ t.initTimer = some 40000 ∧ t.timeBase = 0 ∧ t.wakeWindow = none ∧ t.reply = none ∧
    t.notices = [] ∧ t.mask = 0 ∧ t.attn = false ∧ t.thermalChanged = false ∧ t.stray = 0 ∧
    t.temperature = max (-40) (min 150 reading) ∧
    t.thermal = (if 125 ≤ reading then .shutdown else if 105 ≤ reading then .critical
      else if 85 ≤ reading then .hot else .cool) ∧
    t.segments = List.replicate 32 none ∧ (∀ i, t.stream i = none) ∧ t.aliases = [] ∧
    (∀ o, t.output o = Output.reset) ∧ (∀ l, t.link l = Link.reset) ∧
    (∀ c, t.channel c = { Channel.reset (caps.get c) with backdrive := (s.channel c).backdrive }) ∧
    t.budget = 2000 ∧ t.boostThreshold = 1500 ∧ t.level = 0 ∧ t.boost = false ∧ t.overTimer = none ∧
    t.underTimer = none) ∧
  (∀ (s : State) (dt : Nat) (failing : Word), s.mode = .init → s.storeTesting = true →
    exec (.storeTestDone dt failing) s = .next { s.elapse dt with
      storeTesting := false, initResult := if failing = 0 then .ok else .storeFault }) ∧
  (∀ (s : State) (dt : Nat) (failing : Word), s.mode ≠ .init →
    exec (.storeTestDone dt failing) s = .next (s.elapse dt)) ∧
  (∀ (s : State) (left : Nat), s.initTimer = some left → s.notices = [] → s.mask = 0 →
    ∃ t, exec .initExpiry s = .next t ∧ t.attn = true ∧
      t = { s.elapse left with mode := .standby, initTimer := none, notices := [⟨.resetDone, 0, 1⟩] }) ∧
  (∀ s : State, s.initTimer = none → exec .initExpiry s = .next s)

/-- What SOFT_RESET leaves (R26, R48, R73, R92, R106, R132, R153, R175, R192, R207, R208). A ration write in flight counts as
failed; what went out on the forward channel stays on the model's record (entry 12), and every error window sum is 0 (R112,
entry 42). -/
def Obligations.SoftResetValues : Prop :=
  ∀ (s : State) (dt : Nat) (tag : Byte), Awake s →
    ∃ t, exec (.softReset dt tag []) s = .next t ∧
      t.mode = .standby ∧ t.notices = [⟨.resetDone, 0, 1⟩] ∧ t.attn = true ∧ t.mask = 0 ∧ t.wakeWindow = none ∧
      t.reply = some ⟨4, tag, .ok, []⟩ ∧
      t.segments = List.replicate 32 none ∧ (∀ i, t.stream i = none) ∧ t.aliases = [] ∧
      (∀ o, t.output o = Output.reset) ∧
      (∀ l, t.link l = { Link.reset with forward := (s.link l).forward }) ∧
      (∀ c, t.channel c = { (s.elapse dt).channel c with
        failedWrites := bumpBy (s.channel c).failedWrites
          (if (s.link c).state = .up then ((s.link c).awaiting.filter (fun e => e.origin == .ration)).length else 0) }) ∧
      t.initResult = s.initResult ∧ t.temperature = s.temperature ∧ t.thermal = s.thermal ∧
      t.thermalChanged = s.thermalChanged ∧ t.stray = s.stray ∧ t.budget = s.budget ∧
      t.boostThreshold = s.boostThreshold ∧ t.level = s.level ∧ t.boost = s.boost ∧ t.supply = s.supply

/-- SET_MODE RUN and STANDBY: the mode in force changes nothing, another value is refused, and a change posts MODE_CHANGED
and acts on the outputs alone: HOLD in STANDBY, SCANNING in RUN, and a SUSPENDED output takes its resume state with both
counts 0 and has a vertical start at once, as VerticalStartRules states it (R85, R91, R202). Such starts follow one another in
the order of the outputs (entry 30). -/
def Obligations.SetModeRunAndStandby : Prop :=
  (∀ (s : State) (dt : Nat) (tag : Byte),
    (s.mode = .run → exec (.setModeRun dt tag [2]) s = .next (replied (arrived s dt [2]) .setMode tag .ok [])) ∧
    (s.mode = .standby →
      exec (.setModeStandby dt tag [1]) s = .next (replied (arrived s dt [1]) .setMode tag .ok []))) ∧
  (∀ (i : Instr) (s : State) (dt : Nat) (tag mode : Byte), requestOf i = some (.setMode, dt, tag, [mode]) → Awake s →
    mode ≠ 1 → mode ≠ 2 → mode ≠ 3 →
    exec i s = .next (replied (arrived s dt [mode]) .setMode tag .badArg [])) ∧
  (∀ (s : State) (dt : Nat) (tag : Byte), s.mode = .run →
    exec (.setModeStandby dt tag [1]) s = .next (replied
      { ({ arrived s dt [1] with mode := .standby } : State).post .modeChanged 0 with
        outputs := (arrived s dt [1]).outputs.map (fun v => match v.state with
          | .scanning => { v with state := .hold }
          | .hold => { v with state := .hold }
          | .paused => { v with state := .hold, unchanged := 0 }
          | .off => v
          | .suspended _ => v) } .setMode tag .ok [])) ∧
  (∀ (s : State) (dt : Nat) (tag : Byte), s.mode = .standby →
    ∃ t, exec (.setModeRun dt tag [2]) s = .next t ∧ t.mode = .run ∧ t.reply = some ⟨3, tag, .ok, []⟩ ∧
      t.wakeWindow = none ∧ t.streams = (s.elapse dt).streams ∧ t.store = s.store ∧ t.segments = s.segments ∧
      t.channels = (s.elapse dt).channels ∧ t.aliases = s.aliases ∧ t.mask = s.mask ∧
      (∀ o, match (s.output o).state with
        | .hold => t.output o = { (s.elapse dt).output o with state := .scanning, unchanged := 0 } ∧
            t.link o = (s.elapse dt).link o
        | .suspended _ => (t.output o).starts = 1 ∧ (t.output o).state.running = true
        | .off => t.output o = (s.elapse dt).output o ∧ t.link o = (s.elapse dt).link o
        | .scanning => t.output o = (s.elapse dt).output o ∧ t.link o = (s.elapse dt).link o
        | .paused => t.output o = (s.elapse dt).output o ∧ t.link o = (s.elapse dt).link o) ∧
      ((∀ o r, (s.output o).state ≠ .suspended r) →
        t.notices = (({ s with mode := .run } : State).post .modeChanged 0).notices) ∧
      (NoticesOk s → countOf t.notices .modeChanged 0 =
        if s.masked .modeChanged = true then countOf s.notices .modeChanged 0
        else min 255 (countOf s.notices .modeChanged 0 + 1))) ∧
  (∀ (s : State) (dt : Nat) (tag : Byte), s.mode = .standby →
    let changed : State := ({ arrived s dt [2] with mode := .run } : State).post .modeChanged 0
    let resumes (o : Fin 4) (x y : State) : Prop :=
      let put (v : Output) : State := { x with outputs := x.outputs.set o v }
      let begun (state : OutputState) : State :=
        put { x.output o with state := state, starts := 0, unchanged := 0, untilStart := ⟨0, 1⟩ }
      match (x.output o).state with
      | .hold => y = put { x.output o with state := .scanning, unchanged := 0 }
      | .suspended .scanning => exec (.verticalStart o) (begun .scanning) = .next y
      | .suspended .paused => exec (.verticalStart o) (begun .paused) = .next y
      | .off => y = x
      | .scanning => y = x
      | .paused => y = x
    ∃ a b c d : State, resumes 0 changed a ∧ resumes 1 a b ∧ resumes 2 b c ∧ resumes 3 c d ∧
      exec (.setModeRun dt tag [2]) s = .next (replied d .setMode tag .ok []))

/-- Sleep entry, by SET_MODE SLEEP and by the expiry of the wake window (R22, R46, R72, R91, R110, R130, R153, R174, R191,
R202, R204). An UP link's result record, posted-write errors and failed ration write are those of `remoteLinkLoss`, which
RemoteCompletionRules states; the links go down before the channels (entry 16), so a RESTORE that becomes due stays pending,
or counts as sent and failed when its alias names no device of the link (R171). The consecutive unchanged count is kept
(entry 38). With no wake window running its expiry changes nothing (entry 2). -/
def Obligations.SleepEntry : Prop :=
  let asleep (before t : State) : Prop :=
    let handed (l : Fin 4) : State := if (before.link l).state = .up then before.remoteLinkLoss l else before
    t.mode = .sleep ∧ t.attn = false ∧ t.wakeWindow = none ∧ t.segments = before.segments ∧
    t.aliases = before.aliases ∧ t.mask = before.mask ∧ t.thermal = before.thermal ∧ t.stray = before.stray ∧
    (∀ i r, before.stream i = some r → t.stream i =
      some (if r.config.kind = .still ∧ r.config.retain = true ∧ r.state = .fixed then r
        else { r with state := .idle, latest := none, slots := r.slots.map (fun _ => Slot.empty) })) ∧
    (∀ i, before.stream i = none → t.stream i = none) ∧
    (∀ i j r a, before.stream i = some r → r.config.kind = .still → r.config.retain = true → r.state = .fixed →
      before.segments.getD (a / 4194304) none = some ⟨i, j⟩ → storeByte t.store a = storeByte before.store a) ∧
    (∀ o, let v := before.output o
      let w := t.output o
      w.route = v.route ∧ w.stagedRoute = v.stagedRoute ∧ w.timing = v.timing ∧ w.stagedTiming = v.stagedTiming ∧
      w.lastShown = v.lastShown ∧ w.starts = v.starts ∧ w.lockOn = v.lockOn ∧ w.lockTarget = v.lockTarget ∧
      w.comparisons = v.comparisons ∧ w.unchanged = v.unchanged ∧
      w.tier = (if (before.link o).state = .disabled then v.tier else t.tierNow o) ∧
      w.context = v.context.map (fun c => { c with freshness := .waiting, age := none, queue := [] }) ∧
      (v.state = .off → w.state = .off) ∧ (∀ r, v.state = .suspended r → w.state = .suspended r) ∧
      (v.state = .paused → w.state = .suspended .paused) ∧
      (v.state = .scanning ∨ v.state = .hold → w.state = .suspended .scanning) ∧
      (v.state.running = true → w.current = none ∧ w.content = .background ∧
        (v.lockOn = true → w.lock = .seeking ∧ w.goodLocks = 0 ∧ w.badLocks = 0 ∧ w.phaseError = 0))) ∧
    (∀ l, let v := before.link l
      let w := t.link l
      w.state = .disabled ∧ w.intent = v.intent ∧ w.policy = v.policy ∧ w.cause = v.cause ∧ w.drive = v.drive ∧
      w.rate = v.rate ∧ w.txSeq = v.txSeq ∧ w.retrains = v.retrains ∧ w.symbolErrors = v.symbolErrors ∧
      w.mirror = v.mirror ∧ w.touchOverflow = v.touchOverflow ∧ w.touchInvalid = v.touchInvalid ∧
      w.badRecords = v.badRecords ∧ w.seqErrors = v.seqErrors ∧
      w.result = ((handed l).link l).result ∧ w.postedErrors = ((handed l).link l).postedErrors ∧
      (v.state ≠ .disabled → w.touch = [] ∧ w.touchLost = bumpBy v.touchLost v.touch.length ∧ w.rxLock = false ∧
        w.demoted = false ∧ w.history = [] ∧ w.search = none ∧ w.backWait = none ∧ w.silence = none ∧
        w.errorWindow = none ∧ w.retry = none) ∧
      (v.state = .up → w.awaiting = [] ∧ w.lastConfig = none ∧ w.halfPending = false ∧ w.windowSum = 0)) ∧
    (∀ c, let v := before.channel c
      let w := t.channel c
      w.state = .off ∧ w.intent = v.intent ∧ w.policy = v.policy ∧ w.cap = v.cap ∧ w.cause = v.cause ∧
      w.faults = v.faults ∧ w.latched = v.latched ∧ w.waiting = false ∧
      (v.state ≠ .off → w.current = 0 ∧ w.blip = false ∧ w.dischargeTimer = none ∧ w.coolDown = none ∧
        w.activeTimer = none) ∧
      (let failed := ((handed c).channel c).failedWrites
        let write : Option RationWrite := if v.lastByte = some .restore then none else some .restore
        let noAlias := ∃ a, v.policy.action = some a ∧
          ∀ e, before.aliases.find? (fun x => x.aliasNo == a.aliasNo) = some e → e.link ≠ c
        (before.level = 0 ∨ v.rationed = false → w.rationed = v.rationed ∧ w.lastByte = v.lastByte ∧
          w.pendingByte = v.pendingByte ∧ w.failedWrites = failed) ∧
        (before.level ≠ 0 → v.rationed = true → w.rationed = false ∧
          (write = none ∨ ¬noAlias → w.lastByte = v.lastByte ∧ w.pendingByte = write ∧ w.failedWrites = failed) ∧
          (write ≠ none → noAlias → w.lastByte = some .restore ∧ w.pendingByte = none ∧
            w.failedWrites = bump failed)))) ∧
    t.level = 0 ∧ t.overTimer = none ∧ t.underTimer = none ∧ t.budget = before.budget ∧
    t.boostThreshold = before.boostThreshold ∧
    (NoticesOk before → before.mode ≠ .init → NoticesOk t ∧
      let posted (kind : NoticeKind) (n : Fin 4) : Prop :=
        (kind = .linkState ∧ (before.link n).state ≠ .disabled) ∨
        (kind = .outputTier ∧ (t.output n).tier ≠ (before.output n).tier) ∨
        (kind = .powerState ∧ (before.channel n).state ≠ .off) ∨
        (n = 0 ∧ (kind = .modeChanged ∨ (kind = .powerBudget ∧ before.level ≠ 0)))
      ∀ kind : NoticeKind, (∀ object, 3 < object → countOf t.notices kind object = countOf before.notices kind object) ∧
        ∀ n : Fin 4,
          (posted kind n → before.masked kind = false →
            countOf t.notices kind n.val = min 255 (countOf before.notices kind n.val + 1)) ∧
          (¬(posted kind n ∧ before.masked kind = false) →
            countOf t.notices kind n.val = countOf (handed n).notices kind n.val))
  (∀ (s : State) (dt : Nat) (tag : Byte), Awake s →
    ∃ t, exec (.setModeSleep dt tag [3]) s = .next t ∧ t.reply = some ⟨3, tag, .ok, []⟩ ∧ asleep (s.elapse dt) t) ∧
  (∀ (s : State) (left : Nat), s.wakeWindow = some left →
    ∃ t, exec .wakeWindowExpiry s = .next t ∧ t.reply = s.reply ∧ asleep (s.elapse left) t) ∧
  (∀ s : State, s.wakeWindow = none → exec .wakeWindowExpiry s = .next s)

/-- A write transaction in SLEEP wakes the part, whatever it carries, and is not carried out: the request rows, the
unknown kind, the bad frame and the wake row (R47, R91, R131, R157, R174, R193, R203). Channels wake in order, as
POWER_CONTROL ON takes them (`enterActive`, `enterDetect` and `enterFault` are what PowerControlRules states), and then
links, as ENABLE takes them (entry 15). The zero bytes driven stay on the model's record `spiOut` (entry 12). In SLEEP
nothing is powered (DarkInSleep, which has its own statement). -/
def Obligations.WakeFromSleep : Prop :=
  let channelWakes (c : Fin 4) (x y : State) : Prop :=
    let v := x.channel c
    let put (w : Channel) : State := { x with channels := x.channels.set c w }
    let willing := v.latched = false ∧ v.intent = true
    let cool := willing ∧ x.thermal ≠ .shutdown
    (v.latched = true → y = (put { v with
      state := .fault, dischargeTimer := none, coolDown := none, activeTimer := none, blipHold := none, blip := false
      waiting := false, attachRun := 0, removalRun := 0, overRun := 0 }).post .powerState c.val) ∧
    (v.latched = false → v.intent = false → y = x) ∧
    (willing → x.thermal = .shutdown → y = x.enterFault c .thermal) ∧
    (cool → v.policy.mode = .auto → y = x.enterDetect c) ∧
    (cool → v.policy.mode = .forced → x.supply = .good → y = x.enterActive c) ∧
    (cool → v.policy.mode = .forced → x.supply ≠ .good → y = put { v with waiting := true })
  let linkWakes (l : Fin 4) (x y : State) : Prop :=
    let v := x.link l
    let put (w : Link) : State := ({ x with links := x.links.set l w } : State).post .linkState l.val
    (v.intent = false → y = x) ∧
    (v.intent = true → (x.channel l).state = .active → y = put { v with
      state := .training, searchPolicy := v.policy
      drive := if v.policy.start = .middle then (v.policy.driveMin + v.policy.driveMax) / 2 else v.policy.driveMin
      rate := if v.policy.rate = .halfOnly ∨ (v.policy.rate = .auto ∧ v.demoted = true) then .half else .full
      search := none, backWait := some 50000, silence := none, errorWindow := none, retry := none }) ∧
    (v.intent = true → (x.channel l).state ≠ .active → y = put { v with state := .waitPower })
  let awoken (before t : State) (kind tag : Byte) (bytes : Nat) : Prop :=
    (let awake : State := ({ before with mode := .standby } : State).post .modeChanged 0
      let begun : State := { awake with
        wakeWindow := some 250000
        streams := before.streams.map (Option.map (fun r => { r with
          periods := [], stable := false, lastStart := none, lastNumber := none, phase := .accept
          decimating := false })) }
      ∃ a b c d e f g h : State, channelWakes 0 begun a ∧ channelWakes 1 a b ∧ channelWakes 2 b c ∧
        channelWakes 3 c d ∧ linkWakes 0 d e ∧ linkWakes 1 e f ∧ linkWakes 2 f g ∧ linkWakes 3 g h ∧
        t = { h with reply := some ⟨kind, tag, .waking, []⟩, spiOut := List.replicate bytes 0 }) ∧
    t.mode = .standby ∧ t.reply = some ⟨kind, tag, .waking, []⟩ ∧ t.wakeWindow = some 250000 ∧
    (before.masked .modeChanged = false → t.attn = true) ∧ t.store = before.store ∧ t.segments = before.segments ∧
    t.outputs = before.outputs ∧ t.aliases = before.aliases ∧ t.level = before.level ∧
    (∀ i, t.stream i = (before.stream i).map (fun r => { r with
      periods := [], stable := false, lastStart := none, lastNumber := none, phase := .accept, decimating := false })) ∧
    (∀ l, ((before.link l).intent = false → t.link l = before.link l) ∧
      ((before.link l).intent = true →
        (t.link l).state = if (t.channel l).state = .active then .training else .waitPower)) ∧
    (∀ c, let v := before.channel c
      let w := t.channel c
      w.intent = v.intent ∧ w.faults = (if v.latched = false ∧ v.intent = true ∧ before.thermal = .shutdown
        then bump v.faults else v.faults) ∧
      (v.latched = true → w.state = .fault ∧ w.cause = v.cause ∧ w.latched = true ∧ w.coolDown = none) ∧
      (v.latched = false → v.intent = false → w = v) ∧
      (v.latched = false → v.intent = true → before.thermal = .shutdown → w.state = .fault ∧ w.cause = .thermal) ∧
      (v.latched = false → v.intent = true → before.thermal ≠ .shutdown → v.policy.mode = .auto → w.state = .detect) ∧
      (v.latched = false → v.intent = true → before.thermal ≠ .shutdown → v.policy.mode = .forced →
        (before.supply = .good → w.state = .active) ∧
        (before.supply ≠ .good → w.state = .off ∧ w.waiting = true)))
  (∀ (i : Instr) (s : State) (k : RequestKind) (dt : Nat) (tag : Byte) (body : List Byte),
    requestOf i = some (k, dt, tag, body) → s.mode = .sleep → DarkInSleep s →
    ∃ t, exec i s = .next t ∧ awoken (s.elapse dt) t k.code tag (body.length + 5)) ∧
  (∀ (s : State) (dt : Nat) (kind tag : Byte) (body : List Byte),
    RequestKind.ofCode? kind = none → s.mode = .sleep → DarkInSleep s →
    ∃ t, exec (.unknownKind dt kind tag body) s = .next t ∧ awoken (s.elapse dt) t kind tag (body.length + 5)) ∧
  (∀ (i : Instr) (s : State) (dt : Nat) (bytes : List Byte), (i = .wake dt bytes ∨ i = .badFrame dt bytes) →
    writeBytes bytes = true → s.mode = .sleep → DarkInSleep s →
    ∃ t, exec i s = .next t ∧ awoken (s.elapse dt) t
      (if bytes.length < 3 then 0 else byteAt bytes 1) (if bytes.length < 3 then 0 else byteAt bytes 2) bytes.length)

/-! ### Streams and store (spec/01, spec/02) -/

/-- STREAM_OPEN: its checks in order, the segment need, and the record of the opened stream (R2, R3, R28, R29). -/
def Obligations.StreamOpenRules : Prop :=
  ∀ (s : State) (dt : Nat) (tag : Byte) (body : List Byte), Awake s → body.length = 14 →
    let u := arrived s dt body
    let at' (n : Nat) : Nat := (byteAt body n).toNat
    let w := (half body 1).toNat
    let h := (half body 3).toNat
    let count := at' 7
    let timeout := if at' 10 = 0 then 100 else min 250 (max 10 (at' 10))
    let threshold := if (half body 11).toNat = 0 then 16 else (half body 11).toNat
    let need := (w * h * (if at' 5 = 0 then 3 else 2) + 4194303) / 4194304
    let fieldsOk := (64 ≤ w ∧ w ≤ 3840 ∧ w % 2 = 0 ∧ 64 ≤ h ∧ h ≤ 2160) ∧ at' 5 ≤ 1 ∧ at' 6 ≤ 1 ∧
      (at' 6 = 0 → 2 ≤ count ∧ count ≤ 4 ∧ at' 13 = 0) ∧ (at' 6 = 1 → count = 1) ∧ at' 8 ≤ 1 ∧ at' 9 ≤ 1 ∧ at' 13 ≤ 1
    let refused (status : Status) : Prop :=
      exec (.streamOpen dt tag body) s = .next (replied u .streamOpen tag status [])
    (7 < at' 0 ∨ ¬fieldsOk → refused .badArg) ∧
    (∀ i : Fin 8, i.val = at' 0 → fieldsOk →
      ((s.stream i).isSome = true → refused .wrongState) ∧
      (s.stream i = none → s.initResult = .storeFault → refused .storeFault) ∧
      (s.stream i = none → s.initResult = .ok → s.freeSegments < count * need → refused .noRoom) ∧
      (s.stream i = none → s.initResult = .ok → count * need ≤ s.freeSegments →
        exec (.streamOpen dt tag body) s = .next (replied { u with
          segments := allocate s.segments i count need
          streams := u.streams.set i (some {
            config := ⟨w, h, if at' 5 = 0 then .rgb888 else .rgb565, if at' 6 = 0 then .video else .still, count,
              if at' 8 = 0 then .high else .low, if at' 9 = 0 then .dropDamaged else .showDamaged, timeout, threshold,
              at' 13 == 1⟩
            state := .idle, slots := List.replicate count .empty, published := 0, latest := none, lastPublish := none
            lastStart := none, lastNumber := none, periods := [], stable := false, phase := .accept
            decimating := false, counts := ⟨0, 0, 0, 0, 0, 0, 0, 0, 0⟩, lineLength := false, lineCount := false }) }
          .streamOpen tag .ok ([BitVec.ofNat 8 timeout] ++ halfBytes (BitVec.ofNat 16 threshold) ++
            [BitVec.ofNat 8 need, BitVec.ofNat 8 (count * need)]))))

/-- The segments of an opened stream: each slot gets exactly its need, slots in order of index take the lowest free
segments in ascending order, and no other entry of the map changes (R1, R3). -/
def Obligations.AllocationTakesLowestSegments : Prop :=
  ∀ (m : List (Option SlotRef)) (i : Fin 8) (count need : Nat), count ≤ 4 →
    (∀ j, some ⟨i, j⟩ ∉ m) → count * need ≤ (m.filter (fun e => e == none)).length →
    let after := allocate m i count need
    after.length = m.length ∧
    (∀ (a : Nat) (r : SlotRef), m[a]? = some (some r) → after[a]? = some (some r)) ∧
    (∀ j : Fin 4, (after.filter (fun e => e == some ⟨i, j⟩)).length = if j.val < count then need else 0) ∧
    (after.filter (fun e => e == none)).length + count * need = (m.filter (fun e => e == none)).length ∧
    (∀ (a b : Nat) (j : Fin 4), a < b → m[a]? = some none → after[b]? = some (some ⟨i, j⟩) →
      ∃ j' : Fin 4, j' ≤ j ∧ after[a]? = some (some ⟨i, j'⟩))

/-- STREAM_CLOSE, STREAM_REARM, STREAM_STATUS and STORE_MAP, and the question whether a stream is named (R4, R16 to R18, R30
to R32, R61), with the bodies of their replies (11.2.2, 11.3; bits that no table lists are 0: entry 36). -/
def Obligations.StreamRequestRules : Prop :=
  let bit (b : Bool) (n : Nat) : Nat := if b then n else 0
  let counted (c : StreamCounters) : List Byte := ([c.accepted, c.published, c.damaged, c.overruns, c.decimated, c.timeouts,
    c.lineErrors, c.sourceGaps, c.refused].map halfBytes).flatten
  let status (r : Stream) : List Byte :=
    let state : Byte := match r.state with
      | .idle => 1
      | .receiving _ => 2
      | .fixed => 3
    let latest : Word := match r.latest.map r.slot with
      | some (.ready q) => q
      | _ => 0
    [state, if r.config.kind = .video then 0 else 1, if r.config.priority = .high then 0 else 1] ++
    wordBytes r.published ++ wordBytes latest ++ wordBytes (r.lastPublish.getD 0) ++
    [BitVec.ofNat 8 (bit r.lastPublish.isSome 1 + bit r.stable 2 + bit r.lastNumber.isSome 4 + bit r.decimating 8 +
      bit r.lineLength 16 + bit r.lineCount 32)] ++
    wordBytes (r.periods.getLast?.getD 0) ++ halfBytes (r.lastNumber.getD 0) ++ counted r.counts
  let slotEntry (s : State) (ref : SlotRef) (v : Slot) : List Byte :=
    let shown := (allFour.filter (fun o => (s.output o).current == some ref)).length
    match v with
    | .empty => [BitVec.ofNat 8 (16 * shown)] ++ wordBytes 0
    | .filling => [BitVec.ofNat 8 (1 + 16 * shown)] ++ wordBytes 0
    | .ready q => [BitVec.ofNat 8 (2 + 16 * shown)] ++ wordBytes q
  let streamEntry (i : Fin 8) (r : Stream) : List Byte :=
    let need := (r.config.width * r.config.height * (if r.config.format = .rgb888 then 3 else 2) + 4194303) / 4194304
    [BitVec.ofNat 8 (i.val + (if r.config.kind = .still then 8 else 0) + 16 * (r.config.slotCount - 1)),
     BitVec.ofNat 8 (need + 16 * (match r.latest with
       | some j => j.val
       | none => 7))] ++ wordBytes r.published
  let map (s : State) : List Byte :=
    let opened := allEight.filterMap (fun i => (s.stream i).map (fun r => (i, r)))
    [BitVec.ofNat 8 (s.segments.filter (fun e => e == none)).length] ++
    s.segments.map (fun e => match e with
      | none => 0xFF
      | some ref => BitVec.ofNat 8 (ref.stream.val * 4 + ref.index.val)) ++
    [BitVec.ofNat 8 opened.length] ++ (opened.map (fun p => streamEntry p.1 p.2)).flatten ++
    (opened.map (fun p => ((([0, 1, 2, 3] : List (Fin 4)).take p.2.slots.length).map (fun j =>
      slotEntry s ⟨p.1, j⟩ (p.2.slot j))).flatten)).flatten
  (∀ (s : State) (i : Fin 8), s.named i = true ↔ ∃ o r, (r = (s.output o).route ∨ (s.output o).stagedRoute = some r) ∧
    ((∃ p, r.source = some p ∧ p.stream = i) ∨ (∃ p, r.safety = some p ∧ p.fallback = some i))) ∧
  (∀ (s : State) (dt : Nat) (tag n : Byte), Awake s →
    let u := arrived s dt [n]
    (7 < n.toNat →
      exec (.streamClose dt tag [n]) s = .next (replied u .streamClose tag .badArg []) ∧
      exec (.streamRearm dt tag [n]) s = .next (replied u .streamRearm tag .badArg []) ∧
      exec (.streamStatus dt tag [n]) s = .next (replied u .streamStatus tag .badArg [])) ∧
    (∀ i : Fin 8, i.val = n.toNat →
      (u.stream i = none ∨ u.named i = true →
        exec (.streamClose dt tag [n]) s = .next (replied u .streamClose tag .wrongState []) ∧
        exec (.streamRearm dt tag [n]) s = .next (replied u .streamRearm tag .wrongState [])) ∧
      (u.stream i ≠ none → u.named i = false →
        exec (.streamClose dt tag [n]) s = .next (replied { u with
          segments := u.segments.map (fun e => if e.any (fun r => r.stream == i) then none else e)
          streams := u.streams.set i none } .streamClose tag .ok [])) ∧
      (∀ r, u.stream i = some r → (r.config.kind = .video ∨ 0 < u.refs ⟨i, 0⟩) →
        exec (.streamRearm dt tag [n]) s = .next (replied u .streamRearm tag .wrongState [])) ∧
      (∀ r, u.stream i = some r → u.named i = false → r.config.kind = .still → u.refs ⟨i, 0⟩ = 0 →
        exec (.streamRearm dt tag [n]) s = .next (replied { u with streams := u.streams.set i (some (match r.state with
          | .fixed => { r with slots := r.slots.set 0 .empty, latest := none, state := .idle }
          | .receiving f => { r with slots := r.slots.set f.slot.val .empty, state := .idle }
          | .idle => r)) } .streamRearm tag .ok [])) ∧
      (∀ r, u.stream i = some r →
        exec (.streamStatus dt tag [n]) s = .next (replied { u with streams := u.streams.set i (some { r with
          counts := ⟨0, 0, 0, 0, 0, 0, 0, 0, 0⟩, lineLength := false, lineCount := false }) }
          .streamStatus tag .ok (status r))) ∧
      (u.stream i = none →
        exec (.streamStatus dt tag [n]) s = .next (replied u .streamStatus tag .ok (List.replicate 40 0))))) ∧
  (∀ (s : State) (dt : Nat) (tag : Byte), Awake s →
    exec (.storeMap dt tag []) s = .next (replied (arrived s dt []) .storeMap tag .ok (map (arrived s dt []))))

/-- Packets that are thrown away: in SLEEP without counting, unreadable or without an open stream as stray, and the lines
and ends of a frame that is not being received without counting (R33, R210). -/
def Obligations.PacketsThrownAway : Prop :=
  (∀ bytes : List Byte, readPacket bytes = .stray ↔
    (bytes.length < 4 ∨ byteAt bytes 0 ∉ ([1, 2, 3] : List Byte) ∨ (byteAt bytes 0 = 2 ∧ bytes.length < 8))) ∧
  (∀ (s : State) (dt : Nat) (stream : Byte) (number index count crc : Half) (pixels bytes : List Byte),
    let u := s.elapse dt
    let stray := { u with stray := bump s.stray }
    let start := Instr.frameStart dt stream number
    let line := Instr.line dt stream index count pixels crc
    let finish := Instr.frameEnd dt stream count
    (s.mode = .sleep → exec start s = .next u ∧ exec line s = .next u ∧ exec finish s = .next u ∧
      exec (.strayPacket dt bytes) s = .next u) ∧
    (s.mode ≠ .sleep → readPacket bytes = .stray → exec (.strayPacket dt bytes) s = .next stray) ∧
    (s.mode ≠ .sleep → (∀ i : Fin 8, i.val = stream.toNat → s.stream i = none) →
      exec start s = .next stray ∧ exec line s = .next stray ∧ exec finish s = .next stray) ∧
    (∀ (i : Fin 8) (r : Stream), s.mode ≠ .sleep → i.val = stream.toNat → s.stream i = some r →
      (r.state = .idle ∨ r.state = .fixed) → exec line s = .next u ∧ exec finish s = .next u))

/-- The slot chosen for a new frame: unreferenced and not latest; the EMPTY one of lowest index, otherwise the READY one
of lowest seq, the lowest index among equals; none only when no such slot exists (R7, R8). -/
def Obligations.WriteSlotChoice : Prop :=
  ∀ (s : State) (i : Fin 8) (r : Stream),
    let candidate (j : Fin 4) : Prop := j.val < r.slots.length ∧ s.refs ⟨i, j⟩ = 0 ∧ r.latest ≠ some j
    (∀ j, s.writeSlot? i r = some j → candidate j ∧
      ((r.slot j = .empty ∧ ∀ k, candidate k → r.slot k = .empty → j ≤ k) ∨
       (∃ q, r.slot j = .ready q ∧ ∀ k, candidate k → r.slot k ≠ .empty ∧
          ∀ p, r.slot k = .ready p → q.toNat < p.toNat ∨ (q = p ∧ j ≤ k)))) ∧
    (s.writeSlot? i r = none → ∀ j, candidate j → r.slot j = .filling)

/-- FRAME_START on an open stream: timing and frame number are captured whatever becomes of the frame, a frame in progress
ends as truncated, and then STANDBY discards, FIXED refuses, a decimated frame is skipped, a free slot begins the
frame, and no slot is an overrun (R9, R35 to R39, R45); when a stream is stable (R36) and when its frames are decimated (R38).
`endFrame` is what FrameEndRules states. -/
def Obligations.FrameStartRules : Prop :=
  ∀ (s : State) (dt : Nat) (stream : Byte) (number : Half) (i : Fin 8) (r : Stream),
    s.mode ≠ .sleep → i.val = stream.toNat → (s.elapse dt).stream i = some r →
    let u := s.elapse dt
    let history := match r.lastStart with
      | none => r.periods
      | some t => (if r.periods.length < 4 then r.periods else r.periods.drop 1) ++ [u.timeBase - t]
    let near (p q : Word) : Bool := decide ((max p.toNat q.toNat - min p.toNat q.toNat) * 64 ≤ p.toNat)
    let captured : Stream := { r with
      periods := history
      stable := match r.lastStart with
        | none => r.stable
        | some _ => (match history with
          | [p₁, p₂, p₃, p₄] => near p₁ p₂ && near p₂ p₃ && near p₃ p₄
          | _ => false)
      counts := { r.counts with sourceGaps := match r.lastNumber with
        | none => r.counts.sourceGaps
        | some n => if number = n + 1 then r.counts.sourceGaps else bump r.counts.sourceGaps }
      lastStart := some u.timeBase
      lastNumber := some number }
    let v := ({ u with streams := u.streams.set i (some captured) } : State).endFrame i true
    let start := exec (.frameStart dt stream number) s
    (r.state = .idle ∨ r.state = .fixed → v = { u with streams := u.streams.set i (some captured) }) ∧
    ∀ x, v.stream i = some x →
      (s.mode ≠ .run → start = .next v) ∧
      (s.mode = .run → x.state = .fixed → start = .next { v with streams := v.streams.set i (some { x with
        counts := { x.counts with refused := bump x.counts.refused } }) }) ∧
      (s.mode = .run → x.state ≠ .fixed →
        let hot := v.decimates i x
        let warm := s.thermal = .critical ∨ s.thermal = .shutdown
        let spared := ∃ o p, (s.output o).route.safety ≠ none ∧ (s.output o).route.source = some p ∧ p.stream = i
        let decided : Stream := if x.config.kind = .still then x
          else { x with phase := if hot then .skip else .accept, decimating := hot }
        (hot = true ↔ x.config.kind = .video ∧ ((x.config.priority = .low ∧ (s.thermal = .hot ∨ warm)) ∨
          (x.config.priority = .high ∧ warm ∧ ¬spared))) ∧
        (x.config.kind = .video → hot = true → x.phase = .skip →
          start = .next { v with streams := v.streams.set i (some { x with
            phase := .accept, decimating := true
            counts := { x.counts with decimated := bump x.counts.decimated } }) }) ∧
        (x.config.kind = .still ∨ hot = false ∨ x.phase = .accept →
          (∀ j, v.writeSlot? i x = some j →
            start = .next { v with streams := v.streams.set i (some { decided with
              slots := x.slots.set j.val .filling
              state := .receiving ⟨j, 0, false, x.config.timeoutMs * 1000⟩
              counts := { x.counts with accepted := bump x.counts.accepted } }) }) ∧
          (v.writeSlot? i x = none →
            start = .next (({ v with streams := v.streams.set i (some { decided with
              counts := { x.counts with overruns := bump x.counts.overruns } }) } : State).post .streamOverrun i.val))))

/-- A LINE of a frame in progress: the lines it writes, the repairs, the faults and the notice (R40 to R42, R210). -/
def Obligations.LineRules : Prop :=
  ∀ (s : State) (dt : Nat) (stream : Byte) (index count crc : Half) (pixels : List Byte) (i : Fin 8) (r : Stream)
    (f : Incoming), s.mode ≠ .sleep → i.val = stream.toNat → (s.elapse dt).stream i = some r →
    r.state = .receiving f →
    let u := s.elapse dt
    let k := index.toNat
    let p := r.config.format.bytes
    let lineBytes := r.config.width * p
    let segs := u.slotSegments ⟨i, f.slot⟩
    let carried := pixels.length / p
    let bad := crc16 pixels ≠ crc ∨ count.toNat ≠ carried ∨ pixels.length % p ≠ 0
    let errors := bump r.counts.lineErrors
    let noticed (t : State) : State :=
      if r.counts.lineErrors.toNat ≤ r.config.lineThreshold ∧ r.config.lineThreshold < errors.toNat then
        t.post .streamErrors i.val else t
    let line := exec (.line dt stream index count pixels crc) s
    let filled := if k = f.expected then u.store else fillLines u.store segs lineBytes f.expected (k - f.expected)
    let written := writeSlot filled segs (k * lineBytes) (adjustLine r.config.width p pixels)
    (k < f.expected ∨ r.config.height ≤ k →
      line = .next (noticed { u with streams := u.streams.set i (some { r with
        state := .receiving { f with damaged := true }, counts := { r.counts with lineErrors := errors } }) })) ∧
    (f.expected ≤ k → k < r.config.height →
      (bad ∨ carried ≠ r.config.width ∨ k ≠ f.expected →
        line = .next (noticed { u with store := written, streams := u.streams.set i (some { r with
          state := .receiving { f with expected := k + 1, damaged := true }
          lineLength := r.lineLength || decide (carried ≠ r.config.width)
          counts := { r.counts with lineErrors := errors } }) })) ∧
      (¬bad → carried = r.config.width → k = f.expected →
        line = .next { u with store := written, streams := u.streams.set i (some { r with
          state := .receiving { f with expected := k + 1 } }) }))

/-- How a frame ends: by its FRAME_END, or damaged by its timeout. It is published with the next seq, which stops at
4,294,967,295, unless it is damaged under DROP, and unwritten lines of a published frame are filled (R10 to R12, R15, R34,
R43, R44). The timeout of a stream that is not RECEIVING does not run, and its expiry changes nothing (entry 2). -/
def Obligations.FrameEndRules : Prop :=
  let ended (u : State) (i : Fin 8) (r : Stream) (f : Incoming) (damaged : Bool) : State :=
    let counts := { r.counts with damaged := if damaged then bump r.counts.damaged else r.counts.damaged }
    let q : Word := if r.published = 4294967295 then r.published else r.published + 1
    if damaged = true ∧ r.config.damagedPolicy = .dropDamaged then
      { u with streams := u.streams.set i (some { r with
        state := .idle, slots := r.slots.set f.slot.val .empty, counts := counts }) }
    else
      { u with
        store := fillLines u.store (u.slotSegments ⟨i, f.slot⟩) (r.config.width * r.config.format.bytes) f.expected
          (r.config.height - f.expected)
        streams := u.streams.set i (some { r with
          state := if r.config.kind = .still then .fixed else .idle
          slots := r.slots.set f.slot.val (.ready q), published := q, latest := some f.slot
          lastPublish := some u.timeBase, counts := { counts with published := bump r.counts.published } }) }
  (∀ (s : State) (dt : Nat) (stream : Byte) (count : Half) (i : Fin 8) (r : Stream) (f : Incoming),
    s.mode ≠ .sleep → i.val = stream.toNat → (s.elapse dt).stream i = some r → r.state = .receiving f →
    let wrong := decide (count.toNat ≠ r.config.height ∨ f.expected < r.config.height)
    exec (.frameEnd dt stream count) s =
      .next (ended (s.elapse dt) i { r with lineCount := r.lineCount || wrong } f (f.damaged || wrong))) ∧
  (∀ (s : State) (i : Fin 8) (r : Stream) (f : Incoming), s.stream i = some r → r.state = .receiving f →
    let u := (s.elapse f.timeout).post .streamTimeout i.val
    ∀ r', u.stream i = some r' →
      exec (.frameTimeoutExpiry i) s = .next (ended u i
        { r' with counts := { r'.counts with timeouts := bump r'.counts.timeouts } } { f with timeout := 0 } true)) ∧
  (∀ (s : State) (i : Fin 8), (∀ r f, s.stream i = some r → r.state ≠ .receiving f) →
    exec (.frameTimeoutExpiry i) s = .next s) ∧
  (∀ (s : State) (i : Fin 8) (r : Stream) (f : Incoming), s.stream i = some r → r.state = .receiving f →
    s.endFrame i true = ended s i r f true)

/-- Stored bytes: what is written at a slot offset reads back there and every other byte of the store keeps its value; a
written line is W pixels, cut or padded with its last pixel or black; missing lines are copies of the line before them or
black; and the store keeps its form (R6, R34, R40, R41). -/
def Obligations.StoredBytesReadBack : Prop :=
  (∀ (m : List Host.Cell) (segs : List Nat) (offset : Nat) (bytes : List Byte), storeWf m = true → segs.Nodup →
    offset + bytes.length ≤ segs.length * 4194304 →
    let after := writeSlot m segs offset bytes
    storeWf after = true ∧
    (∀ k, k < bytes.length → slotByte after segs (offset + k) = byteAt bytes k) ∧
    (∀ a, (∀ k, k < bytes.length → a ≠ slotAddress segs (offset + k)) → storeByte after a = storeByte m a)) ∧
  (∀ (width p : Nat) (pixels : List Byte), 0 < p →
    (adjustLine width p pixels).length = width * p ∧
    ∀ x c, x < width → c < p → byteAt (adjustLine width p pixels) (x * p + c) =
      if x < pixels.length / p then byteAt pixels (x * p + c)
      else if pixels.length / p = 0 then 0 else byteAt pixels ((pixels.length / p - 1) * p + c)) ∧
  (∀ (m : List Host.Cell) (segs : List Nat) (lineBytes first count : Nat), storeWf m = true → segs.Nodup →
    (first + count) * lineBytes ≤ segs.length * 4194304 →
    let after := fillLines m segs lineBytes first count
    (∀ y c, y < count → c < lineBytes → slotByte after segs ((first + y) * lineBytes + c) =
      if first = 0 then 0 else slotByte m segs ((first - 1) * lineBytes + c)) ∧
    (∀ a, (∀ k, first * lineBytes ≤ k → k < (first + count) * lineBytes → a ≠ slotAddress segs k) →
      storeByte after a = storeByte m a))

/-- The thermal state after a sample (the table of R20), and what a TEMPERATURE_SAMPLE does (R19 to R21, R164); outside
SHUTDOWN a good supply lets the waiting channels go ACTIVE (R157). Channel by channel, `enterActive` and `enterFault` are
what PowerControlRules states. -/
def Obligations.TemperatureRules : Prop :=
  (∀ t : Int, thermalAfter .cool t =
      (if 125 ≤ t then .shutdown else if 105 ≤ t then .critical else if 85 ≤ t then .hot else .cool) ∧
    thermalAfter .hot t =
      (if 125 ≤ t then .shutdown else if 105 ≤ t then .critical else if 83 ≤ t then .hot else .cool) ∧
    thermalAfter .critical t =
      (if 125 ≤ t then .shutdown else if 103 ≤ t then .critical else if 83 ≤ t then .hot else .cool) ∧
    thermalAfter .shutdown t =
      (if 116 ≤ t then .shutdown else if 103 ≤ t then .critical else if 83 ≤ t then .hot else .cool)) ∧
  (∀ (s : State) (dt : Nat) (reading : Int),
    let t := max (-40) (min 150 reading)
    let after := thermalAfter s.thermal t
    let sample := exec (.temperatureSample dt reading) s
    let taken := if after = s.thermal then { s.elapse dt with temperature := t } else
      ({ s.elapse dt with temperature := t, thermal := after, thermalChanged := true } : State).post .thermal 0
    let changed := ({ s.elapse dt with temperature := t, thermal := after, thermalChanged := true } : State).post
      .thermal 0
    let waits (c : Fin 4) : Prop := (s.channel c).waiting = true ∧ (s.channel c).state = .off
    let released (c : Fin 4) (x y : State) : Prop := (waits c → y = x.enterActive c) ∧ (¬waits c → y = x)
    let tripped (c : Fin 4) (x y : State) : Prop := match (s.channel c).state with
      | .off => y = x
      | .fault => y = { x with channels := x.channels.set c { x.channel c with cause := .thermal } }
      | .detect => y = x.enterFault c .thermal
      | .active => y = x.enterFault c .thermal
      | .discharge _ => y = x.enterFault c .thermal
    (after = .shutdown ∧ s.thermal = .shutdown → sample = .next taken) ∧
    (after ≠ .shutdown → s.supply ≠ .good ∨ (∀ c, ¬waits c) → sample = .next taken) ∧
    (after ≠ .shutdown → s.supply = .good → ∃ a b c d : State, released 0 taken a ∧ released 1 a b ∧ released 2 b c ∧
      released 3 c d ∧ sample = .next d) ∧
    (after ≠ s.thermal → after = .shutdown → ∃ a b c d : State, tripped 0 changed a ∧ tripped 1 a b ∧ tripped 2 b c ∧
      tripped 3 c d ∧ sample = .next d) ∧
    (after ≠ .shutdown → s.supply = .good → ∃ t', sample = .next t' ∧
      (∃ channels links notices, t' = { taken with channels := channels, links := links, notices := notices }) ∧
      ∀ c, (waits c → (t'.channel c).state = .active ∧ (t'.channel c).waiting = false ∧
          (t'.channel c).activeTimer = some 10000000 ∧
          (t'.link c).state = if (s.link c).state = .waitPower then .training else (s.link c).state) ∧
        (¬waits c → t'.channel c = taken.channel c ∧ t'.link c = taken.link c)) ∧
    (after ≠ s.thermal → after = .shutdown → ∃ t', sample = .next t' ∧ t'.temperature = t ∧ t'.thermal = .shutdown ∧
      t'.thermalChanged = true ∧ t'.streams = changed.streams ∧ t'.store = s.store ∧
      ∀ c, let v := changed.channel c
        match v.state with
        | .off => t'.channel c = v
        | .fault => t'.channel c = { v with cause := .thermal }
        | .detect => (t'.channel c).state = .fault ∧ (t'.channel c).cause = .thermal ∧
            (t'.channel c).faults = bump v.faults
        | .active => (t'.channel c).state = .fault ∧ (t'.channel c).cause = .thermal ∧
            (t'.channel c).faults = bump v.faults ∧
            (t'.link c).state = (if (s.link c).state = .disabled then .disabled else .waitPower)
        | .discharge _ => (t'.channel c).state = .fault ∧ (t'.channel c).cause = .thermal ∧
            (t'.channel c).faults = bump v.faults ∧ (t'.channel c).dischargeTimer = v.dischargeTimer))

/-! ### Routes, timings, outputs (spec/03, spec/04, spec/05) -/

/-- ROUTE_SET: what its body says and the clamping (R52 checks 2 to 4), why a route whose fields pass is refused, check by
check (R52 check 5 to R55), and what an accepted or a refused one does (R55, R57, R59). -/
def Obligations.RouteSetRules : Prop :=
  let steps (n d : Nat) : Prop := 16384 ≤ n * 65536 / d ∧ n * 65536 / d ≤ 262144
  let within (r : Rect) (w h least : Nat) : Prop := least ≤ r.w ∧ least ≤ r.h ∧ r.x + r.w ≤ w ∧ r.y + r.h ≤ h
  (∀ body : List Byte,
    let at' (n : Nat) : Nat := (byteAt body n).toNat
    let two (n : Nat) : Nat := (half body n).toNat
    let rect (n : Nat) : Rect := ⟨two n, two (n + 2), two (n + 4), two (n + 6)⟩
    let fieldsOk := (at' 1 ≤ 7 ∨ at' 1 = 255) ∧ at' 21 ≤ 1 ∧ at' 22 ≤ 1 ∧ (at' 22 = 1 → at' 21 = 1) ∧ at' 24 ≤ 1 ∧
      (at' 24 = 1 → (at' 25 ≤ 7 ∨ at' 25 = 255) ∧ at' 37 ≤ 2 ∧ at' 1 ≠ 255)
    (¬fieldsOk → readRoute body = none) ∧
    (fieldsOk → ∃ r, readRoute body = some r ∧ (r.source = none ↔ at' 1 = 255) ∧
      (∀ p, r.source = some p → p.stream.val = at' 1 ∧ p.window = rect 2 ∧ p.dest = rect 10) ∧
      r.background = ⟨byteAt body 18, byteAt body 19, byteAt body 20⟩ ∧ r.allow18 = decide (at' 21 = 1) ∧
      r.allowAlt = decide (at' 22 = 1) ∧ r.holdAfter = min 15 (at' 23) ∧ (at' 24 = 0 → r.safety = none) ∧
      (at' 24 = 1 → ∃ q, r.safety = some q ∧ (q.fallback = none ↔ at' 25 = 255) ∧
        (∀ i, q.fallback = some i → i.val = at' 25) ∧
        q.timeoutMs = (if two 26 = 0 then 100 else if two 26 < 20 then 20 else if 2000 < two 26 then 2000 else two 26) ∧
        q.window = rect 28 ∧ q.threshold = (if at' 36 = 0 then 2 else if 8 < at' 36 then 8 else at' 36) ∧
        q.action = (if at' 37 = 0 then .notify else if at' 37 = 1 then .fallback else .blank)))) ∧
  (∀ (s : State) (o : Fin 4) (r : Route), (r.safety.isSome = true → r.source.isSome = true) →
    let streamsOpen := (∀ p, r.source = some p → s.stream p.stream ≠ none) ∧
      (∀ q i, r.safety = some q → q.fallback = some i → ∃ x, s.stream i = some x ∧ x.config.kind = .still)
    let geometry (t : Timing) : Prop := ∀ p, r.source = some p →
      (∀ x, s.stream p.stream = some x → within p.window x.config.width x.config.height 16) ∧
      within p.dest t.hActive t.vActive 16 ∧ steps p.window.w p.dest.w ∧ steps p.window.h p.dest.h ∧
      (∀ q, r.safety = some q → within q.window t.hActive t.vActive 1 ∧
        (∀ i x, q.fallback = some i → s.stream i = some x →
          steps x.config.width p.dest.w ∧ steps x.config.height p.dest.h))
    let watched := ∀ q p, r.safety = some q → r.source = some p → r.allowAlt = false ∧ r.holdAfter = 0 ∧
      ∃ x, s.stream p.stream = some x ∧ x.config.damagedPolicy = .dropDamaged
    let timing := (s.output o).stagedTiming.or (s.output o).timing
    (timing = none → s.routeRefusal o r = some .wrongState) ∧
    (∀ t, timing = some t →
      let tier := chooseTier (some t) r.allow18 r.allowAlt (s.link o).bestRate
      (¬streamsOpen → s.routeRefusal o r = some .wrongState) ∧
      (streamsOpen → ¬geometry t → s.routeRefusal o r = some .badArg) ∧
      (streamsOpen → geometry t → ¬watched → s.routeRefusal o r = some .wrongState) ∧
      (streamsOpen → geometry t → watched → tier = .blocked → s.routeRefusal o r = some .overBudget) ∧
      (streamsOpen → geometry t → watched → tier ≠ .blocked → s.routeRefusal o r = none))) ∧
  (∀ (s : State) (dt : Nat) (tag : Byte) (body : List Byte), Awake s → RequestKind.lengthOk .routeSet body = true →
    let u := arrived s dt body
    let set := exec (.routeSet dt tag body) s
    (readRoute body = none ∨ 3 < (byteAt body 0).toNat → set = .next (replied u .routeSet tag .badArg [])) ∧
    (∀ (o : Fin 4) (r : Route), o.val = (byteAt body 0).toNat → readRoute body = some r →
      (∀ status, u.routeRefusal o r = some status → set = .next (replied u .routeSet tag status [])) ∧
      (u.routeRefusal o r = none →
        let reply := [byteAt body 0] ++
          (match r.source with
            | none => List.replicate 8 0
            | some p => wordBytes (BitVec.ofNat 32 (p.window.w * 65536 / p.dest.w)) ++
                wordBytes (BitVec.ofNat 32 (p.window.h * 65536 / p.dest.h))) ++
          [BitVec.ofNat 8 r.holdAfter] ++
          (match r.safety with
            | none => [0, 0, 0]
            | some q => halfBytes (BitVec.ofNat 16 q.timeoutMs) ++ [BitVec.ofNat 8 q.threshold])
        ((u.output o).state = .off →
          set = .next (replied (({ u with outputs := u.outputs.set o { u.output o with
            route := r, stagedRoute := none, lastShown := none
            context := r.safety.map (fun _ => ⟨.waiting, none, .clean, false, 0, 0, [], 0⟩) } } : State).evaluate o)
            .routeSet tag .ok reply)) ∧
        ((u.output o).state ≠ .off →
          set = .next (replied { u with outputs := u.outputs.set o { u.output o with stagedRoute := some r } }
            .routeSet tag .accepted reply)))))

/-- ROUTE_CLEAR builds the clearing route and is never refused for budget or timing (R56); TIMING_SET is checked in order
and applied at once on an OFF output, staged on any other (R75, R76). -/
def Obligations.ClearAndTimingRules : Prop :=
  (∀ (s : State) (dt : Nat) (tag n : Byte), Awake s →
    let u := arrived s dt [n]
    let clear := exec (.routeClear dt tag [n]) s
    (3 < n.toNat → clear = .next (replied u .routeClear tag .badArg [])) ∧
    (∀ o : Fin 4, o.val = n.toNat →
      let v := u.output o
      let old := match v.stagedRoute with
        | some r => r
        | none => v.route
      let empty : Route := ⟨none, old.background, old.allow18, old.allowAlt, 0, none⟩
      (v.state = .off → clear = .next (replied (({ u with outputs := u.outputs.set o { v with
        route := empty, stagedRoute := none, lastShown := none, context := none } } : State).evaluate o)
        .routeClear tag .ok [])) ∧
      (v.state ≠ .off → clear = .next (replied { u with outputs := u.outputs.set o { v with stagedRoute := some empty } }
        .routeClear tag .accepted [])))) ∧
  (∀ (s : State) (dt : Nat) (tag : Byte) (body : List Byte), Awake s → body.length = 13 →
    let u := arrived s dt body
    let set := exec (.timingSet dt tag body) s
    let t : Timing := ⟨(word body 1).toNat, (half body 5).toNat, (half body 7).toNat, (half body 9).toNat,
      (half body 11).toNat⟩
    (3 < (byteAt body 0).toNat → set = .next (replied u .timingSet tag .badArg [])) ∧
    (∀ o : Fin 4, o.val = (byteAt body 0).toNat →
      let v := u.output o
      let r := match v.stagedRoute with
        | some r => r
        | none => v.route
      let inRange := 25000 ≤ t.pclk ∧ t.pclk ≤ 300000 ∧ 320 ≤ t.hActive ∧ t.hActive ≤ 3840 ∧ t.hActive % 2 = 0 ∧
        32 ≤ t.hBlank ∧ t.hBlank ≤ 1024 ∧ 240 ≤ t.vActive ∧ t.vActive ≤ 2160 ∧ 4 ≤ t.vBlank ∧ t.vBlank ≤ 255
      let contains (q : Rect) : Prop := q.x + q.w ≤ t.hActive ∧ q.y + q.h ≤ t.vActive
      let covers := (∀ p, r.source = some p → contains p.dest) ∧ (∀ q, r.safety = some q → contains q.window)
      let tooMuch := r.source ≠ none ∧
        chooseTier (some t) r.allow18 r.allowAlt (u.link o).bestRate = .blocked
      let reply := [byteAt body 0] ++ halfBytes (BitVec.ofNat 16 (t.hActive + t.hBlank)) ++
        halfBytes (BitVec.ofNat 16 (t.vActive + t.vBlank)) ++
        wordBytes (BitVec.ofNat 32 ((t.hActive + t.hBlank) * (t.vActive + t.vBlank) * 1000 / t.pclk))
      (¬inRange ∨ ¬covers → set = .next (replied u .timingSet tag .badArg [])) ∧
      (inRange → covers → tooMuch → set = .next (replied u .timingSet tag .overBudget [])) ∧
      (inRange → covers → ¬tooMuch →
        (v.state = .off → set = .next (replied (({ u with outputs := u.outputs.set o { v with timing := some t } } : State
          ).evaluate o) .timingSet tag .ok reply)) ∧
        (v.state ≠ .off → set = .next (replied { u with outputs := u.outputs.set o { v with stagedTiming := some t } }
          .timingSet tag .accepted reply)))))

/-- OUTPUT_CONTROL ON, OFF, PAUSE, RESUME (R79 to R81), OFF with what it applies at once, the tier, the lock and the
notices (R58, R59, R74, R77), LOCK_SET (R86) and OUTPUT_STATUS (R90) with the body of its reply. OFF leaves the link's
record of the frame going out as it stands (entry 32). T is kept when the lock is switched off (entry 14). In the body, a
phase error beyond two bytes is a free value (entry 13), an output without a current frame shows 0xFF, 0xFF and 0 (entry
23), and flag bits that no table lists are 0 (entry 36). -/
def Obligations.OutputControlRules : Prop :=
  let bit (b : Bool) (n : Nat) : Nat := if b then n else 0
  let two (n : Nat) : List Byte := halfBytes (BitVec.ofNat 16 n)
  let body (s : State) (o : Fin 4) : List Byte :=
    let v := s.output o
    let resume : Byte := match v.state with
      | .suspended .scanning => 1
      | .suspended .paused => 2
      | _ => 0xFF
    let seq (ref : SlotRef) : Word := match (s.stream ref.stream).map (fun r => r.slot ref.index) with
      | some (Slot.ready q) => q
      | _ => 0
    [BitVec.ofNat 8 v.state.code, resume, BitVec.ofNat 8 (bit v.timing.isSome 1 + bit v.stagedTiming.isSome 2 +
      bit v.stagedRoute.isSome 4 + bit v.route.safety.isSome 8 + bit v.lockOn 16)] ++
    (match v.timing with
      | none => List.replicate 12 0
      | some t => wordBytes (BitVec.ofNat 32 t.pclk) ++ two t.hActive ++ two t.hBlank ++ two t.vActive ++ two t.vBlank) ++
    [BitVec.ofNat 8 v.content.code] ++
    (match v.current with
      | none => [0xFF, 0xFF, 0, 0, 0, 0]
      | some ref => [BitVec.ofNat 8 ref.stream.val, BitVec.ofNat 8 ref.index.val] ++
          wordBytes (seq ref)) ++
    [BitVec.ofNat 8 v.tier.code, BitVec.ofNat 8 v.lock.code] ++ wordBytes (BitVec.ofNat 32 v.lockTarget) ++
    halfBytes (if -32768 ≤ v.phaseError ∧ v.phaseError ≤ 32767 then BitVec.ofInt 16 v.phaseError
      else Config.phaseErrorField v.phaseError) ++
    halfBytes (s.link o).txSeq ++ wordBytes v.starts ++ halfBytes v.unchanged
  (∀ (i : Instr) (s : State) (dt : Nat) (tag n action : Byte), requestOf i = some (.outputControl, dt, tag, [n, action]) →
    Awake s → (3 < n.toNat ∨ 3 < action.toNat) →
    exec i s = .next (replied (arrived s dt [n, action]) .outputControl tag .badArg [])) ∧
  (∀ (s : State) (dt : Nat) (tag n : Byte) (o : Fin 4), Awake s → o.val = n.toNat →
    let v := (s.elapse dt).output o
    let ok (t : State) : Host.Outcome State Fault Refusal := .next (replied t .outputControl tag .ok [])
    let stays (action : Byte) := ok (arrived s dt [n, action])
    let refused (action : Byte) : Host.Outcome State Fault Refusal :=
      .next (replied (arrived s dt [n, action]) .outputControl tag .wrongState [])
    let put (action : Byte) (w : Output) : State :=
      { arrived s dt [n, action] with outputs := (arrived s dt [n, action]).outputs.set o w }
    let on := exec (.outputControlOn dt tag [n, 0]) s
    let off := exec (.outputControlOff dt tag [n, 1]) s
    let pause := exec (.outputControlPause dt tag [n, 2]) s
    let resume := exec (.outputControlResume dt tag [n, 3]) s
    (v.state ≠ .off → on = stays 0) ∧
    (v.state = .off → v.timing = none → on = refused 0) ∧
    (v.state = .off → v.timing ≠ none → v.lockOn = false → on = ok ((put 0 { v with
      state := if s.mode = .run then .scanning else .hold
      starts := 0, unchanged := 0, untilStart := ⟨0, 1⟩ }).verticalStart o)) ∧
    (v.state = .off → v.timing ≠ none → v.lockOn = true → on = ok ((put 0 { v with
      state := if s.mode = .run then .scanning else .hold
      starts := 0, unchanged := 0, untilStart := ⟨0, 1⟩
      lock := .seeking, goodLocks := 0, badLocks := 0, phaseError := 0 }).verticalStart o)) ∧
    (v.state = .off → off = stays 1) ∧
    (v.state ≠ .off → v.stagedTiming = none → v.stagedRoute = none → v.lockOn = false →
      off = ok (put 1 { v with
        state := .off, current := none, content := .background, lastShown := none, unchanged := 0, frameLines := 0
        untilStart := ⟨0, 1⟩ })) ∧
    (v.state ≠ .off →
      let applies := decide (v.stagedTiming ≠ none ∨ v.stagedRoute ≠ none)
      let route := v.stagedRoute.getD v.route
      let timing := v.stagedTiming.or v.timing
      let tier := if applies then chooseTier timing route.allow18 route.allowAlt ((s.elapse dt).link o).governingRate
        else v.tier
      let posted (kind : NoticeKind) : Prop := (kind = .routeApplied ∧ applies = true) ∨
        (kind = .outputTier ∧ tier ≠ v.tier) ∨ (kind = .lockState ∧ v.lockOn = true ∧ v.lock = .locked)
      ∃ notices, off = ok { put 1 { v with
          state := .off, current := none, content := .background, lastShown := none, unchanged := 0, frameLines := 0
          untilStart := ⟨0, 1⟩, timing := timing, stagedTiming := none, route := route, stagedRoute := none, tier := tier
          context := if v.stagedRoute = none then v.context
            else route.safety.map (fun _ => ⟨.waiting, none, .clean, false, 0, 0, [], 0⟩)
          lock := if v.lockOn then .seeking else v.lock
          goodLocks := if v.lockOn then 0 else v.goodLocks
          badLocks := if v.lockOn then 0 else v.badLocks
          phaseError := if v.lockOn then 0 else v.phaseError } with notices := notices } ∧
        (NoticesOk s → NoticesOk { s with notices := notices } ∧ ∀ (kind : NoticeKind) (object : Nat),
          (posted kind → object = o.val → s.masked kind = false →
            countOf notices kind object = min 255 (countOf s.notices kind object + 1)) ∧
          (¬(posted kind ∧ object = o.val ∧ s.masked kind = false) →
            countOf notices kind object = countOf s.notices kind object))) ∧
    (v.route.safety ≠ none ∨ v.state = .off ∨ (∃ r, v.state = .suspended r) ∨ (v.state = .hold ∧ s.mode = .standby) →
      pause = refused 2) ∧
    (v.route.safety = none → v.state = .paused → pause = stays 2) ∧
    (v.route.safety = none → (v.state = .scanning ∨ (v.state = .hold ∧ s.mode = .run)) →
      pause = ok (put 2 { v with state := .paused, unchanged := 0 })) ∧
    (v.state = .off ∨ (∃ r, v.state = .suspended r) → resume = refused 3) ∧
    (v.state = .scanning ∨ v.state = .hold → resume = stays 3) ∧
    (v.state = .paused → resume = ok (put 3 { v with state := .scanning, unchanged := 0 }))) ∧
  (∀ (s : State) (dt : Nat) (tag : Byte) (body : List Byte), Awake s → body.length = 6 →
    let u := arrived s dt body
    let set := exec (.lockSet dt tag body) s
    let target := (word body 2).toNat
    (3 < (byteAt body 0).toNat ∨ 1 < (byteAt body 1).toNat ∨ 100000 < target →
      set = .next (replied u .lockSet tag .badArg [])) ∧
    (∀ o : Fin 4, o.val = (byteAt body 0).toNat → target ≤ 100000 →
      (byteAt body 1 = 1 → set = .next (replied { u with outputs := u.outputs.set o { u.output o with
        lockOn := true, lockTarget := target, lock := .seeking, goodLocks := 0, badLocks := 0, phaseError := 0 } }
        .lockSet tag .ok [1])) ∧
      (byteAt body 1 = 0 → set = .next (replied { u with outputs := u.outputs.set o { u.output o with
        lockOn := false, lock := .free, goodLocks := 0, badLocks := 0, phaseError := 0 } }
        .lockSet tag .ok [0])))) ∧
  (∀ (s : State) (dt : Nat) (tag n : Byte), Awake s →
    (3 < n.toNat →
      exec (.outputStatus dt tag [n]) s = .next (replied (arrived s dt [n]) .outputStatus tag .badArg [])) ∧
    (∀ o : Fin 4, o.val = n.toNat → exec (.outputStatus dt tag [n]) s =
      .next (replied (arrived s dt [n]) .outputStatus tag .ok (body (arrived s dt [n]) o))))

/-- The cases of content selection (R64). -/
def Obligations.SelectionCases : Prop :=
  ∀ (s : State) (o : Fin 4),
    let v := s.output o
    let c := s.select o
    let background : Selection := ⟨.background, none, v.lastShown, false⟩
    let picture (stream : Fin 8) : Selection :=
      if v.state = .paused then
        (match v.current with
          | some slot => ⟨.frozen, some slot, v.lastShown, false⟩
          | none => background)
      else
        (match s.latest? stream with
          | some (slot, seq) => ⟨if v.lastShown = some seq then .repeated else .live, some slot, some seq, false⟩
          | none => background)
    (v.route.source = none → c = background) ∧
    (∀ p, v.route.source = some p → v.route.safety = none → c = picture p.stream) ∧
    (∀ p q x, v.route.source = some p → v.route.safety = some q → v.context = some x →
      let blanks := x.blanked = true ∨ (x.integrity = .fault ∧ q.action = .blank)
      let fallsBack := (x.integrity = .fault ∧ q.action = .fallback) ∨ x.freshness ≠ .fresh
      (blanks → c = background) ∧
      (¬blanks → fallsBack → ∀ i slot seq, q.fallback = some i → s.latest? i = some (slot, seq) →
        c = ⟨.fallback, some slot, v.lastShown, false⟩) ∧
      (¬blanks → fallsBack → (∀ i, q.fallback = some i → s.latest? i = none) →
        c = ⟨.background, none, v.lastShown, true⟩) ∧
      (¬blanks → ¬fallsBack → c = picture p.stream)) ∧
    (∀ i ref seq, s.latest? i = some (ref, seq) → ref.stream = i ∧
      ∃ r, s.stream i = some r ∧ r.latest = some ref.index ∧ r.slot ref.index = .ready seq)

/-- A vertical start (R58, R63, R65, R77, R82 to R84, R100). An output that does not run has none (entry 2); a start counts;
under TALT an odd start applies and selects nothing, any other applies staged timing and route and records the selection;
lock and freshness are evaluated at both; hold-on-static follows in RUN (the count of R84, also where its last paragraph or
R85 differs, entry 37); then the frame is sent or withheld. Each of ROUTE_APPLIED, OUTPUT_TIER, LOCK_STATE, STALE, FRESH and FALLBACK_MISSING is posted once when
its cause holds, before that no other notice, and nothing else of the part changes. Sending (R103, R127, R128, R212):
nothing; or the configuration record when one is due and the frame header; or the header of a half. With an integrity
context the frame's record is pushed with the CRC-32 over the safety window (R180, R181), whose bytes ScalerArithmetic
states. The items stay on the model's record `forward` (entry 12), a record is due by the comparison of R128 alone (entry
40), and a whole frame and a start that sends nothing leave no half pending (entry 18). -/
def Obligations.VerticalStartRules : Prop :=
  let checked (bytes : List Byte) : List Byte := bytes ++ halfBytes (crc16 bytes)
  let two (n : Nat) : List Byte := halfBytes (BitVec.ofNat 16 n)
  let header (seq : Half) (half : Byte) (t : Timing) : List Byte :=
    checked ([0x11] ++ halfBytes seq ++ [half] ++ two t.hActive ++ two t.vActive)
  (∀ (s : State) (o : Fin 4),
    ((s.output o).state.running = false → exec (.verticalStart o) s = .next s) ∧
    ((s.output o).state.running = true →
      let u := s.elapse ((s.output o).untilStart.num / (s.output o).untilStart.den)
      let v := u.output o
      let odd := decide (v.starts.toNat % 2 = 1)
      let skip := decide (v.tier = .talt) && odd
      let applies := !skip && decide (v.stagedTiming ≠ none ∨ v.stagedRoute ≠ none)
      let counted : State := { u with outputs := u.outputs.set o { v with starts := v.starts + 1 } }
      let applied := if skip = true then counted else counted.applyStaged o true
      let a := applied.output o
      let ready := (applied.lockFrame o (decide (sourceStream a.route ≠ sourceStream v.route))).freshenOutput o
      let r := ready.output o
      let c := ready.select o
      let route := v.stagedRoute.getD v.route
      let timing := v.stagedTiming.or v.timing
      let unpauses := v.stagedRoute ≠ none ∧ v.state = .paused
      let seeks := v.lockOn && match v.stagedTiming, v.timing with
        | none, _ => false
        | some _, none => true
        | some x, some y => decide (x.pclk ≠ y.pclk ∨ x.hActive + x.hBlank ≠ y.hActive + y.hBlank ∨
            x.vActive + x.vBlank ≠ y.vActive + y.vBlank)
      let count := if c.content = .live ∨ v.stagedRoute ≠ none then 0 else bump r.unchanged
      let k := a.route.holdAfter
      (applies = false → applied = counted) ∧
      (applies = true → a = { v with
        starts := v.starts + 1, timing := timing, stagedTiming := none, route := route, stagedRoute := none
        tier := chooseTier timing route.allow18 route.allowAlt (u.link o).governingRate
        lastShown := if v.stagedRoute = none then v.lastShown else none
        context := if v.stagedRoute = none then v.context
          else route.safety.map (fun _ => ⟨.waiting, none, .clean, false, 0, 0, [], 0⟩)
        state := if unpauses then .scanning else v.state
        unchanged := if unpauses then 0 else v.unchanged
        lock := if seeks then .seeking else v.lock
        goodLocks := if seeks then 0 else v.goodLocks
        badLocks := if seeks then 0 else v.badLocks
        phaseError := if seeks then 0 else v.phaseError }) ∧
      (∃ lines span lock good bad error context, r = { a with
        frameLines := lines, untilStart := span, lock := lock, goodLocks := good, badLocks := bad, phaseError := error
        context := context }) ∧
      ∃ held : State, exec (.verticalStart o) s = .next (held.sendFrame o odd) ∧
        (∃ outputs notices, held = { u with outputs := outputs, notices := notices }) ∧
        (∀ o', o' ≠ o → held.output o' = u.output o') ∧
        (skip = true →
          held.output o = { r with unchanged := if s.mode = .run ∧ v.state = .paused then 0 else r.unchanged }) ∧
        (skip = false → held.output o = { r with
          current := c.slot, content := c.content, lastShown := c.lastShown
          unchanged := if s.mode ≠ .run then r.unchanged else if r.state = .paused then 0 else count
          state := if s.mode ≠ .run then r.state
            else if r.state = .hold then (if count = 0 ∨ k = 0 then .scanning else .hold)
            else if r.state = .scanning then (if 0 < k ∧ k ≤ count.toNat then .hold else .scanning)
            else r.state }) ∧
        (NoticesOk s → NoticesOk held ∧
          let posted (kind : NoticeKind) : Bool := match kind with
            | .routeApplied => applies
            | .outputTier => applies && decide (a.tier ≠ v.tier)
            | .lockState => decide (v.lock = .locked) != decide (r.lock = .locked)
            | .stale => (match a.context.map Context.freshness, r.context.map Context.freshness with
              | some .fresh, some (.stale _) => true
              | _, _ => false)
            | .fresh => (match a.context.map Context.freshness, r.context.map Context.freshness with
              | some (.stale _), some .fresh => true
              | _, _ => false)
            | .fallbackMissing => !skip && c.missing
            | _ => false
          ∀ (kind : NoticeKind) (object : Nat), countOf held.notices kind object =
            if s.mode ≠ .init ∧ s.masked kind = false ∧ object = o.val ∧ posted kind = true
            then min 255 (countOf s.notices kind object + 1) else countOf s.notices kind object) ∧
        (let t := held.sendFrame o odd
          let w := t.output o
          let before := u.link o
          let after := t.link o
          let mayNot := before.state ≠ .up ∨ w.tier = .noTier ∨ w.tier = .blocked ∨
            (w.state ≠ .scanning ∧ w.state ≠ .paused) ∨
            (w.tier = .talt ∧ v.starts.toNat % 2 = 1 ∧ before.halfPending = false)
          (∃ outputs links notices, t = { u with outputs := outputs, links := links, notices := notices }) ∧
          (∀ o', o' ≠ o → t.output o' = u.output o' ∧ t.link o' = u.link o') ∧
          (∃ context comparisons, w = { held.output o with context := context, comparisons := comparisons }) ∧
          after.state = before.state ∧
          (mayNot → after.txSeq = before.txSeq ∧ after.forward = before.forward ∧ after.halfPending = false ∧
            after.sending = none) ∧
          (¬mayNot → w.timing ≠ none → w.tier = .talt → v.starts.toNat % 2 = 1 →
            after.txSeq = before.txSeq ∧ after.halfPending = false) ∧
          (¬mayNot → w.timing ≠ none → (w.tier ≠ .talt ∨ v.starts.toNat % 2 = 0) →
            after.txSeq = before.txSeq + 1 ∧ (after.halfPending = true ↔ w.tier = .talt) ∧
            after.lastConfig = some (wantedConfig w.tier w.route))))) ∧
  (∀ (s : State) (o : Fin 4) (odd : Bool),
    let v := s.output o
    let w := s.link o
    let allowed := w.state = .up ∧ (v.state = .scanning ∨ v.state = .paused) ∧ v.tier ≠ .noTier ∧ v.tier ≠ .blocked
    let second := v.tier = .talt ∧ odd = true
    let sends (x : Link) : State := { s with links := s.links.set o x }
    (¬allowed ∨ v.timing = none ∨ (second ∧ w.halfPending = false) →
      s.sendFrame o odd = sends { w with halfPending := false, sending := none }) ∧
    (∀ t, allowed → v.timing = some t → second → w.halfPending = true →
      s.sendFrame o odd = sends { w with
        halfPending := false
        sending := some ⟨w.txSeq, .second, (t.vActive + 1) / 2, t.vActive / 2, t, v.tier, v.route, v.content, v.current⟩
        forward := w.forward ++ [header w.txSeq 2 t] }) ∧
    (∀ t, allowed → v.timing = some t → ¬second →
      let half := decide (v.tier = .talt)
      let seq := w.txSeq + 1
      let depth := if v.tier = .t24 then 24 else 18
      let pacing := if half then 2 else 1
      let window := v.route.safety.map (fun p => p.window)
      let config : Configuration := ⟨depth, pacing, window⟩
      let record := checked ([0x10, BitVec.ofNat 8 depth, BitVec.ofNat 8 pacing] ++ match window with
        | none => List.replicate 9 0
        | some r => [1] ++ two r.x ++ two r.y ++ two r.w ++ two r.h)
      let frame : TxFrame := ⟨seq, if half then .first else .whole, 0, if half then (t.vActive + 1) / 2 else t.vActive, t,
        v.tier, v.route, v.content, v.current⟩
      let sent := sends { w with
        txSeq := seq, halfPending := half, lastConfig := some config, sending := some frame
        forward := w.forward ++ (if w.lastConfig = some config then [] else [record]) ++
          [header seq (if half then 1 else 0) t] }
      (v.context = none ∨ v.route.safety = none → s.sendFrame o odd = sent) ∧
      (∀ c p, v.context = some c → v.route.safety = some p →
        s.sendFrame o odd = sent.pushCrc o seq (crc32 (s.windowBytes frame p.window)))))

/-- Frame lock: when a source is usable and what an evaluation does (R87), the folded phase, the rounding half away from
zero, the one-line adjustment (R88), the exact time to the next start (R82), and the lock state (R89). -/
def Obligations.FrameLockRules : Prop :=
  (∀ d target period : Nat, 0 < period →
    let phi := foldPhase d target period
    0 < 2 * phi + period ∧ 2 * phi ≤ period ∧ ∃ k : Int, phi = (d : Int) - target + k * period) ∧
  (∀ (phi : Int) (t : Timing), 0 < t.hTotal →
    let e := phaseLines phi t
    let exact := phi * t.pclk
    let line := (t.hTotal : Int) * 1000
    2 * |exact - e * line| ≤ line ∧ (2 * |exact - e * line| = line → |exact| < |e * line|)) ∧
  (∀ (t : Timing) (e : Int), (1 ≤ e → adjustedLines t e = t.vTotal - 1) ∧ (e ≤ -1 → adjustedLines t e = t.vTotal + 1) ∧
    (e = 0 → adjustedLines t e = t.vTotal)) ∧
  (∀ (v : Output) (e : Int),
    (v.lock = .seeking → e.natAbs ≤ 1 → v.goodLocks < 7 →
      v.lockUpdate e = ({ v with goodLocks := v.goodLocks + 1 }, false)) ∧
    (v.lock = .seeking → e.natAbs ≤ 1 → 7 ≤ v.goodLocks →
      v.lockUpdate e = ({ v with lock := .locked, goodLocks := 0, badLocks := 0 }, true)) ∧
    (v.lock = .seeking → 1 < e.natAbs → v.lockUpdate e = ({ v with goodLocks := 0 }, false)) ∧
    (v.lock = .locked → 4 < e.natAbs → v.badLocks = 0 → v.lockUpdate e = ({ v with badLocks := 1 }, false)) ∧
    (v.lock = .locked → 4 < e.natAbs → 1 ≤ v.badLocks →
      v.lockUpdate e = ({ v with lock := .seeking, goodLocks := 0, badLocks := 0 }, true)) ∧
    (v.lock = .locked → e.natAbs ≤ 4 → v.lockUpdate e = ({ v with badLocks := 0 }, false)) ∧
    (v.lock = .free → v.lockUpdate e = (v, false))) ∧
  (∀ (left : Span) (t : Timing) (lines : Nat), 0 < left.den → 0 < t.pclk →
    let n := left.next t lines
    0 < n.den ∧ n.num * (left.den * t.pclk) =
      (left.num * t.pclk + (t.hActive + t.hBlank) * lines * 1000 * left.den) * n.den) ∧
  (∀ (s : State) (o : Fin 4) (period d : Nat), s.lockSource o = some (period, d) ↔
    ∃ p r t, (s.output o).route.source = some p ∧ s.stream p.stream = some r ∧ r.stable = true ∧
      r.periods.getLast?.map BitVec.toNat = some period ∧ period ≠ 0 ∧ r.lastStart = some t ∧
      d = (s.timeBase - t).toNat ∧ d ≤ 2 * period) ∧
  (∀ (s : State) (o : Fin 4) (moved : Bool),
    let v := s.output o
    let sought : Output := { v with lock := .seeking, goodLocks := 0, badLocks := 0, phaseError := 0 }
    let begun (w : Output) (t : Timing) (lines : Nat) : Output :=
      { w with frameLines := lines, untilStart := w.untilStart.next t lines }
    let becomes (w : Output) : State :=
      let after : State := { s with outputs := s.outputs.set o w }
      if decide (v.lock = .locked) = decide (w.lock = .locked) then after else after.post .lockState o.val
    (v.timing = none → s.lockFrame o moved = s) ∧
    (∀ t, v.timing = some t →
      (v.lockOn = false → s.lockFrame o moved = becomes (begun v t t.vTotal)) ∧
      (v.lockOn = true → s.lockSource o = none → s.lockFrame o moved = becomes (begun sought t t.vTotal)) ∧
      (∀ period d, v.lockOn = true → s.lockSource o = some (period, d) →
        let e := phaseLines (foldPhase d v.lockTarget period) t
        let begins := begun (if moved then sought else v) t (adjustedLines t e)
        s.lockFrame o moved = becomes ({ begins with phaseError := e }.lockUpdate e).1)))

/-- The Scaler: what it reads for a frame (R66, R67), sample positions (R68), the expansion of a stored pixel (R6, R69), the
two passes (R70), the reduction to six bits and the depth of a sent pixel (R71, R102), and the background outside the
destination (R66); and that samples stay in the window and are neighbours, a step of 65536 copies, a mix lies between its
samples and a weight of 0 keeps the first. The bytes of a safety window (R180), and the lines a frame or a half is sent in:
header, pixels in 8-bit or in packed 6-bit components, filled with 0 bits (R128, R212). The slot is read as it stands, also
once OUTPUT_CONTROL OFF has released it (entry 41). -/
def Obligations.ScalerArithmetic : Prop :=
  let checked (bytes : List Byte) : List Byte := bytes ++ halfBytes (crc16 bytes)
  let two (n : Nat) : List Byte := halfBytes (BitVec.ofNat 16 n)
  let components (c : Colour) : List Byte := [c.r, c.g, c.b]
  (∀ step start len i : Nat, 0 < len →
    let q := axisSample step start len i
    let p := ((i : Int) * step + ((step : Int) - 65536) / 2).toNat
    q = ⟨start + min (p / 65536) (len - 1), start + min (p / 65536 + 1) (len - 1), p % 65536 / 256⟩ ∧
    start ≤ q.first ∧ q.first ≤ q.second ∧ q.second < start + len ∧ q.second ≤ q.first + 1 ∧ q.weight < 256) ∧
  (∀ start len i : Nat, i < len → (axisSample 65536 start len i).first = start + i ∧
    (axisSample 65536 start len i).weight = 0) ∧
  (∀ a b f : Nat, mix a b f = (a * (256 - f) + b * f + 128) / 256) ∧
  (∀ a b f : Nat, f ≤ 256 → min a b ≤ mix a b f ∧ mix a b f ≤ max a b ∧ mix a b 0 = a ∧ mix a a f = a) ∧
  (∀ bytes : List Byte,
    let w := (half bytes 0).toNat
    let c := expandPixel .rgb565 bytes
    expandPixel .rgb888 bytes = ⟨byteAt bytes 0, byteAt bytes 1, byteAt bytes 2⟩ ∧
    c.r.toNat = 8 * (w / 2048) + w / 2048 / 4 ∧ c.g.toNat = 4 * (w / 32 % 64) + w / 32 % 64 / 16 ∧
    c.b.toNat = 8 * (w % 32) + w % 32 / 4) ∧
  (∀ (q : ScalerSource) (x y : Nat),
    let n := if q.config.format = .rgb888 then 3 else 2
    q.pixel x y = expandPixel q.config.format
      ((List.range n).map (fun k => slotByte q.store q.segments ((y * q.config.width + x) * n + k)))) ∧
  (∀ (q : ScalerSource) (i j : Nat),
    let h := axisSample (q.window.w * 65536 / q.destW) q.window.x q.window.w i
    let v := axisSample (q.window.h * 65536 / q.destH) q.window.y q.window.h j
    let passes (part : Colour → Byte) : Nat :=
      let value (x y : Nat) : Nat := (part (q.pixel x y)).toNat
      mix (mix (value h.first v.first) (value h.second v.first) h.weight)
        (mix (value h.first v.second) (value h.second v.second) h.weight) v.weight
    let c := q.scaled i j
    c.r.toNat = passes Colour.r ∧ c.g.toNat = passes Colour.g ∧ c.b.toNat = passes Colour.b) ∧
  (∀ c : Byte, (reduce6 c).toNat = min 63 ((c.toNat + 2) / 4)) ∧
  (∀ (s : State) (f : TxFrame),
    (f.content = .background ∨ f.slot = none ∨ f.route.source = none → s.scalerSource f = none) ∧
    (∀ ref p r, f.content ≠ .background → f.slot = some ref → f.route.source = some p → s.stream ref.stream = some r →
      s.scalerSource f = some (⟨s.store, s.slotSegments ref, r.config,
        if f.content = .fallback then ⟨0, 0, r.config.width, r.config.height⟩ else p.window, p.dest.w, p.dest.h⟩,
        p.dest)) ∧
    (∀ x y, let c := framePixel (s.scalerSource f) f.route.background x y
      (f.tier = .t24 → s.sentPixel f x y = c) ∧
      (f.tier = .t18 ∨ f.tier = .talt → s.sentPixel f x y = ⟨reduce6 c.r, reduce6 c.g, reduce6 c.b⟩))) ∧
  (∀ (q : ScalerSource) (d : Rect) (background : Colour) (x y : Nat),
    (x < d.x ∨ d.x + d.w ≤ x ∨ y < d.y ∨ d.y + d.h ≤ y → framePixel (some (q, d)) background x y = background) ∧
    (∀ i j, i < d.w → j < d.h → framePixel (some (q, d)) background (d.x + i) (d.y + j) = q.scaled i j)) ∧
  (∀ (background : Colour) (x y : Nat), framePixel none background x y = background) ∧
  (∀ (s : State) (f : TxFrame) (r : Rect), (s.windowBytes f r).length = r.w * r.h * 3 ∧
    ∀ i j c, i < r.w → j < r.h → c < 3 →
      byteAt (s.windowBytes f r) ((j * r.w + i) * 3 + c) = byteAt (components (s.sentPixel f (r.x + i) (r.y + j))) c) ∧
  (∀ (s : State) (l : Fin 4), (s.link l).sending = none → s.linesOnLink l = []) ∧
  (∀ (s : State) (l : Fin 4) (f : TxFrame), (s.link l).sending = some f → (s.linesOnLink l).length = f.lines ∧
    ∀ k, k < f.lines →
      let y := f.firstLine + k
      let n := f.timing.hActive
      let part (x c : Nat) : Byte := byteAt (components (s.sentPixel f x y)) c
      let mark : Byte := match f.mark with
        | .whole => 0
        | .first => 1
        | .second => 2
      ∃ pixels, (s.linesOnLink l)[k]? = some (checked ([0x12, mark] ++ two y ++ two n) ++ pixels) ∧
        (f.tier = .t24 → pixels.length = n * 3 ∧
          ∀ x c, x < n → c < 3 → byteAt pixels (x * 3 + c) = part x c) ∧
        (f.tier = .t18 ∨ f.tier = .talt → pixels.length = (n * 18 + 7) / 8 ∧
          ∀ i, i < 8 * pixels.length → (byteAt pixels (i / 8)).getLsbD (7 - i % 8) =
            (decide (i < n * 18) && (part (i / 18) (i % 18 / 6)).getLsbD (5 - i % 6))))

/-- Capacity, demand rounded up once, the first allowed tier that fits, and the governing rate (R94 to R97). -/
def Obligations.TierIsTheFirstThatFits : Prop :=
  Rate.capacity .full = 4700000 ∧ Rate.capacity .half = 2350000 ∧
  (∀ (t : Timing) (b n : Nat), 0 < n * t.hTotal →
    t.pclk * (t.hActive * b + 64) ≤ demand t b n * (n * t.hTotal) ∧
    demand t b n * (n * t.hTotal) < t.pclk * (t.hActive * b + 64) + n * t.hTotal) ∧
  (∀ (allow18 allowAlt : Bool) (rate : Rate), chooseTier none allow18 allowAlt rate = .noTier) ∧
  (∀ (t : Timing) (allow18 allowAlt : Bool) (rate : Rate),
    let tier := chooseTier (some t) allow18 allowAlt rate
    let t24 := demand t 24 1 ≤ rate.capacity
    let t18 := allow18 = true ∧ demand t 18 1 ≤ rate.capacity
    let talt := allow18 = true ∧ allowAlt = true ∧ demand t 18 2 ≤ rate.capacity
    (tier = .t24 ↔ t24) ∧ (tier = .t18 ↔ ¬t24 ∧ t18) ∧ (tier = .talt ↔ ¬t24 ∧ ¬t18 ∧ talt) ∧
    (tier = .blocked ↔ ¬t24 ∧ ¬t18 ∧ ¬talt)) ∧
  (∀ v : Link, v.governingRate = if v.state = .up then v.rate
    else if v.policy.rate = .halfOnly ∨ (v.policy.rate = .auto ∧ v.demoted = true) then .half else .full) ∧
  (∀ (s : State) (o : Fin 4), s.tierNow o =
    chooseTier (s.output o).timing (s.output o).route.allow18 (s.output o).route.allowAlt (s.link o).governingRate)

/-! ### Content integrity (spec/09) -/

/-- CRC_INJECT, INTEGRITY_CLEAR and INTEGRITY_STATUS (R188 to R190). -/
def Obligations.IntegrityRequestRules : Prop :=
  (∀ (s : State) (dt : Nat) (tag n count : Byte), Awake s →
    let u := arrived s dt [n, count]
    let inject := exec (.crcInject dt tag [n, count]) s
    let frames := if count.toNat = 0 then 1 else min 8 count.toNat
    (3 < n.toNat → inject = .next (replied u .crcInject tag .badArg [])) ∧
    (∀ o : Fin 4, o.val = n.toNat →
      let v := u.output o
      (v.context = none → inject = .next (replied u .crcInject tag .wrongState [])) ∧
      (∀ c, v.context = some c → inject = .next (replied { u with outputs := u.outputs.set o { v with
        context := some { c with inject := frames } } } .crcInject tag .ok [BitVec.ofNat 8 frames])))) ∧
  (∀ (s : State) (dt : Nat) (tag n : Byte), Awake s →
    let u := arrived s dt [n]
    let clear := exec (.integrityClear dt tag [n]) s
    let status := exec (.integrityStatus dt tag [n]) s
    (3 < n.toNat → clear = .next (replied u .integrityClear tag .badArg []) ∧
      status = .next (replied u .integrityStatus tag .badArg [])) ∧
    (∀ o : Fin 4, o.val = n.toNat →
      let v := u.output o
      let counts := v.comparisons
      let counted := ([counts.good, counts.mismatch, counts.missing, counts.late, counts.injected,
        counts.noContext].map halfBytes).flatten
      let read (body : List Byte) : Host.Outcome State Fault Refusal :=
        .next (replied { u with outputs := u.outputs.set o { v with comparisons := ⟨0, 0, 0, 0, 0, 0⟩ } }
          .integrityStatus tag .ok (body ++ counted))
      (v.context = none → clear = .next (replied u .integrityClear tag .wrongState []) ∧
        status = read (List.replicate 17 0)) ∧
      (∀ c, v.context = some c → clear = .next (replied { u with outputs := u.outputs.set o { v with
        context := some { c with integrity := .clean, blanked := false, bad := 0, good := 0 } } }
        .integrityClear tag .ok [])) ∧
      (∀ c p, v.context = some c → v.route.safety = some p → status = read (
        [1, BitVec.ofNat 8 p.action.code, BitVec.ofNat 8 p.threshold, BitVec.ofNat 8 c.freshness.code,
          if c.age = none then 0 else 1] ++ wordBytes (c.age.getD 0) ++
        [BitVec.ofNat 8 c.integrity.code, if c.blanked then 1 else 0] ++ halfBytes c.bad ++ halfBytes c.good ++
        [BitVec.ofNat 8 c.queue.length, BitVec.ofNat 8 c.inject]))))

/-- The Integrity Checker: a freshness evaluation (R178, R179), a frame's record (R181), a CRC report (R182), and the steps
with their counters, FAULT, BLANKED and INTEGRITY (R183 to R186). Two points of the evaluation are the model's: a WAITING
route whose source is a retained STILL may become FRESH after wake, where R191 differs (entry 39), and the absent age of a
stream that never published counts as not in time (entry 26). -/
def Obligations.IntegrityStepRules : Prop :=
  (∀ (s : State) (o : Fin 4) (c : Context) (p : SafetyPart) (src : Placement) (r : Stream),
    (s.output o).context = some c → (s.output o).route.safety = some p → (s.output o).route.source = some src →
    s.stream src.stream = some r →
    let age := r.lastPublish.map (fun t => s.timeBase - t)
    let inTime := ∃ a, age = some a ∧ a.toNat ≤ p.timeoutMs * 1000
    let after (f : Freshness) : State := { s with outputs := s.outputs.set o { s.output o with
      context := some { c with freshness := f, age := age } } }
    let evaluated := s.freshenOutput o
    (c.freshness = .waiting → (r.latest ≠ none ∧ inTime → evaluated = after .fresh) ∧
      (r.latest = none ∨ ¬inTime → evaluated = after .waiting)) ∧
    (c.freshness = .fresh → (inTime → evaluated = after .fresh) ∧
      (¬inTime → evaluated = (after (.stale r.published)).post .stale o.val)) ∧
    (∀ base, c.freshness = .stale base →
      (inTime ∧ base.toNat + 2 ≤ r.published.toNat → evaluated = (after .fresh).post .fresh o.val) ∧
      (¬inTime ∨ r.published.toNat < base.toNat + 2 → evaluated = after (.stale base)))) ∧
  (∀ (s : State) (o : Fin 4) (c : Context) (p : SafetyPart) (injected : Bool),
    (s.output o).context = some c → (s.output o).route.safety = some p →
    let k := (s.output o).comparisons
    let good := bump c.good
    let bad := bump c.bad
    let after (counts : Comparisons) (x : Context) : State :=
      { s with outputs := s.outputs.set o { s.output o with context := some x, comparisons := counts } }
    let afterGood := after { k with good := bump k.good }
    let badStep (counts : Comparisons) (step : State) : Prop :=
      (bad.toNat < p.threshold → step = after counts { c with
        good := 0, bad := bad, integrity := if c.integrity = .clean then .suspect else c.integrity }) ∧
      (p.threshold ≤ bad.toNat → step = (after counts { c with
        good := 0, bad := 0, integrity := .fault
        blanked := c.blanked || decide (c.integrity = .fault ∧ p.action = .fallback) }).post .integrity o.val)
    (c.integrity ≠ .fault →
      s.integrityStep o .good = afterGood { c with bad := 0, good := good, integrity := .clean }) ∧
    (c.integrity = .fault → (p.action ≠ .notify ∨ good.toNat < 8) →
      s.integrityStep o .good = afterGood { c with bad := 0, good := good }) ∧
    (c.integrity = .fault → p.action = .notify → 8 ≤ good.toNat →
      s.integrityStep o .good =
        (afterGood { c with bad := 0, good := good, integrity := .clean }).post .integrity o.val) ∧
    badStep { k with mismatch := bump k.mismatch, injected := if injected then bump k.injected else k.injected }
      (s.integrityStep o (.mismatch injected)) ∧
    badStep { k with missing := bump k.missing } (s.integrityStep o .missing)) ∧
  (∀ (s : State) (o : Fin 4) (seq : Half) (crc : Word),
    let v := s.output o
    let counted (counts : Comparisons) : State := { s with outputs := s.outputs.set o { v with comparisons := counts } }
    let queued (c : Context) (q : List CrcRecord) : State :=
      { s with outputs := s.outputs.set o { v with context := some { c with queue := q } } }
    (v.context = none → s.pushCrc o seq crc = s ∧
      s.takeReport o seq crc = counted { v.comparisons with noContext := bump v.comparisons.noContext }) ∧
    (∀ c, v.context = some c →
      let record : CrcRecord := ⟨seq, if 0 < c.inject then crc ^^^ 1 else crc, decide (0 < c.inject)⟩
      let less := { c with inject := c.inject - 1 }
      (c.queue.length < 4 → s.pushCrc o seq crc = queued less (c.queue ++ [record])) ∧
      (4 ≤ c.queue.length →
        s.pushCrc o seq crc = (queued less (c.queue.drop 1 ++ [record])).integrityStep o .missing) ∧
      ((∀ q ∈ c.queue, q.seq ≠ seq) →
        s.takeReport o seq crc = counted { v.comparisons with late := bump v.comparisons.late }) ∧
      (∀ older q newer, c.queue = older ++ q :: newer → q.seq = seq → (∀ x ∈ older, x.seq ≠ seq) →
        s.takeReport o seq crc = ((queued c newer).missingSteps o older.length).integrityStep o
          (if crc = q.crc then .good else .mismatch q.injected))))

/-! ### Links (spec/06) and status records (spec/07 section 7.1) -/

/-- LINK_POLICY: its checks, the effective values and the tier evaluated (R99, R108); LINK_STATUS, which zeroes what it read
(R129). -/
def Obligations.LinkPolicyAndStatusRules : Prop :=
  (∀ (s : State) (dt : Nat) (tag : Byte) (body : List Byte), Awake s → body.length = 10 →
    let u := arrived s dt body
    let set := exec (.linkPolicy dt tag body) s
    let at' (n : Nat) : Nat := (byteAt body n).toNat
    let fieldsOk := at' 0 ≤ 3 ∧ at' 2 ≤ 15 ∧ at' 1 ≤ at' 2 ∧ at' 3 ≤ 1 ∧ at' 5 ≤ 1 ∧ at' 9 ≤ 2
    let dwell := if at' 4 ≤ 2 then 2 else if at' 4 ≤ 4 then 4 else if at' 4 ≤ 8 then 8 else 16
    let threshold := max 1 (half body 7).toNat
    let policy : LinkPolicy := ⟨at' 1, at' 2, if at' 3 = 0 then .middle else .low, dwell, at' 5 == 1, at' 6, threshold,
      if at' 9 = 0 then .auto else if at' 9 = 1 then .fullOnly else .halfOnly⟩
    (¬fieldsOk → set = .next (replied u .linkPolicy tag .badArg [])) ∧
    (∀ l : Fin 4, l.val = at' 0 → fieldsOk →
      set = .next (replied (({ u with links := u.links.set l { u.link l with policy := policy } } : State).evaluate l)
        .linkPolicy tag .ok ([byteAt body 0, byteAt body 1, byteAt body 2, byteAt body 3, BitVec.ofNat 8 dwell,
          byteAt body 5, byteAt body 6] ++ halfBytes (BitVec.ofNat 16 threshold) ++ [byteAt body 9])))) ∧
  (∀ (s : State) (dt : Nat) (tag n : Byte), Awake s →
    let u := arrived s dt [n]
    let status := exec (.linkStatus dt tag [n]) s
    (3 < n.toNat → status = .next (replied u .linkStatus tag .badArg [])) ∧
    (∀ l : Fin 4, l.val = n.toNat →
      let v := u.link l
      status = .next (replied { u with links := u.links.set l { v with
        symbolErrors := 0, badRecords := 0, seqErrors := 0, postedErrors := 0, lockChanged := false } } .linkStatus tag .ok
        ([BitVec.ofNat 8 v.state.code, flagByte v.intent, BitVec.ofNat 8 v.rate.code, BitVec.ofNat 8 v.drive,
          flagByte v.demoted, BitVec.ofNat 8 v.cause.code, flagByte v.rxLock] ++ halfBytes v.retrains ++
        v.policy.bytes ++ wordBytes v.symbolErrors ++ halfBytes v.badRecords ++ halfBytes v.seqErrors ++
        halfBytes v.postedErrors ++ [flagByte v.lockChanged]))))

/-- LINK_CONTROL (R109, R110, R113, R114, R125) and what the power channel does to its link (R111): coming up, going down,
retraining; the hand-over and the notices of going down (R101, R112, R146, where `remoteLinkLoss` is what
RemoteCompletionRules states); and what the transmitter sends in each state (R107). `enterRetrain` is what RetrainRules
states. -/
def Obligations.LinkControlRules : Prop :=
  let trained (v : Link) : Link := { v with
    state := .training, searchPolicy := v.policy
    drive := if v.policy.start = .middle then (v.policy.driveMin + v.policy.driveMax) / 2 else v.policy.driveMin
    rate := if v.policy.rate = .halfOnly ∨ (v.policy.rate = .auto ∧ v.demoted = true) then .half else .full
    search := none, backWait := some 50000, silence := none, errorWindow := none, retry := none }
  let put (s : State) (l : Fin 4) (v : Link) : State := { s with links := s.links.set l v }
  let wentDown (target : LinkState) (intent : Bool) (s t : State) (l : Fin 4) : Prop :=
    let v := s.link l
    let w := t.link l
    w.state = target ∧ w.intent = intent ∧ w.policy = v.policy ∧ w.cause = v.cause ∧ w.rate = v.rate ∧
    w.drive = v.drive ∧ w.txSeq = v.txSeq ∧ w.retrains = v.retrains ∧ w.symbolErrors = v.symbolErrors ∧
    w.mirror = v.mirror ∧ w.forward = v.forward ∧ w.badRecords = v.badRecords ∧
    w.search = none ∧ w.backWait = none ∧ w.silence = none ∧ w.errorWindow = none ∧ w.retry = none ∧
    w.touch = [] ∧ w.touchLost = bumpBy v.touchLost v.touch.length ∧ w.rxLock = false ∧ w.demoted = false ∧
    w.history = [] ∧
    (v.state ≠ .up → w.lockChanged = (v.lockChanged || v.rxLock) ∧ w.awaiting = v.awaiting ∧ HandedOver s s t l) ∧
    (v.state = .up → HandedOver s (s.remoteLinkLoss l) t l ∧ w.lockChanged = true ∧ w.awaiting = [] ∧ w.lastConfig = none ∧ w.halfPending = false ∧
      w.sending = none ∧ w.windowSum = 0 ∧
      (t.output l).context = (s.output l).context.map (fun c => { c with queue := [] })) ∧
    (t.output l).tier = t.tierNow l ∧ (t.output l).route = (s.output l).route ∧
    (t.output l).state = (s.output l).state ∧ (t.output l).current = (s.output l).current ∧
    (∀ l', l' ≠ l → t.link l' = s.link l' ∧ t.output l' = s.output l' ∧ t.channel l' = s.channel l') ∧
    t.streams = s.streams ∧ t.store = s.store ∧ t.aliases = s.aliases ∧ t.mode = s.mode
  (∀ (i : Instr) (s : State) (dt : Nat) (tag n action : Byte), requestOf i = some (.linkControl, dt, tag, [n, action]) →
    Awake s → (3 < n.toNat ∨ 2 < action.toNat) →
    exec i s = .next (replied (arrived s dt [n, action]) .linkControl tag .badArg [])) ∧
  (∀ (s : State) (dt : Nat) (tag n : Byte) (l : Fin 4), Awake s → l.val = n.toNat →
    let u (action : Byte) : State := arrived s dt [n, action]
    let v := (s.elapse dt).link l
    let ok (t : State) : Host.Outcome State Fault Refusal := .next (replied t .linkControl tag .ok [])
    let enable := exec (.linkControlEnable dt tag [n, 0]) s
    let disable := exec (.linkControlDisable dt tag [n, 1]) s
    let retrain := exec (.linkControlRetrain dt tag [n, 2]) s
    (v.state ≠ .disabled → enable = ok (u 0)) ∧
    (v.state = .disabled → (s.channel l).state = .active →
      enable = ok ((put (u 0) l { trained v with intent := true }).post .linkState l.val)) ∧
    (v.state = .disabled → (s.channel l).state ≠ .active →
      enable = ok ((put (u 0) l { v with intent := true, state := .waitPower }).post .linkState l.val)) ∧
    (v.state = .disabled → disable = ok (u 1)) ∧
    (v.state ≠ .disabled → ∃ t, disable = .next t ∧ t.reply = some ⟨0x31, tag, .ok, []⟩ ∧
      wentDown .disabled false (s.elapse dt) t l) ∧
    (v.state = .up → retrain = ok ((u 2).enterRetrain l)) ∧
    (v.state = .training ∨ v.state = .retrain → retrain = ok (u 2)) ∧
    (v.state = .failed → retrain = ok ((put (u 2) l (trained v)).post .linkState l.val)) ∧
    (v.state = .disabled ∨ v.state = .waitPower →
      retrain = .next (replied (u 2) .linkControl tag .wrongState []))) ∧
  (∀ (s : State) (l : Fin 4),
    ((s.link l).state = .waitPower → s.linkPowered l = (put s l (trained (s.link l))).post .linkState l.val) ∧
    ((s.link l).state ≠ .waitPower → s.linkPowered l = s) ∧
    ((s.link l).state = .disabled → s.linkUnpowered l = s) ∧
    ((s.link l).state ≠ .disabled → wentDown .waitPower (s.link l).intent s (s.linkUnpowered l) l)) ∧
  (∀ v : Link, (v.transmitter = .traffic ↔ v.state = .up) ∧
    (v.transmitter = .pattern ↔ v.state = .training ∨ v.state = .retrain) ∧
    (v.transmitter = .off ↔ v.state = .disabled ∨ v.state = .waitPower ∨ v.state = .failed))

/-- A pass tries every allowed setting once, nearest to the first candidate first and the higher of two equally near ones
first (R115). -/
def Obligations.PassOrder : Prop :=
  ∀ lo hi first : Nat, lo ≤ first → first ≤ hi → hi ≤ 15 →
    let pass := passOrder lo hi first
    let distance (d : Nat) : Nat := d - first + (first - d)
    pass.head? = some first ∧ pass.Nodup ∧ (∀ d, d ∈ pass ↔ lo ≤ d ∧ d ≤ hi) ∧
    pass.Pairwise (fun a b => distance a < distance b ∨ (distance a = distance b ∧ b < a))

/-- The link timers (R113, R116 to R119, R121 to R123, R125): back-channel wait, half-dwell point, dwell, silence, error
window, retry; and what follows when a candidate fails or passes: an entry to UP offers its room to a pending ration write
(R139, R147). A timer that does not run has no expiry (entry 2). At the dwell expiry of a two-step candidate its latest
record decides (entry 27), and the room is offered in the step that gains it (entry 43). -/
def Obligations.LinkTimerRules : Prop :=
  let put (s : State) (l : Fin 4) (v : Link) : State := { s with links := s.links.set l v }
  let candidate (v : Link) (d : Nat) (settings : List Nat) (rates : List Rate) : Link := { v with
    drive := d, silence := some 5000
    search := some ⟨settings, rates, v.searchPolicy.dwellMs * 1000,
      if v.searchPolicy.twoStep then some (v.searchPolicy.dwellMs * 1000 / 2) else none, none, none⟩ }
  let start (p : LinkPolicy) : Nat := if p.start = .middle then (p.driveMin + p.driveMax) / 2 else p.driveMin
  let failed (v : Link) (cause : FailureCause) : Link := { v with
    state := .failed, cause := cause, search := none, backWait := none, silence := none, errorWindow := none
    retry := some 1000000 }
  (∀ (s : State) (l : Fin 4),
    let v := s.link l
    let searching := v.state = .training ∨ v.state = .retrain
    (v.backWait = none → exec (.backchannelWaitExpiry l) s = .next s) ∧
    (¬(searching ∧ ∃ c, v.search = some c ∧ c.halfDwell ≠ none) → exec (.halfDwellPoint l) s = .next s) ∧
    (¬(searching ∧ v.search ≠ none) → exec (.dwellExpiry l) s = .next s) ∧
    (v.silence = none → exec (.silenceTimerExpiry l) s = .next s) ∧
    (v.errorWindow = none → exec (.errorWindowExpiry l) s = .next s) ∧
    (v.retry = none → exec (.retryTimerExpiry l) s = .next s)) ∧
  (∀ (s : State) (l : Fin 4) (left : Nat),
    let u := s.elapse left
    let v := u.link l
    let searching := v.state = .training ∨ v.state = .retrain
    ((s.link l).backWait = some left → v.state = .training →
      exec (.backchannelWaitExpiry l) s = .next ((put u l (failed v .noBackchannel)).post .linkState l.val)) ∧
    (∀ c, (s.link l).search = some c → c.halfDwell = some left → searching →
      (c.seen = some true → exec (.halfDwellPoint l) s = .next (put u l { v with
        search := some { c with dwell := c.dwell - left, halfDwell := none, sum := some 0 } })) ∧
      (c.seen ≠ some true → exec (.halfDwellPoint l) s = .next (u.candidateFails l))) ∧
    (∀ c, (s.link l).search = some c → c.dwell = left → searching →
      (c.seen = some true → exec (.dwellExpiry l) s = .next (u.candidatePasses l)) ∧
      (c.seen ≠ some true → exec (.dwellExpiry l) s = .next (u.candidateFails l))) ∧
    ((s.link l).silence = some left → searching → exec (.silenceTimerExpiry l) s = .next (u.candidateFails l)) ∧
    ((s.link l).silence = some left → v.state = .up → exec (.silenceTimerExpiry l) s = .next (u.enterRetrain l)) ∧
    ((s.link l).errorWindow = some left →
      exec (.errorWindowExpiry l) s = .next (put u l { v with windowSum := 0, errorWindow := some 100000 })) ∧
    ((s.link l).retry = some left → v.state = .failed →
      exec (.retryTimerExpiry l) s = .next ((put u l { v with
        state := .training, searchPolicy := v.policy, drive := start v.policy
        rate := if v.policy.rate = .halfOnly ∨ (v.policy.rate = .auto ∧ v.demoted = true) then .half else .full
        search := none, backWait := some 50000, silence := none, errorWindow := none, retry := none }).post
        .linkState l.val))) ∧
  (∀ (s : State) (l : Fin 4) (c : Search), (s.link l).search = some c →
    let v := s.link l
    let p := v.searchPolicy
    let pass := passOrder p.driveMin p.driveMax (start p)
    (∀ d rest, c.settings = d :: rest → s.candidateFails l = put s l (candidate v d rest c.rates)) ∧
    (∀ rate rates, c.settings = [] → c.rates = rate :: rates → s.candidateFails l =
      (put s l (candidate { v with rate := rate } (pass.headD (start p)) (pass.drop 1) rates)).post .linkState l.val) ∧
    (c.settings = [] → c.rates = [] →
      s.candidateFails l = (put s l (failed v .noSetting)).post .linkState l.val)) ∧
  (∀ (s : State) (l : Fin 4),
    let entered := ((put s l { s.link l with
      state := .up, search := none, errorWindow := some 100000, windowSum := 0, lastConfig := none, lockChanged := true
      awaiting := [], nextToggle := false }).post .linkState l.val).evaluate l
    s.candidatePasses l = entered.offerRoom l ∧
    ((s.channel l).pendingByte = none → s.candidatePasses l = entered))

/-- A RETRAIN entry: the demotion check, the hand-over and the notices, and the search from the current rate and setting
where they still fit (R101, R112, R114, R115, R125, R126, R146). `remoteLinkLoss` is what RemoteCompletionRules states. -/
def Obligations.RetrainRules : Prop :=
  ∀ (s : State) (l : Fin 4), (s.link l).policy.driveMin ≤ (s.link l).policy.driveMax →
    let v := s.link l
    let t := s.enterRetrain l
    let w := t.link l
    let p := v.policy
    let start := if p.start = .middle then (p.driveMin + p.driveMax) / 2 else p.driveMin
    let checked := v.searchPolicy.rate = .auto ∧ v.rate = .full
    let history := v.history.filter (fun h => decide ((s.timeBase - h).toNat ≤ 10000000)) ++ [s.timeBase]
    let rates : List Rate := match p.rate with
      | .auto => if w.demoted = true then [.half] else [.full, .half]
      | .fullOnly => [.full]
      | .halfOnly => [.half]
    w.state = .retrain ∧ w.retrains = bump v.retrains ∧ w.searchPolicy = p ∧ w.policy = p ∧ w.intent = v.intent ∧
    (¬checked → w.demoted = v.demoted ∧ w.history = v.history) ∧
    HandedOver s (s.remoteLinkLoss l) t l ∧
    (checked → history.length < 3 → w.demoted = v.demoted ∧ w.history = history) ∧
    (checked → 3 ≤ history.length → w.demoted = true ∧ w.history = []) ∧
    (v.rate ∈ rates → w.rate = v.rate) ∧ (v.rate ∉ rates → rates.head? = some w.rate) ∧
    w.drive = (if p.driveMin ≤ v.drive ∧ v.drive ≤ p.driveMax then v.drive else start) ∧
    w.search = some ⟨(passOrder p.driveMin p.driveMax w.drive).drop 1, if rates = [.full, .half] ∧ w.rate = .full
      then [.half] else [], p.dwellMs * 1000, if p.twoStep then some (p.dwellMs * 1000 / 2) else none, none, none⟩ ∧
    w.silence = some 5000 ∧ w.errorWindow = none ∧ w.windowSum = 0 ∧ w.sending = none ∧ w.halfPending = false ∧
    w.lastConfig = none ∧ w.awaiting = [] ∧ w.lockChanged = true ∧ w.txSeq = v.txSeq ∧ w.touch = v.touch ∧
    w.rxLock = v.rxLock ∧ w.forward = v.forward ∧
    (t.output l).context = (s.output l).context.map (fun c => { c with queue := [] }) ∧
    (t.output l).tier = t.tierNow l ∧ (t.output l).route = (s.output l).route ∧
    (t.output l).current = (s.output l).current ∧
    (∀ l', l' ≠ l → t.link l' = s.link l' ∧ t.output l' = s.output l' ∧ t.channel l' = s.channel l') ∧
    t.streams = s.streams ∧ t.store = s.store

/-- The bytes of a status record: one with every part in place and the right CRC-16 is read back part by part, whatever bits
3 and 7 of its flags are, and one whose CRC-16 is wrong is bad; and a record is bad exactly when it declares more than 4
touch records or more than 32 response bytes, has another length than its parts give, has a wrong CRC-16, or has a touch
record with kind bits 3 (R133, R210, R211). -/
def Obligations.StatusRecordFormat : Prop :=
  let bit (b : Bool) (n : Nat) : Nat := if b then n else 0
  (∀ (r : StatusRecord) (three seven : Bool), r.errors < 256 → r.touches.length ≤ 4 → (∀ t ∈ r.touches, t.contact < 16) →
    (∀ x, r.response = some x → x.data.length ≤ 32) →
    let covered : List Byte :=
      [BitVec.ofNat 8 (bit r.lock 1 + bit r.report.isSome 2 + bit r.response.isSome 4 + 16 * r.touches.length +
          bit three 8 + bit seven 128), BitVec.ofNat 8 r.errors] ++ r.status.toList ++
      (match r.report with
        | none => []
        | some (seq, crc) => halfBytes seq ++ wordBytes crc) ++
      (r.touches.map (fun t => [BitVec.ofNat 8 (t.contact + 16 * t.kind.code)] ++ halfBytes t.x ++ halfBytes t.y ++
        halfBytes t.time)).flatten ++
      (match r.response with
        | none => []
        | some x => [BitVec.ofNat 8 (bit x.toggle 1 + bit x.ack 2 + 4 * x.data.length)] ++ x.data)
    readStatus (covered ++ halfBytes (crc16 covered)) = some r ∧
    ∀ check : Half, check ≠ crc16 covered → readStatus (covered ++ halfBytes check) = none) ∧
  (∀ bytes : List Byte, bytes.length < 8 → readStatus bytes = none) ∧
  (∀ bytes : List Byte,
    let flags := byteAt bytes 0
    let report := flags.getLsbD 1
    let response := flags.getLsbD 2
    let touches := flags.toNat / 16 % 8
    let touchAt := 6 + if report then 6 else 0
    let headerAt := touchAt + 7 * touches
    let dataBytes := (byteAt bytes headerAt).toNat / 4
    let covered := bytes.length - 2
    readStatus bytes = none ↔
      4 < touches ∨ (response = true ∧ 32 < dataBytes) ∨
      bytes.length ≠ headerAt + 2 + (if response then 1 + dataBytes else 0) ∨
      crc16 (bytes.take covered) ≠ half bytes covered ∨
      ∃ i < touches, (byteAt bytes (touchAt + 7 * i)).toNat / 16 % 4 = 3)

/-- A STATUS_RECORD: dropped by a DISABLED link, counted when bad, and otherwise handed on part by part in order (R133,
R134); and what its rx lock and symbol errors do in each state of the link (R113, R117, R118, R120, R123 to R125). -/
def Obligations.StatusRecordRules : Prop :=
  let put (s : State) (l : Fin 4) (v : Link) : State := { s with links := s.links.set l v }
  (∀ (s : State) (dt : Nat) (l : Fin 4) (bytes : List Byte),
    let u := s.elapse dt
    let arrives := exec (.statusRecord dt l bytes) s
    ((s.link l).state = .disabled → arrives = .next u) ∧
    ((s.link l).state ≠ .disabled → readStatus bytes = none →
      arrives = .next (put u l { u.link l with badRecords := bump (u.link l).badRecords })) ∧
    (∀ r, (s.link l).state ≠ .disabled → readStatus bytes = some r →
      let touched := r.touches.foldl (fun t x => t.takeTouch l x) (u.takeMirror l r.status)
      let answered := match r.response with
        | none => touched
        | some x => touched.takeResponse l x
      let compared := match r.report with
        | none => answered
        | some (seq, crc) => answered.takeReport l seq crc
      arrives = .next (compared.takeLock l r.lock r.errors))) ∧
  (∀ (s : State) (l : Fin 4) (lock : Bool) (errors : Nat),
    let counted : Link := { s.link l with
      symbolErrors := BitVec.ofNat 32 (min 4294967295 ((s.link l).symbolErrors.toNat + errors))
      lockChanged := (s.link l).lockChanged || ((s.link l).rxLock != lock)
      rxLock := lock }
    let p := counted.searchPolicy
    let start := if p.start = .middle then (p.driveMin + p.driveMax) / 2 else p.driveMin
    let pass := passOrder p.driveMin p.driveMax start
    let taken := s.takeLock l lock errors
    (counted.state = .waitPower ∨ counted.state = .failed → taken = put s l counted) ∧
    (counted.state = .training → counted.search = none → taken = put s l { counted with
      backWait := none, drive := pass.headD start, silence := some 5000
      search := some ⟨pass.drop 1, if p.rate = .auto ∧ counted.demoted = false then [.half] else [], p.dwellMs * 1000,
        if p.twoStep then some (p.dwellMs * 1000 / 2) else none, none, none⟩ }) ∧
    (∀ c, counted.state = .training ∨ counted.state = .retrain → counted.search = some c →
      let weighed := put s l { counted with silence := some 5000, search := some { c with
        seen := some lock, sum := c.sum.map (fun n => n + errors) } }
      (c.sum = none → taken = weighed) ∧
      (∀ n, c.sum = some n → (lock = true ∧ n + errors ≤ p.candidateThreshold → taken = weighed) ∧
        (lock = false ∨ p.candidateThreshold < n + errors → taken = weighed.candidateFails l))) ∧
    (counted.state = .up →
      let monitored := put s l { counted with windowSum := counted.windowSum + errors, silence := some 5000 }
      (lock = true → counted.windowSum + errors ≤ p.retrainThreshold → taken = monitored) ∧
      (lock = false ∨ p.retrainThreshold < counted.windowSum + errors → taken = monitored.enterRetrain l)))

/-! ### Remote devices, screen status and touch (spec/07) -/

/-- ALIAS_SET and ALIAS_CLEAR (R137, R138). -/
def Obligations.AliasRules : Prop :=
  (∀ (s : State) (dt : Nat) (tag a n address posted : Byte), Awake s →
    let body := [a, n, address, posted]
    let u := arrived s dt body
    let set := exec (.aliasSet dt tag body) s
    let fieldsOk := 1 ≤ a.toNat ∧ a.toNat ≤ 127 ∧ n.toNat ≤ 3 ∧ 0x08 ≤ address.toNat ∧ address.toNat ≤ 0x77 ∧
      posted.toNat ≤ 1
    (¬fieldsOk → set = .next (replied u .aliasSet tag .badArg [])) ∧
    (∀ l : Fin 4, l.val = n.toNat → fieldsOk →
      let entry : AliasEntry := ⟨a, l, address, posted == 1⟩
      ((∃ x ∈ s.aliases, x.aliasNo = a) → set = .next (replied { u with
        aliases := s.aliases.map (fun x => if x.aliasNo = a then entry else x) } .aliasSet tag .ok [])) ∧
      ((∀ x ∈ s.aliases, x.aliasNo ≠ a) → s.aliases.length < 16 →
        set = .next (replied { u with aliases := s.aliases ++ [entry] } .aliasSet tag .ok [])) ∧
      ((∀ x ∈ s.aliases, x.aliasNo ≠ a) → 16 ≤ s.aliases.length →
        set = .next (replied u .aliasSet tag .noRoom [])))) ∧
  (∀ (s : State) (dt : Nat) (tag a : Byte), Awake s →
    let u := arrived s dt [a]
    let clear := exec (.aliasClear dt tag [a]) s
    let known := 1 ≤ a.toNat ∧ a.toNat ≤ 127 ∧ ∃ x ∈ s.aliases, x.aliasNo = a
    (¬known → clear = .next (replied u .aliasClear tag .badArg [])) ∧
    (known → clear = .next (replied { u with aliases := s.aliases.filter (fun x => x.aliasNo != a) }
      .aliasClear tag .ok [])))

/-- REMOTE_WRITE and REMOTE_READ: the checks, the result record, the bytes of the request on the forward channel (R212), its
awaiting entry and 10 ms watchdog; a posted write is done at once (R139 to R141, R145, R148). On a link that is not UP the
record's posted field is as the alias says (entry 24). The request stays on the model's record `forward` (entry 12), and the
bits of its flags that R212 does not list are 0 (entry 36). -/
def Obligations.RemoteRequestRules : Prop :=
  let follows (run : Host.Outcome State Fault Refusal) (u : State) (k : RequestKind) (tag a offset : Byte)
      (request : RemoteRequest) (kind : RemoteKind) (countAndData : List Byte) : Prop :=
    (a.toNat = 0 ∨ 127 < a.toNat ∨ (∀ x ∈ u.aliases, x.aliasNo ≠ a) → run = .next (replied u k tag .badArg [])) ∧
    (∀ e, 1 ≤ a.toNat → a.toNat ≤ 127 → u.aliases.find? (fun x => x.aliasNo == a) = some e →
      let v := u.link e.link
      let room := (∀ x ∈ v.awaiting, x.origin = .posted) ∧ v.awaiting.length < 2
      let posted := e.posted && kind == .write
      let put (w : Link) : State := { u with links := u.links.set e.link w }
      let record (status : ResultStatus) : Result := ⟨status, some kind, a, posted, offset, []⟩
      let flags : Byte := BitVec.ofNat 8 ((if v.nextToggle then 1 else 0) + if kind = .read then 2 else 0)
      let covered : List Byte := [0x20, flags, e.address, offset] ++ countAndData
      let sent (origin : Origin) (status : ResultStatus) : Link := { v with
        forward := v.forward ++ [covered ++ halfBytes (crc16 covered)]
        awaiting := v.awaiting ++ [⟨v.nextToggle, request, origin, 10000⟩]
        nextToggle := !v.nextToggle
        result := record status }
      (¬room → run = .next (replied u k tag .busy [])) ∧
      (room → v.state ≠ .up → run = .next (replied (put { v with result := record .linkDown }) k tag .ok [])) ∧
      (room → v.state = .up → posted = true → run = .next (replied (put (sent .posted .ok)) k tag .ok [])) ∧
      (room → v.state = .up → posted = false →
        run = .next (replied (put (sent .host .pending)) k tag .accepted [])))
  (∀ (s : State) (dt : Nat) (tag a offset : Byte) (data : List Byte), Awake s → data.length ≤ 245 →
    let body := [a, offset, BitVec.ofNat 8 data.length] ++ data
    let write := exec (.remoteWrite dt tag body) s
    (data = [] ∨ 32 < data.length → write = .next (replied (arrived s dt body) .remoteWrite tag .badArg [])) ∧
    (data ≠ [] → data.length ≤ 32 →
      follows write (arrived s dt body) .remoteWrite tag a offset (.write data) .write
        (BitVec.ofNat 8 data.length :: data))) ∧
  (∀ (s : State) (dt : Nat) (tag a offset count : Byte), Awake s →
    let body := [a, offset, count]
    let read := exec (.remoteRead dt tag body) s
    (count = 0 ∨ 32 < count.toNat → read = .next (replied (arrived s dt body) .remoteRead tag .badArg [])) ∧
    (count ≠ 0 → count.toNat ≤ 32 →
      follows read (arrived s dt body) .remoteRead tag a offset (.read count.toNat) .read [count]))

/-- REMOTE_RESULT (R148), the watchdog (R144), a remote response and a link loss: what leaves the awaiting list, with what
outcome, where the outcome goes (R142 to R146), and the room then offered to a pending ration write (R147, as
RationWriteRules states it) in the same step (entry 43). The watchdog that expires is named by its toggle (entry 29); one
that no entry holds does not run, and its expiry changes nothing (entry 2). -/
def Obligations.RemoteCompletionRules : Prop :=
  let put (s : State) (l : Fin 4) (v : Link) : State := { s with links := s.links.set l v }
  let delivered (s : State) (l : Fin 4) (v : Link) (e : Awaiting) (outcome : ResultStatus) (data : List Byte)
      (t : State) : Prop :=
    (e.origin = .host → t = (put s l { v with result := { v.result with
      status := outcome
      data := match outcome, e.request with
        | .ok, .read _ => data
        | _, _ => [] } }).post .remoteDone l.val) ∧
    (e.origin = .posted →
      t = put s l { v with postedErrors := if outcome = .ok then v.postedErrors else bump v.postedErrors }) ∧
    (e.origin = .ration → t = { put s l v with channels := s.channels.set l { s.channel l with
      failedWrites := if outcome = .ok then (s.channel l).failedWrites else bump (s.channel l).failedWrites } })
  (∀ (s : State) (dt : Nat) (tag n : Byte), Awake s →
    let u := arrived s dt [n]
    let result := exec (.remoteResult dt tag [n]) s
    (3 < n.toNat → result = .next (replied u .remoteResult tag .badArg [])) ∧
    (∀ l : Fin 4, l.val = n.toNat →
      let r := (u.link l).result
      result = .next (replied u .remoteResult tag .ok
        ([BitVec.ofNat 8 r.status.code, if r.kind = none then 0xFF else if r.kind = some .write then 0 else 1, r.aliasNo,
          if r.posted then 1 else 0, r.offset, BitVec.ofNat 8 r.data.length] ++ r.data)))) ∧
  (∀ (s : State) (l : Fin 4) (toggle : Bool),
    ((∀ x ∈ (s.link l).awaiting, x.toggle ≠ toggle) → exec (.remoteWatchdogExpiry l toggle) s = .next s) ∧
    (∀ older e newer, (s.link l).awaiting = older ++ e :: newer → e.toggle = toggle →
      (∀ x ∈ older, x.toggle ≠ toggle) →
      let u := s.elapse e.watchdog
      let left := (older ++ newer).map (fun x => { x with watchdog := x.watchdog - e.watchdog })
      ∃ t : State, exec (.remoteWatchdogExpiry l toggle) s = .next (t.offerRoom l) ∧
        delivered u l { u.link l with awaiting := left } e .timeout [] t)) ∧
  (∀ (s : State) (l : Fin 4) (r : Response),
    let v := s.link l
    ((∀ x ∈ v.awaiting, x.toggle ≠ r.toggle) →
      s.takeResponse l r = put s l { v with seqErrors := bump v.seqErrors }) ∧
    (∀ older e newer, v.awaiting = older ++ e :: newer → e.toggle = r.toggle → (∀ x ∈ older, x.toggle ≠ r.toggle) →
      let matched := (∃ data, e.request = .write data ∧ r.data = data) ∨
        (∃ n, e.request = .read n ∧ r.data.length = n)
      let rest : Link := { v with awaiting := newer, postedErrors := bumpBy v.postedErrors older.length }
      ∃ t : State, s.takeResponse l r = t.offerRoom l ∧
        (r.ack = false → delivered s l rest e .nack r.data t) ∧
        (r.ack = true → matched → delivered s l rest e .ok r.data t) ∧
        (r.ack = true → ¬matched → delivered s l rest e .checkError r.data t))) ∧
  (∀ (s : State) (l : Fin 4),
    let emptied : Link := { s.link l with awaiting := [] }
    ((s.link l).awaiting = [] → s.remoteLinkLoss l = put s l emptied) ∧
    (∀ e, (s.link l).awaiting = [e] → delivered s l emptied e .linkDown [] (s.remoteLinkLoss l)) ∧
    (∀ e newer, (s.link l).awaiting = [e, newer] → ∃ t : State, delivered s l emptied e .linkDown [] t ∧
      delivered t l (t.link l) newer .linkDown [] (s.remoteLinkLoss l)))

/-- The screen status mirror (R135, R136) and the touch queue: merging, room, overflow, TOUCH and TOUCH_FETCH (R149 to
R151). -/
def Obligations.TouchAndMirrorRules : Prop :=
  let put (s : State) (l : Fin 4) (v : Link) : State := { s with links := s.links.set l v }
  (∀ (s : State) (dt : Nat) (tag n : Byte), Awake s →
    let u := arrived s dt [n]
    let fetch := exec (.touchFetch dt tag [n]) s
    let status := exec (.screenStatus dt tag [n]) s
    (3 < n.toNat → fetch = .next (replied u .touchFetch tag .badArg []) ∧
      status = .next (replied u .screenStatus tag .badArg [])) ∧
    (∀ l : Fin 4, l.val = n.toNat →
      let v := u.link l
      fetch = .next (replied (put u l { v with touch := [], touchOverflow := 0, touchLost := 0, touchInvalid := 0 })
        .touchFetch tag .ok ([BitVec.ofNat 8 v.touch.length] ++ halfBytes v.touchOverflow ++ halfBytes v.touchLost ++
          halfBytes v.touchInvalid ++ (v.touch.map (fun t => [BitVec.ofNat 8 (t.contact + 16 * t.kind.code)] ++
            halfBytes t.x ++ halfBytes t.y ++ halfBytes t.time)).flatten)) ∧
      status = .next (replied (put u l { v with mirrorChanged := false }) .screenStatus tag .ok
        (v.mirror.toList ++ [if v.mirrorChanged then 1 else 0])))) ∧
  (∀ (s : State) (l : Fin 4) (bytes : Four Byte),
    ((s.link l).mirror = bytes → s.takeMirror l bytes = s) ∧
    ((s.link l).mirror ≠ bytes → s.takeMirror l bytes =
      (put s l { s.link l with mirror := bytes, mirrorChanged := true }).post .screenStatus l.val)) ∧
  (∀ (s : State) (l : Fin 4) (t : TouchRecord),
    let v := s.link l
    let queued (q : List TouchRecord) (overflow : Bool) : State :=
      let after := put s l { v with
        touch := q, touchOverflow := if overflow then bump v.touchOverflow else v.touchOverflow }
      if v.touch = [] then after.post .touch l.val else after
    let newest (older newer : List TouchRecord) (q : TouchRecord) : Prop :=
      v.touch = older ++ q :: newer ∧ q.contact = t.contact ∧ ∀ x ∈ newer, x.contact ≠ t.contact
    let merges := t.kind = .move ∧ ∃ older newer q, newest older newer q ∧ q.kind = .move
    (9 < t.contact → s.takeTouch l t = put s l { v with touchInvalid := bump v.touchInvalid }) ∧
    (t.contact ≤ 9 →
      (∀ older newer q, t.kind = .move → newest older newer q → q.kind = .move →
        s.takeTouch l t = queued (older ++ { q with x := t.x, y := t.y, time := t.time } :: newer) false) ∧
      (¬merges → v.touch.length < 16 → s.takeTouch l t = queued (v.touch ++ [t]) false) ∧
      (¬merges → 16 ≤ v.touch.length → (t.kind = .move ∨ ∀ x ∈ v.touch, x.kind ≠ .move) →
        s.takeTouch l t = queued v.touch true) ∧
      (∀ older q newer, 16 ≤ v.touch.length → t.kind ≠ .move → v.touch = older ++ q :: newer → q.kind = .move →
        (∀ x ∈ older, x.kind ≠ .move) → s.takeTouch l t = queued (older ++ newer ++ [t]) true)))

/-- Ration writes: when a pending write is asked for, what is sent, and what counts as failed (R147, R171). A channel's
rationed flag follows the set (R170), and its write is due only when it differs from the last byte sent; a changed ration
action starts its record anew (entry 19). The request that is sent has the bytes of R212, stays on the model's record
`forward` (entry 12), and has 0 in the bits of its flags that R212 does not list (entry 36). -/
def Obligations.RationWriteRules : Prop :=
  let put (s : State) (c : Fin 4) (v : Channel) : State := { s with channels := s.channels.set c v }
  (∀ (s : State) (c : Fin 4) (write : RationWrite) (action : RationAction),
    (s.channel c).pendingByte = some write → (s.channel c).policy.action = some action →
    let v := s.channel c
    let w := s.link c
    let sent : Channel := { v with pendingByte := none, lastByte := some write }
    let entry := s.aliases.find? (fun x => x.aliasNo == action.aliasNo)
    let data := match write with
      | .engage => action.engage
      | .restore => action.restore
    let room := (∀ x ∈ w.awaiting, x.origin = .posted) ∧ w.awaiting.length < 2
    ((∀ e, entry = some e → e.link ≠ c) →
      s.askRation c = put s c { sent with failedWrites := bump v.failedWrites }) ∧
    (∀ e, entry = some e → e.link = c →
      (w.state ≠ .up ∨ ¬room → s.askRation c = s) ∧
      let covered : List Byte := [0x20, if w.nextToggle then 1 else 0, e.address, action.offset, 1, data]
      (w.state = .up → room → s.askRation c = { put s c sent with links := s.links.set c { w with
        forward := w.forward ++ [covered ++ halfBytes (crc16 covered)]
        awaiting := w.awaiting ++ [⟨w.nextToggle, .write [data], .ration, 10000⟩]
        nextToggle := !w.nextToggle } })) ∧
    (w.state ≠ .up ∨ ¬room → s.offerRoom c = s) ∧
    (w.state = .up → room → s.offerRoom c = s.askRation c)) ∧
  (∀ (s : State) (c : Fin 4), (s.channel c).pendingByte = none → s.askRation c = s ∧ s.offerRoom c = s) ∧
  (∀ (s : State) (c : Fin 4),
    let v := s.channel c
    let want := s.inRationedSet c
    let write : RationWrite := if want = true then .engage else .restore
    (want = v.rationed → s.reration c false = s) ∧
    (want ≠ v.rationed → s.reration c false = (put s c { v with
      rationed := want, pendingByte := if v.lastByte = some write then none else some write }).askRation c) ∧
    s.reration c true = (put s c { v with
      rationed := want, lastByte := none, pendingByte := if want = true then some .engage else none }).askRation c) ∧
  (∀ (s : State) (changed : Option (Fin 4)),
    let at' (c : Fin 4) (t : State) : State := t.reration c (decide (changed = some c))
    s.recompute changed = at' 3 (at' 2 (at' 1 (at' 0 s))) ∧ (s.recompute changed).notices = s.notices) ∧
  (∀ (s : State) (c : Fin 4),
    let present (p : Nat) : Prop := p ≤ 3 ∧ ∃ c', (s.channel c').policy.action ≠ none ∧ (s.channel c').policy.priority = p
    (s.inRationedSet c = true ↔ (s.channel c).policy.action ≠ none ∧ present (s.channel c).policy.priority ∧
      (s.prioritiesPresent.filter (fun p => decide ((s.channel c).policy.priority < p))).length < s.level) ∧
    s.prioritiesPresent.Pairwise (fun a b => b < a) ∧ (∀ p, p ∈ s.prioritiesPresent ↔ present p) ∧
    s.maxLevel = s.prioritiesPresent.length)

/-! ### Coax power (spec/08) -/

/-- POWER_POLICY: its checks, the effective limit, what a change of mode does, and the level and the rationed set after it
(R156, R169, R170), with the budget timers (entry 19); POWER_BUDGET (R168), which leaves the timers and SUPPLY_BOOST to
the next total, though a POWER_POLICY before it is judged by the new budget (entry 35), and POWER_STATUS (R173), where the
total is the sum of the four currents as they stand (entry 11) and one beyond two bytes is a free value (entry 13). -/
def Obligations.PowerPolicyBudgetStatusRules : Prop :=
  let two (n : Nat) : List Byte := halfBytes (BitVec.ofNat 16 n)
  let sum (s : State) : Nat := (s.channel 0).current.toNat + (s.channel 1).current.toNat +
    (s.channel 2).current.toNat + (s.channel 3).current.toNat
  (∀ (s : State) (dt : Nat) (tag : Byte) (body : List Byte), Awake s → body.length = 11 →
    let u := arrived s dt body
    let set := exec (.powerPolicy dt tag body) s
    let at' (n : Nat) : Nat := (byteAt body n).toNat
    let fieldsOk := at' 0 ≤ 3 ∧ at' 1 ≤ 1 ∧ at' 4 ≤ 1 ∧ at' 5 ≤ 3 ∧ at' 6 ≤ 1 ∧ (at' 6 = 1 → 1 ≤ at' 7 ∧ at' 7 ≤ 127)
    (¬fieldsOk → set = .next (replied u .powerPolicy tag .badArg [])) ∧
    (∀ c : Fin 4, c.val = at' 0 → fieldsOk →
      let v := u.channel c
      let limit := min v.cap.milliamps (max 100 ((half body 2).toNat / 50 * 50))
      let policy : PowerPolicy := ⟨if at' 1 = 0 then .auto else .forced, limit,
        if at' 4 = 0 then .autoRecover else .latch, at' 5,
        if at' 6 = 0 then none else some ⟨byteAt body 7, byteAt body 8, byteAt body 9, byteAt body 10⟩⟩
      let leaves := v.policy.mode = .auto ∧ policy.mode = .forced ∧ v.state = .detect
      let turns := v.policy.mode = .forced ∧ policy.mode = .auto
      let waits := turns ∧ v.state = .off ∧ v.waiting = true ∧ v.intent = true
      let named : State := { u with channels := u.channels.set c { v with policy := policy } }
      let turned : State := { u with channels := u.channels.set c { v with policy := policy, removalRun := 0 } }
      let follows (x : State) : Prop := set = .next (replied
        (x.policyRations c u.maxLevel (decide (policy.action ≠ v.policy.action))) .powerPolicy tag .ok (two limit))
      (leaves → u.supply = .good → follows (named.enterActive c)) ∧
      (leaves → u.supply ≠ .good → follows (named.enterOff c true)) ∧
      (waits → u.thermal ≠ .shutdown → follows (turned.enterDetect c)) ∧
      (waits → u.thermal = .shutdown → follows (turned.enterFault c .thermal)) ∧
      (turns → ¬waits → follows turned) ∧
      (¬leaves → ¬turns → follows named) ∧
      ∃ t, set = .next t ∧ t.reply = some ⟨0x40, tag, .ok, halfBytes (BitVec.ofNat 16 limit)⟩ ∧
        (t.channel c).policy = policy ∧ (t.channel c).cap = v.cap ∧ (t.channel c).intent = v.intent ∧
        (¬leaves → ¬waits → (t.channel c).state = v.state ∧ (t.channel c).waiting = v.waiting ∧
          (t.channel c).faults = v.faults) ∧
        (leaves → u.supply = .good → (t.channel c).state = .active) ∧
        (leaves → u.supply ≠ .good → (t.channel c).state = .off ∧ (t.channel c).waiting = true) ∧
        (waits → u.thermal ≠ .shutdown → (t.channel c).state = .detect) ∧
        (waits → u.thermal = .shutdown → (t.channel c).state = .fault ∧ (t.channel c).cause = .thermal ∧
          (t.channel c).faults = bump v.faults) ∧
        t.level = min u.level t.maxLevel ∧ (∀ c', (t.channel c').rationed = t.inRationedSet c') ∧
        (∀ c', c' ≠ c → (t.channel c').policy = (u.channel c').policy ∧ (t.channel c').state = (u.channel c').state ∧
          (t.link c').state = (u.link c').state) ∧
        t.budget = u.budget ∧ t.outputs = u.outputs ∧ t.streams = u.streams ∧ t.store = u.store ∧
        t.aliases = u.aliases ∧ t.mode = u.mode)) ∧
  (∀ (s : State) (c : Fin 4) (before : Nat) (fresh : Bool),
    let m := s.maxLevel
    let changed := if fresh then some c else none
    let lowered : State := { s with
      overTimer := none, underTimer := if s.underTimer ≠ none ∧ 0 < m then some 5000000 else none }
    let kept : State := { s with overTimer :=
      if before < m then (if s.budget < sum s ∧ s.level < m then some (s.overTimer.getD 1000000) else s.overTimer)
      else if s.level < m then s.overTimer else none }
    (m < s.level → s.policyRations c before fresh = lowered.setLevel m changed) ∧
    (s.level ≤ m → s.policyRations c before fresh = kept.recompute changed)) ∧
  (∀ (s : State) (dt : Nat) (tag : Byte) (body : List Byte), Awake s → body.length = 4 →
    let b := (half body 0).toNat
    let t := (half body 2).toNat
    let budget := if b = 0 then 2000 else min 4000 (max 500 b)
    let threshold := if t = 0 then 1500 else min 4000 (max 200 t)
    exec (.powerBudget dt tag body) s = .next (replied
      { arrived s dt body with budget := budget, boostThreshold := threshold } .powerBudget tag .ok
      (halfBytes (BitVec.ofNat 16 budget) ++ halfBytes (BitVec.ofNat 16 threshold)))) ∧
  (∀ (s : State) (dt : Nat) (tag n : Byte), Awake s →
    let u := arrived s dt [n]
    let status := exec (.powerStatus dt tag [n]) s
    (3 < n.toNat → status = .next (replied u .powerStatus tag .badArg [])) ∧
    (∀ c : Fin 4, c.val = n.toNat →
      let v := u.channel c
      status = .next (replied { u with channels := u.channels.set c { v with failedWrites := 0 } } .powerStatus tag .ok
        ([BitVec.ofNat 8 v.state.code, flagByte v.intent, if v.policy.mode = .auto then 0 else 1,
          if v.policy.handling = .autoRecover then 0 else 1, BitVec.ofNat 8 v.cause.code] ++ halfBytes v.current ++
        two v.policy.limit ++ two v.cap.milliamps ++ halfBytes v.faults ++
        [flagByte v.latched, BitVec.ofNat 8 v.policy.priority, flagByte v.policy.action.isSome, flagByte v.rationed,
          match v.pendingByte with
            | none => 0
            | some .engage => 1
            | some .restore => 2] ++ halfBytes v.failedWrites ++ two u.budget ++ two u.boostThreshold ++
        (if sum u < 65536 then two (sum u) else halfBytes (Config.totalField (sum u))) ++
        [BitVec.ofNat 8 u.level, flagByte u.boost]))))

/-- POWER_CONTROL ON, OFF and CLEAR in every state of the channel (R157, R158, R167), and what a channel does as it enters a
state (R160 to R162, R164, R165). A state that is entered has no blip, even while the coax is driven back (entry 20), and
leaving FAULT ends a discharge that still runs (entry 21). `linkPowered` and `linkUnpowered` are what LinkControlRules
states. -/
def Obligations.PowerControlRules : Prop :=
  let put (s : State) (c : Fin 4) (v : Channel) : State := { s with channels := s.channels.set c v }
  let settled (v : Channel) (state : ChannelState) : Channel := { v with
    state := state, dischargeTimer := none, coolDown := none, activeTimer := none, blipHold := none, blip := false
    waiting := false, attachRun := 0, removalRun := 0, overRun := 0 }
  (∀ (s : State) (c : Fin 4),
    let v := s.channel c
    let posted (w : Channel) : State := (put s c w).post .powerState c.val
    let lost (t : State) : State := if v.state = .active then t.linkUnpowered c else t
    s.enterDetect c = posted (settled v .detect) ∧
    s.enterActive c = (posted { settled v .active with activeTimer := some 10000000 }).linkPowered c ∧
    (∀ wait, s.enterOff c wait = posted { settled v .off with current := 0, waiting := wait }) ∧
    (∀ target, s.enterDischarge c target =
      lost (posted { settled v (.discharge target) with current := 0, dischargeTimer := some 50000 })) ∧
    (∀ cause,
      let faults := bump v.faults
      let latched := v.latched || decide (v.policy.handling = .latch ∨ 8 ≤ faults.toNat)
      let fault : Channel := { settled v .fault with
        current := 0, cause := cause, faults := faults, latched := latched
        coolDown := if latched then none else some 500000 }
      ((∀ target, v.state ≠ .discharge target) → s.enterFault c cause = lost (posted fault)) ∧
      (∀ target, v.state = .discharge target →
        s.enterFault c cause = posted { fault with dischargeTimer := v.dischargeTimer }))) ∧
  (∀ (i : Instr) (s : State) (dt : Nat) (tag n action : Byte), requestOf i = some (.powerControl, dt, tag, [n, action]) →
    Awake s → (3 < n.toNat ∨ 2 < action.toNat) →
    exec i s = .next (replied (arrived s dt [n, action]) .powerControl tag .badArg [])) ∧
  (∀ (s : State) (dt : Nat) (tag n : Byte) (c : Fin 4), Awake s → c.val = n.toNat →
    let v := (s.elapse dt).channel c
    let u (action : Byte) : State := arrived s dt [n, action]
    let willing := put (u 0) c { v with intent := true }
    let unwilling := put (u 1) c { v with intent := false }
    let ok (t : State) : Host.Outcome State Fault Refusal := .next (replied t .powerControl tag .ok [])
    let on := exec (.powerControlOn dt tag [n, 0]) s
    let off := exec (.powerControlOff dt tag [n, 1]) s
    let clear := exec (.powerControlClear dt tag [n, 2]) s
    (v.state = .off → s.thermal = .shutdown → on = ok (willing.enterFault c .thermal)) ∧
    (v.state = .off → s.thermal ≠ .shutdown → v.policy.mode = .auto → on = ok (willing.enterDetect c)) ∧
    (v.state = .off → s.thermal ≠ .shutdown → v.policy.mode = .forced → s.supply = .good →
      on = ok (willing.enterActive c)) ∧
    (v.state = .off → s.thermal ≠ .shutdown → v.policy.mode = .forced → s.supply ≠ .good →
      on = ok (put (u 0) c { v with intent := true, waiting := true })) ∧
    (v.state = .discharge .off → on = ok (put (u 0) c { v with
      intent := true, state := .discharge (if v.policy.mode = .auto then .detect else .active) })) ∧
    (v.state ≠ .off → v.state ≠ .discharge .off → on = ok willing) ∧
    (v.state = .off → off = ok (put (u 1) c { v with intent := false, waiting := false })) ∧
    (v.state = .detect ∨ v.state = .active → off = ok (unwilling.enterDischarge c .off)) ∧
    (∀ target, v.state = .discharge target →
      off = ok (put (u 1) c { v with intent := false, state := .discharge .off })) ∧
    (v.state = .fault → v.latched = true → off = ok unwilling) ∧
    (v.state = .fault → v.latched = false → off = ok (unwilling.enterOff c false)) ∧
    (v.state = .fault →
      clear = ok ((put (u 2) c { v with latched := false, faults := 0, intent := false }).enterOff c false)) ∧
    (v.state ≠ .fault → clear = .next (replied (u 2) .powerControl tag .wrongState [])))

/-- A CURRENT_SAMPLE: the measured current, the total it forms, and attachment, removal, overcurrent and short circuit (R155,
R159, R160, R162, R168). The total is formed with the sample before the channel's state is judged (entry 17), the sample
carries the supply level, which the part keeps (entry 8), and a run is counted in samples (entry 34). -/
def Obligations.CurrentSampleRules : Prop :=
  let put (s : State) (c : Fin 4) (v : Channel) : State := { s with channels := s.channels.set c v }
  ∀ (s : State) (dt : Nat) (c : Fin 4) (mA : Half) (supply : Supply),
    let w := (s.elapse dt).setSupply supply
    let v := w.channel c
    let x := (put w c { v with current := if v.state = .detect ∨ v.state = .active then mA else 0 }).formTotal
    let limit := v.policy.limit
    let attach := if 15 < mA.toNat ∧ supply = .good then v.attachRun + 1 else 0
    let exceeding := if limit < mA.toNat then v.overRun + 1 else 0
    let gone := if mA.toNat < 5 ∧ v.policy.mode = .auto then v.removalRun + 1 else 0
    let sample := exec (.currentSample dt c mA supply) s
    (supply ≠ .good ∨ s.thermal = .shutdown ∨ (∀ c', (s.channel c').waiting = false) →
      w = { s.elapse dt with supply := supply }) ∧
    (v.state ≠ .detect → v.state ≠ .active → sample = .next x) ∧
    (v.state = .detect → attach < 21 → sample = .next (put x c { x.channel c with attachRun := attach })) ∧
    (v.state = .detect → 21 ≤ attach → sample = .next (x.enterActive c)) ∧
    (v.state = .active → 2 * limit < mA.toNat → sample = .next (x.enterFault c .short)) ∧
    (v.state = .active → mA.toNat ≤ 2 * limit → 3 ≤ exceeding → sample = .next (x.enterFault c .overcurrent)) ∧
    (v.state = .active → mA.toNat ≤ 2 * limit → exceeding < 3 → 201 ≤ gone →
      sample = .next (x.enterDischarge c .detect)) ∧
    (v.state = .active → mA.toNat ≤ 2 * limit → exceeding < 3 → gone < 201 →
      sample = .next (put x c { x.channel c with overRun := exceeding, removalRun := gone }))

/-- The supply and the coax voltage: UNDERVOLTAGE_FAULT, BACKDRIVE_BEGIN, BACKDRIVE_END, BACKDRIVE_FAULT and SUPPLY_GOOD
(R155, R157, R162, R163). The levels at the comparators are kept as entries 8, 20 and 33 say. `enterActive` and
`enterFault` are what PowerControlRules states. And the switched paths of a channel in each state and in a blip (R154,
R163): main switch and detect path are never on together, and the discharge element is on while the 50 ms of a discharge
run, into FAULT too (R160, R164). A channel that leaves FAULT while those 50 ms still run switches the element off (entry
21). -/
def Obligations.VoltageRules : Prop :=
  let put (s : State) (c : Fin 4) (v : Channel) : State := { s with channels := s.channels.set c v }
  (∀ (s : State) (dt : Nat) (c : Fin 4),
    let u := s.elapse dt
    let v := u.channel c
    let low := { u with supply := .low }
    let powered := v.state = .detect ∨ v.state = .active
    (v.state = .active → exec (.undervoltageFault dt c) s = .next (low.enterFault c .undervoltage)) ∧
    (v.state ≠ .active → exec (.undervoltageFault dt c) s = .next low) ∧
    (v.backdrive = true → exec (.backdriveBegin dt c) s = .next u) ∧
    (v.backdrive = false → powered → exec (.backdriveBegin dt c) s =
      .next (put u c { v with backdrive := true, blip := true, blipHold := some 1000 })) ∧
    (v.backdrive = false → ¬powered → exec (.backdriveBegin dt c) s = .next (put u c { v with backdrive := true })) ∧
    exec (.backdriveEnd dt c) s = .next (put u c { v with backdrive := false, blip := false, blipHold := none }) ∧
    ((s.channel c).backdrive = true → powered → exec (.backdriveFault c) s =
      .next ((s.elapse ((s.channel c).blipHold.getD 0)).enterFault c .backdrive)) ∧
    ((s.channel c).backdrive = false ∨ ¬powered → exec (.backdriveFault c) s = .next s)) ∧
  (∀ (s : State) (dt : Nat),
    let u := { s.elapse dt with supply := .good }
    let waits (c : Fin 4) : Prop := (s.channel c).waiting = true ∧ (s.channel c).state = .off
    let released (c : Fin 4) (x y : State) : Prop := (waits c → y = x.enterActive c) ∧ (¬waits c → y = x)
    (s.thermal = .shutdown ∨ (∀ c, ¬waits c) → exec (.supplyGood dt) s = .next u) ∧
    (s.thermal ≠ .shutdown → ∃ a b c d : State, released 0 u a ∧ released 1 a b ∧ released 2 b c ∧ released 3 c d ∧
      exec (.supplyGood dt) s = .next d) ∧
    (s.thermal ≠ .shutdown → ∃ t, exec (.supplyGood dt) s = .next t ∧
      (∃ channels links notices, t = { u with channels := channels, links := links, notices := notices }) ∧
      ∀ c, (waits c → (t.channel c).state = .active ∧ (t.channel c).waiting = false ∧
          (t.channel c).activeTimer = some 10000000 ∧
          (t.link c).state = if (s.link c).state = .waitPower then .training else (s.link c).state) ∧
        (¬waits c → t.channel c = u.channel c ∧ t.link c = u.link c))) ∧
  (∀ v : Channel, (v.mainSwitch = true ↔ v.state = .active ∧ v.blip = false) ∧
    (v.detectPath = true ↔ v.state = .detect ∧ v.blip = false) ∧ ¬(v.mainSwitch = true ∧ v.detectPath = true) ∧
    (v.dischargeElement = true ↔ v.dischargeTimer ≠ none)) ∧
  (∀ (s : State) (c : Fin 4),
    let element (t : State) : Bool := (t.channel c).dischargeElement
    (∀ target, element (s.enterDischarge c target) = true) ∧ element (s.enterDetect c) = false ∧
    element (s.enterActive c) = false ∧ (∀ wait, element (s.enterOff c wait) = false) ∧
    (∀ cause, ((∀ target, (s.channel c).state ≠ .discharge target) → element (s.enterFault c cause) = false) ∧
      (∀ target, (s.channel c).state = .discharge target → element (s.enterFault c cause) = element s)) ∧
    (∀ t, exec (.dischargeExpiry c) s = .next t → (s.channel c).dischargeTimer ≠ none → element t = false))

/-- The channel timers: DISCHARGE_EXPIRY (R157, R160, R164; a target ACTIVE is taken as it stands, entry 35), COOL_DOWN_EXPIRY
(R166) and ACTIVE_TIMER_EXPIRY (R165). A timer that does not run has no expiry (entry 2). -/
def Obligations.PowerTimerRules : Prop :=
  let put (s : State) (c : Fin 4) (v : Channel) : State := { s with channels := s.channels.set c v }
  (∀ (s : State) (c : Fin 4),
    ((s.channel c).dischargeTimer = none → exec (.dischargeExpiry c) s = .next s) ∧
    ((s.channel c).coolDown = none → exec (.coolDownExpiry c) s = .next s) ∧
    ((s.channel c).activeTimer = none → exec (.activeTimerExpiry c) s = .next s)) ∧
  (∀ (s : State) (c : Fin 4) (left : Nat),
    let u := s.elapse left
    let v := u.channel c
    let ended := put u c { v with dischargeTimer := none }
    let discharge := exec (.dischargeExpiry c) s
    let cool := exec (.coolDownExpiry c) s
    let ready := s.supply = .good ∧ s.thermal ≠ .shutdown
    let clear := s.supply = .good ∧ v.backdrive = false ∧ s.thermal ≠ .shutdown
    let onward := v.state = .discharge .active ∨ (v.state = .discharge .detect ∧ v.policy.mode = .forced)
    ((s.channel c).dischargeTimer = some left →
      (v.state = .discharge .off → discharge = .next (ended.enterOff c false)) ∧
      (v.state = .discharge .detect → v.policy.mode = .auto → s.thermal ≠ .shutdown →
        discharge = .next (ended.enterDetect c)) ∧
      (v.state = .discharge .detect → v.policy.mode = .auto → s.thermal = .shutdown →
        discharge = .next (ended.enterFault c .thermal)) ∧
      (onward → ready → discharge = .next (ended.enterActive c)) ∧
      (onward → ¬ready → discharge = .next (ended.enterOff c true)) ∧
      ((∀ target, v.state ≠ .discharge target) → discharge = .next ended)) ∧
    ((s.channel c).coolDown = some left → v.state = .fault →
      (¬clear → cool = .next (put u c { v with coolDown := some 500000 })) ∧
      (clear → v.intent = false → cool = .next (u.enterOff c false)) ∧
      (clear → v.intent = true → v.policy.mode = .auto → cool = .next (u.enterDetect c)) ∧
      (clear → v.intent = true → v.policy.mode = .forced → cool = .next (u.enterActive c))) ∧
    ((s.channel c).activeTimer = some left →
      exec (.activeTimerExpiry c) s = .next (put u c { v with faults := 0, activeTimer := none })))

/-- The budget: the total with its timers and SUPPLY_BOOST (R168, R169, R172), the expiry of the timers (R169), and a
change of the level, which posts POWER_BUDGET and changes no channel's state (R169, R170). A timer that does not run has
no expiry (entry 2), and an expiry is judged by the sum of the currents as it stands (entry 11) and by the budget as it
stands (entry 35). -/
def Obligations.BudgetRules : Prop :=
  let sum (s : State) : Nat := (s.channel 0).current.toNat + (s.channel 1).current.toNat +
    (s.channel 2).current.toNat + (s.channel 3).current.toNat
  let tooMuch (s : State) (level : Nat) : Prop := s.budget < sum s ∧ level < s.maxLevel
  let little (s : State) (level : Nat) : Prop := sum s * 10 ≤ s.budget * 9 ∧ 0 < level
  (∀ s : State,
    let t := s.formTotal
    let above := s.boostThreshold < sum s
    let held := s.boostHold = none ∨ s.boostHold = some 0
    (∃ overTimer underTimer boost boostHold, t = { s with
      overTimer := overTimer, underTimer := underTimer, boost := boost, boostHold := boostHold }) ∧
    (tooMuch s s.level → t.overTimer = some (s.overTimer.getD 1000000)) ∧
    (¬tooMuch s s.level → t.overTimer = none) ∧
    (little s s.level → t.underTimer = some (s.underTimer.getD 5000000)) ∧
    (¬little s s.level → t.underTimer = none) ∧
    (above → t.boost = true) ∧ (above → s.boost = false → t.boostHold = some 20000) ∧
    (above → s.boost = true → t.boostHold = s.boostHold) ∧
    (¬above → s.boost = false ∨ held → t.boost = false ∧ t.boostHold = none) ∧
    (¬above → s.boost = true → ¬held → t.boost = true ∧ t.boostHold = s.boostHold)) ∧
  (∀ (s : State) (left : Nat),
    let u := s.elapse left
    (s.overTimer = none → exec .overBudgetTimerExpiry s = .next s) ∧
    (s.overTimer = some left → s.maxLevel ≤ s.level →
      exec .overBudgetTimerExpiry s = .next { u with overTimer := none }) ∧
    (s.overTimer = some left → tooMuch s (s.level + 1) →
      exec .overBudgetTimerExpiry s = .next ({ u with overTimer := some 1000000 }.setLevel (s.level + 1) none)) ∧
    (s.overTimer = some left → s.level < s.maxLevel → ¬tooMuch s (s.level + 1) →
      exec .overBudgetTimerExpiry s = .next ({ u with overTimer := none }.setLevel (s.level + 1) none)) ∧
    (s.underTimer = none → exec .underBudgetTimerExpiry s = .next s) ∧
    (s.underTimer = some left → s.level = 0 →
      exec .underBudgetTimerExpiry s = .next { u with underTimer := none }) ∧
    (s.underTimer = some left → 0 < s.level → little s (s.level - 1) →
      exec .underBudgetTimerExpiry s = .next ({ u with underTimer := some 5000000 }.setLevel (s.level - 1) none)) ∧
    (s.underTimer = some left → 0 < s.level → ¬little s (s.level - 1) →
      exec .underBudgetTimerExpiry s = .next ({ u with underTimer := none }.setLevel (s.level - 1) none))) ∧
  (∀ (s : State) (level : Nat) (changed : Option (Fin 4)),
    s.setLevel level changed = (({ s with level := level } : State).post .powerBudget 0).recompute changed) ∧
  (∀ (s : State) (level : Nat),
    let t := s.setLevel level none
    ((∀ c, (s.channel c).policy.action = none ∧ (s.channel c).rationed = false) →
      t = ({ s with level := level } : State).post .powerBudget 0) ∧
    t.level = level ∧ t.overTimer = s.overTimer ∧ t.underTimer = s.underTimer ∧ t.outputs = s.outputs ∧
    t.streams = s.streams ∧ t.store = s.store ∧ t.aliases = s.aliases ∧
    (∀ n, (t.channel n).rationed = t.inRationedSet n ∧ (t.channel n).state = (s.channel n).state ∧
      (t.channel n).policy = (s.channel n).policy ∧ (t.channel n).current = (s.channel n).current ∧
      (t.link n).state = (s.link n).state ∧ (t.link n).result = (s.link n).result))

/-! ### What every step keeps -/

/-- Every step keeps the store's form, the Notice Table (R197, R198), the bounds of the queues and of the Alias Table (R137,
R139, R149), the limits (R156), the mask (R199), and a context exactly where the applied route is SAFETY (R176). -/
def Obligations.StepKeepsTheTables : Prop :=
  ∀ s t : State, step s = .next t →
    (StoreOk s → StoreOk t) ∧ (NoticesOk s → NoticesOk t) ∧ (QueuesOk s → QueuesOk t) ∧ (LimitsOk s → LimitsOk t) ∧
    (MaskOk s → MaskOk t) ∧ (ContextOk s → ContextOk t)

/-- Every step keeps: a link that trains, is UP, retrains or has failed has an ACTIVE channel, and a link outside UP has
nothing awaiting and no half frame pending (R111, R112, R122, R139, R146). -/
def Obligations.StepKeepsLinksPowered : Prop :=
  ∀ s t : State, step s = .next t → LinkPowered s ∧ QuietWhenDown s → LinkPowered t ∧ QuietWhenDown t

/-- Every step keeps every output's tier at what an evaluation would choose: no occasion for one is missed (R96, R97,
R99). -/
def Obligations.StepKeepsTiers : Prop :=
  ∀ s t : State, step s = .next t → TierOk s → TierOk t

/-- Every step keeps the custody of frames: what an output shows is a READY slot of a stream its route names, never one that
is being written (R7, R13, R14). -/
def Obligations.StepKeepsCustody : Prop :=
  ∀ s t : State, step s = .next t → CustodyOk s → CustodyOk t

/-- Every step keeps: outside RUN no output is SCANNING or PAUSED (R85, R91), and in SLEEP nothing is powered and no output
has vertical starts (R91, R130, R174). The first needs the timers of INIT and of the wake window to run only there. -/
def Obligations.StepKeepsModes : Prop :=
  ∀ s t : State, step s = .next t →
    (ModeTimersOk s → ModeTimersOk t) ∧ (ModeTimersOk s → HeldOutsideRun s → HeldOutsideRun t) ∧
    (DarkInSleep s → DarkInSleep t)

/-- The state right after device reset, with any caps, first reading and comparator levels, has every property that the
statements above say a step keeps, and the command leaves such a state from any other. -/
def Obligations.ResetIsSafe : Prop :=
  let safe (s : State) : Prop := StoreOk s ∧ NoticesOk s ∧ QueuesOk s ∧ LimitsOk s ∧ MaskOk s ∧ ContextOk s ∧
    LinkPowered s ∧ QuietWhenDown s ∧ TierOk s ∧ CustodyOk s ∧ ModeTimersOk s ∧ HeldOutsideRun s ∧ DarkInSleep s
  safe State.reset ∧ ∀ (s t : State) (caps : Four Cap) (reading : Int), exec (.deviceReset caps reading) s = .next t → safe t
end

