-- ==== Sys2Proof/Laws/State.lean ====
section
/-! SUPPORT. One lemma per field per update of the state, and reading back what an update wrote. -/

namespace Sys2Proof

section Tables
variable {α β : Type}

@[simp] theorem Four.get_fill (a : α) (i : Fin 4) : (Four.fill a).get i = a := by
  fin_cases i <;> rfl

@[simp] theorem Four.get_set_same (v : Four α) (i : Fin 4) (a : α) : (v.set i a).get i = a := by
  fin_cases i <;> rfl

theorem Four.get_set_ne (v : Four α) (i j : Fin 4) (a : α) (h : j ≠ i) : (v.set i a).get j = v.get j := by
  fin_cases i <;> fin_cases j <;> first | rfl | exact absurd rfl h

theorem Four.get_set (v : Four α) (i j : Fin 4) (a : α) : (v.set i a).get j = if j = i then a else v.get j := by
  split
  · next h => rw [h, Four.get_set_same]
  · next h => exact Four.get_set_ne v i j a h

@[simp] theorem Four.get_map (f : α → β) (v : Four α) (i : Fin 4) : (v.map f).get i = f (v.get i) := by
  fin_cases i <;> rfl

@[simp] theorem Eight.get_fill (a : α) (i : Fin 8) : (Eight.fill a).get i = a := by
  fin_cases i <;> rfl

@[simp] theorem Eight.get_set_same (v : Eight α) (i : Fin 8) (a : α) : (v.set i a).get i = a := by
  fin_cases i <;> rfl

theorem Eight.get_set_ne (v : Eight α) (i j : Fin 8) (a : α) (h : j ≠ i) : (v.set i a).get j = v.get j := by
  fin_cases i <;> fin_cases j <;> first | rfl | exact absurd rfl h

theorem Eight.get_set (v : Eight α) (i j : Fin 8) (a : α) : (v.set i a).get j = if j = i then a else v.get j := by
  split
  · next h => rw [h, Eight.get_set_same]
  · next h => exact Eight.get_set_ne v i j a h

@[simp] theorem Eight.get_map (f : α → β) (v : Eight α) (i : Fin 8) : (v.map f).get i = f (v.get i) := by
  fin_cases i <;> rfl

end Tables

namespace Machine

@[simp] theorem setStream_mode (s : State) (i : Fin 8) (r : Option Stream) : (s.setStream i r).mode = s.mode := rfl
@[simp] theorem setStream_timeBase (s : State) (i : Fin 8) (r : Option Stream) : (s.setStream i r).timeBase = s.timeBase := rfl
@[simp] theorem setStream_initTimer (s : State) (i : Fin 8) (r : Option Stream) : (s.setStream i r).initTimer = s.initTimer := rfl
@[simp] theorem setStream_wakeWindow (s : State) (i : Fin 8) (r : Option Stream) : (s.setStream i r).wakeWindow = s.wakeWindow := rfl
@[simp] theorem setStream_reply (s : State) (i : Fin 8) (r : Option Stream) : (s.setStream i r).reply = s.reply := rfl
@[simp] theorem setStream_notices (s : State) (i : Fin 8) (r : Option Stream) : (s.setStream i r).notices = s.notices := rfl
@[simp] theorem setStream_mask (s : State) (i : Fin 8) (r : Option Stream) : (s.setStream i r).mask = s.mask := rfl
@[simp] theorem setStream_spiOut (s : State) (i : Fin 8) (r : Option Stream) : (s.setStream i r).spiOut = s.spiOut := rfl
@[simp] theorem setStream_segments (s : State) (i : Fin 8) (r : Option Stream) : (s.setStream i r).segments = s.segments := rfl
@[simp] theorem setStream_store (s : State) (i : Fin 8) (r : Option Stream) : (s.setStream i r).store = s.store := rfl
@[simp] theorem setStream_temperature (s : State) (i : Fin 8) (r : Option Stream) : (s.setStream i r).temperature = s.temperature := rfl
@[simp] theorem setStream_thermal (s : State) (i : Fin 8) (r : Option Stream) : (s.setStream i r).thermal = s.thermal := rfl
@[simp] theorem setStream_thermalChanged (s : State) (i : Fin 8) (r : Option Stream) : (s.setStream i r).thermalChanged = s.thermalChanged := rfl
@[simp] theorem setStream_initResult (s : State) (i : Fin 8) (r : Option Stream) : (s.setStream i r).initResult = s.initResult := rfl
@[simp] theorem setStream_storeTesting (s : State) (i : Fin 8) (r : Option Stream) : (s.setStream i r).storeTesting = s.storeTesting := rfl
@[simp] theorem setStream_stray (s : State) (i : Fin 8) (r : Option Stream) : (s.setStream i r).stray = s.stray := rfl
@[simp] theorem setStream_outputs (s : State) (i : Fin 8) (r : Option Stream) : (s.setStream i r).outputs = s.outputs := rfl
@[simp] theorem setStream_links (s : State) (i : Fin 8) (r : Option Stream) : (s.setStream i r).links = s.links := rfl
@[simp] theorem setStream_aliases (s : State) (i : Fin 8) (r : Option Stream) : (s.setStream i r).aliases = s.aliases := rfl
@[simp] theorem setStream_channels (s : State) (i : Fin 8) (r : Option Stream) : (s.setStream i r).channels = s.channels := rfl
@[simp] theorem setStream_supply (s : State) (i : Fin 8) (r : Option Stream) : (s.setStream i r).supply = s.supply := rfl
@[simp] theorem setStream_budget (s : State) (i : Fin 8) (r : Option Stream) : (s.setStream i r).budget = s.budget := rfl
@[simp] theorem setStream_boostThreshold (s : State) (i : Fin 8) (r : Option Stream) : (s.setStream i r).boostThreshold = s.boostThreshold := rfl
@[simp] theorem setStream_level (s : State) (i : Fin 8) (r : Option Stream) : (s.setStream i r).level = s.level := rfl
@[simp] theorem setStream_overTimer (s : State) (i : Fin 8) (r : Option Stream) : (s.setStream i r).overTimer = s.overTimer := rfl
@[simp] theorem setStream_underTimer (s : State) (i : Fin 8) (r : Option Stream) : (s.setStream i r).underTimer = s.underTimer := rfl
@[simp] theorem setStream_boost (s : State) (i : Fin 8) (r : Option Stream) : (s.setStream i r).boost = s.boost := rfl
@[simp] theorem setStream_boostHold (s : State) (i : Fin 8) (r : Option Stream) : (s.setStream i r).boostHold = s.boostHold := rfl
@[simp] theorem setStream_pending (s : State) (i : Fin 8) (r : Option Stream) : (s.setStream i r).pending = s.pending := rfl

@[simp] theorem setOutput_mode (s : State) (o : Fin 4) (v : Output) : (s.setOutput o v).mode = s.mode := rfl
@[simp] theorem setOutput_timeBase (s : State) (o : Fin 4) (v : Output) : (s.setOutput o v).timeBase = s.timeBase := rfl
@[simp] theorem setOutput_initTimer (s : State) (o : Fin 4) (v : Output) : (s.setOutput o v).initTimer = s.initTimer := rfl
@[simp] theorem setOutput_wakeWindow (s : State) (o : Fin 4) (v : Output) : (s.setOutput o v).wakeWindow = s.wakeWindow := rfl
@[simp] theorem setOutput_reply (s : State) (o : Fin 4) (v : Output) : (s.setOutput o v).reply = s.reply := rfl
@[simp] theorem setOutput_notices (s : State) (o : Fin 4) (v : Output) : (s.setOutput o v).notices = s.notices := rfl
@[simp] theorem setOutput_mask (s : State) (o : Fin 4) (v : Output) : (s.setOutput o v).mask = s.mask := rfl
@[simp] theorem setOutput_spiOut (s : State) (o : Fin 4) (v : Output) : (s.setOutput o v).spiOut = s.spiOut := rfl
@[simp] theorem setOutput_segments (s : State) (o : Fin 4) (v : Output) : (s.setOutput o v).segments = s.segments := rfl
@[simp] theorem setOutput_store (s : State) (o : Fin 4) (v : Output) : (s.setOutput o v).store = s.store := rfl
@[simp] theorem setOutput_temperature (s : State) (o : Fin 4) (v : Output) : (s.setOutput o v).temperature = s.temperature := rfl
@[simp] theorem setOutput_thermal (s : State) (o : Fin 4) (v : Output) : (s.setOutput o v).thermal = s.thermal := rfl
@[simp] theorem setOutput_thermalChanged (s : State) (o : Fin 4) (v : Output) : (s.setOutput o v).thermalChanged = s.thermalChanged := rfl
@[simp] theorem setOutput_initResult (s : State) (o : Fin 4) (v : Output) : (s.setOutput o v).initResult = s.initResult := rfl
@[simp] theorem setOutput_storeTesting (s : State) (o : Fin 4) (v : Output) : (s.setOutput o v).storeTesting = s.storeTesting := rfl
@[simp] theorem setOutput_streams (s : State) (o : Fin 4) (v : Output) : (s.setOutput o v).streams = s.streams := rfl
@[simp] theorem setOutput_stray (s : State) (o : Fin 4) (v : Output) : (s.setOutput o v).stray = s.stray := rfl
@[simp] theorem setOutput_links (s : State) (o : Fin 4) (v : Output) : (s.setOutput o v).links = s.links := rfl
@[simp] theorem setOutput_aliases (s : State) (o : Fin 4) (v : Output) : (s.setOutput o v).aliases = s.aliases := rfl
@[simp] theorem setOutput_channels (s : State) (o : Fin 4) (v : Output) : (s.setOutput o v).channels = s.channels := rfl
@[simp] theorem setOutput_supply (s : State) (o : Fin 4) (v : Output) : (s.setOutput o v).supply = s.supply := rfl
@[simp] theorem setOutput_budget (s : State) (o : Fin 4) (v : Output) : (s.setOutput o v).budget = s.budget := rfl
@[simp] theorem setOutput_boostThreshold (s : State) (o : Fin 4) (v : Output) : (s.setOutput o v).boostThreshold = s.boostThreshold := rfl
@[simp] theorem setOutput_level (s : State) (o : Fin 4) (v : Output) : (s.setOutput o v).level = s.level := rfl
@[simp] theorem setOutput_overTimer (s : State) (o : Fin 4) (v : Output) : (s.setOutput o v).overTimer = s.overTimer := rfl
@[simp] theorem setOutput_underTimer (s : State) (o : Fin 4) (v : Output) : (s.setOutput o v).underTimer = s.underTimer := rfl
@[simp] theorem setOutput_boost (s : State) (o : Fin 4) (v : Output) : (s.setOutput o v).boost = s.boost := rfl
@[simp] theorem setOutput_boostHold (s : State) (o : Fin 4) (v : Output) : (s.setOutput o v).boostHold = s.boostHold := rfl
@[simp] theorem setOutput_pending (s : State) (o : Fin 4) (v : Output) : (s.setOutput o v).pending = s.pending := rfl

@[simp] theorem setLink_mode (s : State) (l : Fin 4) (v : Link) : (s.setLink l v).mode = s.mode := rfl
@[simp] theorem setLink_timeBase (s : State) (l : Fin 4) (v : Link) : (s.setLink l v).timeBase = s.timeBase := rfl
@[simp] theorem setLink_initTimer (s : State) (l : Fin 4) (v : Link) : (s.setLink l v).initTimer = s.initTimer := rfl
@[simp] theorem setLink_wakeWindow (s : State) (l : Fin 4) (v : Link) : (s.setLink l v).wakeWindow = s.wakeWindow := rfl
@[simp] theorem setLink_reply (s : State) (l : Fin 4) (v : Link) : (s.setLink l v).reply = s.reply := rfl
@[simp] theorem setLink_notices (s : State) (l : Fin 4) (v : Link) : (s.setLink l v).notices = s.notices := rfl
@[simp] theorem setLink_mask (s : State) (l : Fin 4) (v : Link) : (s.setLink l v).mask = s.mask := rfl
@[simp] theorem setLink_spiOut (s : State) (l : Fin 4) (v : Link) : (s.setLink l v).spiOut = s.spiOut := rfl
@[simp] theorem setLink_segments (s : State) (l : Fin 4) (v : Link) : (s.setLink l v).segments = s.segments := rfl
@[simp] theorem setLink_store (s : State) (l : Fin 4) (v : Link) : (s.setLink l v).store = s.store := rfl
@[simp] theorem setLink_temperature (s : State) (l : Fin 4) (v : Link) : (s.setLink l v).temperature = s.temperature := rfl
@[simp] theorem setLink_thermal (s : State) (l : Fin 4) (v : Link) : (s.setLink l v).thermal = s.thermal := rfl
@[simp] theorem setLink_thermalChanged (s : State) (l : Fin 4) (v : Link) : (s.setLink l v).thermalChanged = s.thermalChanged := rfl
@[simp] theorem setLink_initResult (s : State) (l : Fin 4) (v : Link) : (s.setLink l v).initResult = s.initResult := rfl
@[simp] theorem setLink_storeTesting (s : State) (l : Fin 4) (v : Link) : (s.setLink l v).storeTesting = s.storeTesting := rfl
@[simp] theorem setLink_streams (s : State) (l : Fin 4) (v : Link) : (s.setLink l v).streams = s.streams := rfl
@[simp] theorem setLink_stray (s : State) (l : Fin 4) (v : Link) : (s.setLink l v).stray = s.stray := rfl
@[simp] theorem setLink_outputs (s : State) (l : Fin 4) (v : Link) : (s.setLink l v).outputs = s.outputs := rfl
@[simp] theorem setLink_aliases (s : State) (l : Fin 4) (v : Link) : (s.setLink l v).aliases = s.aliases := rfl
@[simp] theorem setLink_channels (s : State) (l : Fin 4) (v : Link) : (s.setLink l v).channels = s.channels := rfl
@[simp] theorem setLink_supply (s : State) (l : Fin 4) (v : Link) : (s.setLink l v).supply = s.supply := rfl
@[simp] theorem setLink_budget (s : State) (l : Fin 4) (v : Link) : (s.setLink l v).budget = s.budget := rfl
@[simp] theorem setLink_boostThreshold (s : State) (l : Fin 4) (v : Link) : (s.setLink l v).boostThreshold = s.boostThreshold := rfl
@[simp] theorem setLink_level (s : State) (l : Fin 4) (v : Link) : (s.setLink l v).level = s.level := rfl
@[simp] theorem setLink_overTimer (s : State) (l : Fin 4) (v : Link) : (s.setLink l v).overTimer = s.overTimer := rfl
@[simp] theorem setLink_underTimer (s : State) (l : Fin 4) (v : Link) : (s.setLink l v).underTimer = s.underTimer := rfl
@[simp] theorem setLink_boost (s : State) (l : Fin 4) (v : Link) : (s.setLink l v).boost = s.boost := rfl
@[simp] theorem setLink_boostHold (s : State) (l : Fin 4) (v : Link) : (s.setLink l v).boostHold = s.boostHold := rfl
@[simp] theorem setLink_pending (s : State) (l : Fin 4) (v : Link) : (s.setLink l v).pending = s.pending := rfl

@[simp] theorem setChannel_mode (s : State) (c : Fin 4) (v : Channel) : (s.setChannel c v).mode = s.mode := rfl
@[simp] theorem setChannel_timeBase (s : State) (c : Fin 4) (v : Channel) : (s.setChannel c v).timeBase = s.timeBase := rfl
@[simp] theorem setChannel_initTimer (s : State) (c : Fin 4) (v : Channel) : (s.setChannel c v).initTimer = s.initTimer := rfl
@[simp] theorem setChannel_wakeWindow (s : State) (c : Fin 4) (v : Channel) : (s.setChannel c v).wakeWindow = s.wakeWindow := rfl
@[simp] theorem setChannel_reply (s : State) (c : Fin 4) (v : Channel) : (s.setChannel c v).reply = s.reply := rfl
@[simp] theorem setChannel_notices (s : State) (c : Fin 4) (v : Channel) : (s.setChannel c v).notices = s.notices := rfl
@[simp] theorem setChannel_mask (s : State) (c : Fin 4) (v : Channel) : (s.setChannel c v).mask = s.mask := rfl
@[simp] theorem setChannel_spiOut (s : State) (c : Fin 4) (v : Channel) : (s.setChannel c v).spiOut = s.spiOut := rfl
@[simp] theorem setChannel_segments (s : State) (c : Fin 4) (v : Channel) : (s.setChannel c v).segments = s.segments := rfl
@[simp] theorem setChannel_store (s : State) (c : Fin 4) (v : Channel) : (s.setChannel c v).store = s.store := rfl
@[simp] theorem setChannel_temperature (s : State) (c : Fin 4) (v : Channel) : (s.setChannel c v).temperature = s.temperature := rfl
@[simp] theorem setChannel_thermal (s : State) (c : Fin 4) (v : Channel) : (s.setChannel c v).thermal = s.thermal := rfl
@[simp] theorem setChannel_thermalChanged (s : State) (c : Fin 4) (v : Channel) : (s.setChannel c v).thermalChanged = s.thermalChanged := rfl
@[simp] theorem setChannel_initResult (s : State) (c : Fin 4) (v : Channel) : (s.setChannel c v).initResult = s.initResult := rfl
@[simp] theorem setChannel_storeTesting (s : State) (c : Fin 4) (v : Channel) : (s.setChannel c v).storeTesting = s.storeTesting := rfl
@[simp] theorem setChannel_streams (s : State) (c : Fin 4) (v : Channel) : (s.setChannel c v).streams = s.streams := rfl
@[simp] theorem setChannel_stray (s : State) (c : Fin 4) (v : Channel) : (s.setChannel c v).stray = s.stray := rfl
@[simp] theorem setChannel_outputs (s : State) (c : Fin 4) (v : Channel) : (s.setChannel c v).outputs = s.outputs := rfl
@[simp] theorem setChannel_links (s : State) (c : Fin 4) (v : Channel) : (s.setChannel c v).links = s.links := rfl
@[simp] theorem setChannel_aliases (s : State) (c : Fin 4) (v : Channel) : (s.setChannel c v).aliases = s.aliases := rfl
@[simp] theorem setChannel_supply (s : State) (c : Fin 4) (v : Channel) : (s.setChannel c v).supply = s.supply := rfl
@[simp] theorem setChannel_budget (s : State) (c : Fin 4) (v : Channel) : (s.setChannel c v).budget = s.budget := rfl
@[simp] theorem setChannel_boostThreshold (s : State) (c : Fin 4) (v : Channel) : (s.setChannel c v).boostThreshold = s.boostThreshold := rfl
@[simp] theorem setChannel_level (s : State) (c : Fin 4) (v : Channel) : (s.setChannel c v).level = s.level := rfl
@[simp] theorem setChannel_overTimer (s : State) (c : Fin 4) (v : Channel) : (s.setChannel c v).overTimer = s.overTimer := rfl
@[simp] theorem setChannel_underTimer (s : State) (c : Fin 4) (v : Channel) : (s.setChannel c v).underTimer = s.underTimer := rfl
@[simp] theorem setChannel_boost (s : State) (c : Fin 4) (v : Channel) : (s.setChannel c v).boost = s.boost := rfl
@[simp] theorem setChannel_boostHold (s : State) (c : Fin 4) (v : Channel) : (s.setChannel c v).boostHold = s.boostHold := rfl
@[simp] theorem setChannel_pending (s : State) (c : Fin 4) (v : Channel) : (s.setChannel c v).pending = s.pending := rfl

@[simp] theorem modStream_mode (s : State) (i : Fin 8) (f : Stream → Stream) : (s.modStream i f).mode = s.mode := rfl
@[simp] theorem modStream_timeBase (s : State) (i : Fin 8) (f : Stream → Stream) : (s.modStream i f).timeBase = s.timeBase := rfl
@[simp] theorem modStream_initTimer (s : State) (i : Fin 8) (f : Stream → Stream) : (s.modStream i f).initTimer = s.initTimer := rfl
@[simp] theorem modStream_wakeWindow (s : State) (i : Fin 8) (f : Stream → Stream) : (s.modStream i f).wakeWindow = s.wakeWindow := rfl
@[simp] theorem modStream_reply (s : State) (i : Fin 8) (f : Stream → Stream) : (s.modStream i f).reply = s.reply := rfl
@[simp] theorem modStream_notices (s : State) (i : Fin 8) (f : Stream → Stream) : (s.modStream i f).notices = s.notices := rfl
@[simp] theorem modStream_mask (s : State) (i : Fin 8) (f : Stream → Stream) : (s.modStream i f).mask = s.mask := rfl
@[simp] theorem modStream_spiOut (s : State) (i : Fin 8) (f : Stream → Stream) : (s.modStream i f).spiOut = s.spiOut := rfl
@[simp] theorem modStream_segments (s : State) (i : Fin 8) (f : Stream → Stream) : (s.modStream i f).segments = s.segments := rfl
@[simp] theorem modStream_store (s : State) (i : Fin 8) (f : Stream → Stream) : (s.modStream i f).store = s.store := rfl
@[simp] theorem modStream_temperature (s : State) (i : Fin 8) (f : Stream → Stream) : (s.modStream i f).temperature = s.temperature := rfl
@[simp] theorem modStream_thermal (s : State) (i : Fin 8) (f : Stream → Stream) : (s.modStream i f).thermal = s.thermal := rfl
@[simp] theorem modStream_thermalChanged (s : State) (i : Fin 8) (f : Stream → Stream) : (s.modStream i f).thermalChanged = s.thermalChanged := rfl
@[simp] theorem modStream_initResult (s : State) (i : Fin 8) (f : Stream → Stream) : (s.modStream i f).initResult = s.initResult := rfl
@[simp] theorem modStream_storeTesting (s : State) (i : Fin 8) (f : Stream → Stream) : (s.modStream i f).storeTesting = s.storeTesting := rfl
@[simp] theorem modStream_stray (s : State) (i : Fin 8) (f : Stream → Stream) : (s.modStream i f).stray = s.stray := rfl
@[simp] theorem modStream_outputs (s : State) (i : Fin 8) (f : Stream → Stream) : (s.modStream i f).outputs = s.outputs := rfl
@[simp] theorem modStream_links (s : State) (i : Fin 8) (f : Stream → Stream) : (s.modStream i f).links = s.links := rfl
@[simp] theorem modStream_aliases (s : State) (i : Fin 8) (f : Stream → Stream) : (s.modStream i f).aliases = s.aliases := rfl
@[simp] theorem modStream_channels (s : State) (i : Fin 8) (f : Stream → Stream) : (s.modStream i f).channels = s.channels := rfl
@[simp] theorem modStream_supply (s : State) (i : Fin 8) (f : Stream → Stream) : (s.modStream i f).supply = s.supply := rfl
@[simp] theorem modStream_budget (s : State) (i : Fin 8) (f : Stream → Stream) : (s.modStream i f).budget = s.budget := rfl
@[simp] theorem modStream_boostThreshold (s : State) (i : Fin 8) (f : Stream → Stream) : (s.modStream i f).boostThreshold = s.boostThreshold := rfl
@[simp] theorem modStream_level (s : State) (i : Fin 8) (f : Stream → Stream) : (s.modStream i f).level = s.level := rfl
@[simp] theorem modStream_overTimer (s : State) (i : Fin 8) (f : Stream → Stream) : (s.modStream i f).overTimer = s.overTimer := rfl
@[simp] theorem modStream_underTimer (s : State) (i : Fin 8) (f : Stream → Stream) : (s.modStream i f).underTimer = s.underTimer := rfl
@[simp] theorem modStream_boost (s : State) (i : Fin 8) (f : Stream → Stream) : (s.modStream i f).boost = s.boost := rfl
@[simp] theorem modStream_boostHold (s : State) (i : Fin 8) (f : Stream → Stream) : (s.modStream i f).boostHold = s.boostHold := rfl
@[simp] theorem modStream_pending (s : State) (i : Fin 8) (f : Stream → Stream) : (s.modStream i f).pending = s.pending := rfl

@[simp] theorem modOutput_mode (s : State) (o : Fin 4) (f : Output → Output) : (s.modOutput o f).mode = s.mode := rfl
@[simp] theorem modOutput_timeBase (s : State) (o : Fin 4) (f : Output → Output) : (s.modOutput o f).timeBase = s.timeBase := rfl
@[simp] theorem modOutput_initTimer (s : State) (o : Fin 4) (f : Output → Output) : (s.modOutput o f).initTimer = s.initTimer := rfl
@[simp] theorem modOutput_wakeWindow (s : State) (o : Fin 4) (f : Output → Output) : (s.modOutput o f).wakeWindow = s.wakeWindow := rfl
@[simp] theorem modOutput_reply (s : State) (o : Fin 4) (f : Output → Output) : (s.modOutput o f).reply = s.reply := rfl
@[simp] theorem modOutput_notices (s : State) (o : Fin 4) (f : Output → Output) : (s.modOutput o f).notices = s.notices := rfl
@[simp] theorem modOutput_mask (s : State) (o : Fin 4) (f : Output → Output) : (s.modOutput o f).mask = s.mask := rfl
@[simp] theorem modOutput_spiOut (s : State) (o : Fin 4) (f : Output → Output) : (s.modOutput o f).spiOut = s.spiOut := rfl
@[simp] theorem modOutput_segments (s : State) (o : Fin 4) (f : Output → Output) : (s.modOutput o f).segments = s.segments := rfl
@[simp] theorem modOutput_store (s : State) (o : Fin 4) (f : Output → Output) : (s.modOutput o f).store = s.store := rfl
@[simp] theorem modOutput_temperature (s : State) (o : Fin 4) (f : Output → Output) : (s.modOutput o f).temperature = s.temperature := rfl
@[simp] theorem modOutput_thermal (s : State) (o : Fin 4) (f : Output → Output) : (s.modOutput o f).thermal = s.thermal := rfl
@[simp] theorem modOutput_thermalChanged (s : State) (o : Fin 4) (f : Output → Output) : (s.modOutput o f).thermalChanged = s.thermalChanged := rfl
@[simp] theorem modOutput_initResult (s : State) (o : Fin 4) (f : Output → Output) : (s.modOutput o f).initResult = s.initResult := rfl
@[simp] theorem modOutput_storeTesting (s : State) (o : Fin 4) (f : Output → Output) : (s.modOutput o f).storeTesting = s.storeTesting := rfl
@[simp] theorem modOutput_streams (s : State) (o : Fin 4) (f : Output → Output) : (s.modOutput o f).streams = s.streams := rfl
@[simp] theorem modOutput_stray (s : State) (o : Fin 4) (f : Output → Output) : (s.modOutput o f).stray = s.stray := rfl
@[simp] theorem modOutput_links (s : State) (o : Fin 4) (f : Output → Output) : (s.modOutput o f).links = s.links := rfl
@[simp] theorem modOutput_aliases (s : State) (o : Fin 4) (f : Output → Output) : (s.modOutput o f).aliases = s.aliases := rfl
@[simp] theorem modOutput_channels (s : State) (o : Fin 4) (f : Output → Output) : (s.modOutput o f).channels = s.channels := rfl
@[simp] theorem modOutput_supply (s : State) (o : Fin 4) (f : Output → Output) : (s.modOutput o f).supply = s.supply := rfl
@[simp] theorem modOutput_budget (s : State) (o : Fin 4) (f : Output → Output) : (s.modOutput o f).budget = s.budget := rfl
@[simp] theorem modOutput_boostThreshold (s : State) (o : Fin 4) (f : Output → Output) : (s.modOutput o f).boostThreshold = s.boostThreshold := rfl
@[simp] theorem modOutput_level (s : State) (o : Fin 4) (f : Output → Output) : (s.modOutput o f).level = s.level := rfl
@[simp] theorem modOutput_overTimer (s : State) (o : Fin 4) (f : Output → Output) : (s.modOutput o f).overTimer = s.overTimer := rfl
@[simp] theorem modOutput_underTimer (s : State) (o : Fin 4) (f : Output → Output) : (s.modOutput o f).underTimer = s.underTimer := rfl
@[simp] theorem modOutput_boost (s : State) (o : Fin 4) (f : Output → Output) : (s.modOutput o f).boost = s.boost := rfl
@[simp] theorem modOutput_boostHold (s : State) (o : Fin 4) (f : Output → Output) : (s.modOutput o f).boostHold = s.boostHold := rfl
@[simp] theorem modOutput_pending (s : State) (o : Fin 4) (f : Output → Output) : (s.modOutput o f).pending = s.pending := rfl

@[simp] theorem modLink_mode (s : State) (l : Fin 4) (f : Link → Link) : (s.modLink l f).mode = s.mode := rfl
@[simp] theorem modLink_timeBase (s : State) (l : Fin 4) (f : Link → Link) : (s.modLink l f).timeBase = s.timeBase := rfl
@[simp] theorem modLink_initTimer (s : State) (l : Fin 4) (f : Link → Link) : (s.modLink l f).initTimer = s.initTimer := rfl
@[simp] theorem modLink_wakeWindow (s : State) (l : Fin 4) (f : Link → Link) : (s.modLink l f).wakeWindow = s.wakeWindow := rfl
@[simp] theorem modLink_reply (s : State) (l : Fin 4) (f : Link → Link) : (s.modLink l f).reply = s.reply := rfl
@[simp] theorem modLink_notices (s : State) (l : Fin 4) (f : Link → Link) : (s.modLink l f).notices = s.notices := rfl
@[simp] theorem modLink_mask (s : State) (l : Fin 4) (f : Link → Link) : (s.modLink l f).mask = s.mask := rfl
@[simp] theorem modLink_spiOut (s : State) (l : Fin 4) (f : Link → Link) : (s.modLink l f).spiOut = s.spiOut := rfl
@[simp] theorem modLink_segments (s : State) (l : Fin 4) (f : Link → Link) : (s.modLink l f).segments = s.segments := rfl
@[simp] theorem modLink_store (s : State) (l : Fin 4) (f : Link → Link) : (s.modLink l f).store = s.store := rfl
@[simp] theorem modLink_temperature (s : State) (l : Fin 4) (f : Link → Link) : (s.modLink l f).temperature = s.temperature := rfl
@[simp] theorem modLink_thermal (s : State) (l : Fin 4) (f : Link → Link) : (s.modLink l f).thermal = s.thermal := rfl
@[simp] theorem modLink_thermalChanged (s : State) (l : Fin 4) (f : Link → Link) : (s.modLink l f).thermalChanged = s.thermalChanged := rfl
@[simp] theorem modLink_initResult (s : State) (l : Fin 4) (f : Link → Link) : (s.modLink l f).initResult = s.initResult := rfl
@[simp] theorem modLink_storeTesting (s : State) (l : Fin 4) (f : Link → Link) : (s.modLink l f).storeTesting = s.storeTesting := rfl
@[simp] theorem modLink_streams (s : State) (l : Fin 4) (f : Link → Link) : (s.modLink l f).streams = s.streams := rfl
@[simp] theorem modLink_stray (s : State) (l : Fin 4) (f : Link → Link) : (s.modLink l f).stray = s.stray := rfl
@[simp] theorem modLink_outputs (s : State) (l : Fin 4) (f : Link → Link) : (s.modLink l f).outputs = s.outputs := rfl
@[simp] theorem modLink_aliases (s : State) (l : Fin 4) (f : Link → Link) : (s.modLink l f).aliases = s.aliases := rfl
@[simp] theorem modLink_channels (s : State) (l : Fin 4) (f : Link → Link) : (s.modLink l f).channels = s.channels := rfl
@[simp] theorem modLink_supply (s : State) (l : Fin 4) (f : Link → Link) : (s.modLink l f).supply = s.supply := rfl
@[simp] theorem modLink_budget (s : State) (l : Fin 4) (f : Link → Link) : (s.modLink l f).budget = s.budget := rfl
@[simp] theorem modLink_boostThreshold (s : State) (l : Fin 4) (f : Link → Link) : (s.modLink l f).boostThreshold = s.boostThreshold := rfl
@[simp] theorem modLink_level (s : State) (l : Fin 4) (f : Link → Link) : (s.modLink l f).level = s.level := rfl
@[simp] theorem modLink_overTimer (s : State) (l : Fin 4) (f : Link → Link) : (s.modLink l f).overTimer = s.overTimer := rfl
@[simp] theorem modLink_underTimer (s : State) (l : Fin 4) (f : Link → Link) : (s.modLink l f).underTimer = s.underTimer := rfl
@[simp] theorem modLink_boost (s : State) (l : Fin 4) (f : Link → Link) : (s.modLink l f).boost = s.boost := rfl
@[simp] theorem modLink_boostHold (s : State) (l : Fin 4) (f : Link → Link) : (s.modLink l f).boostHold = s.boostHold := rfl
@[simp] theorem modLink_pending (s : State) (l : Fin 4) (f : Link → Link) : (s.modLink l f).pending = s.pending := rfl

@[simp] theorem modChannel_mode (s : State) (c : Fin 4) (f : Channel → Channel) : (s.modChannel c f).mode = s.mode := rfl
@[simp] theorem modChannel_timeBase (s : State) (c : Fin 4) (f : Channel → Channel) : (s.modChannel c f).timeBase = s.timeBase := rfl
@[simp] theorem modChannel_initTimer (s : State) (c : Fin 4) (f : Channel → Channel) : (s.modChannel c f).initTimer = s.initTimer := rfl
@[simp] theorem modChannel_wakeWindow (s : State) (c : Fin 4) (f : Channel → Channel) : (s.modChannel c f).wakeWindow = s.wakeWindow := rfl
@[simp] theorem modChannel_reply (s : State) (c : Fin 4) (f : Channel → Channel) : (s.modChannel c f).reply = s.reply := rfl
@[simp] theorem modChannel_notices (s : State) (c : Fin 4) (f : Channel → Channel) : (s.modChannel c f).notices = s.notices := rfl
@[simp] theorem modChannel_mask (s : State) (c : Fin 4) (f : Channel → Channel) : (s.modChannel c f).mask = s.mask := rfl
@[simp] theorem modChannel_spiOut (s : State) (c : Fin 4) (f : Channel → Channel) : (s.modChannel c f).spiOut = s.spiOut := rfl
@[simp] theorem modChannel_segments (s : State) (c : Fin 4) (f : Channel → Channel) : (s.modChannel c f).segments = s.segments := rfl
@[simp] theorem modChannel_store (s : State) (c : Fin 4) (f : Channel → Channel) : (s.modChannel c f).store = s.store := rfl
@[simp] theorem modChannel_temperature (s : State) (c : Fin 4) (f : Channel → Channel) : (s.modChannel c f).temperature = s.temperature := rfl
@[simp] theorem modChannel_thermal (s : State) (c : Fin 4) (f : Channel → Channel) : (s.modChannel c f).thermal = s.thermal := rfl
@[simp] theorem modChannel_thermalChanged (s : State) (c : Fin 4) (f : Channel → Channel) : (s.modChannel c f).thermalChanged = s.thermalChanged := rfl
@[simp] theorem modChannel_initResult (s : State) (c : Fin 4) (f : Channel → Channel) : (s.modChannel c f).initResult = s.initResult := rfl
@[simp] theorem modChannel_storeTesting (s : State) (c : Fin 4) (f : Channel → Channel) : (s.modChannel c f).storeTesting = s.storeTesting := rfl
@[simp] theorem modChannel_streams (s : State) (c : Fin 4) (f : Channel → Channel) : (s.modChannel c f).streams = s.streams := rfl
@[simp] theorem modChannel_stray (s : State) (c : Fin 4) (f : Channel → Channel) : (s.modChannel c f).stray = s.stray := rfl
@[simp] theorem modChannel_outputs (s : State) (c : Fin 4) (f : Channel → Channel) : (s.modChannel c f).outputs = s.outputs := rfl
@[simp] theorem modChannel_links (s : State) (c : Fin 4) (f : Channel → Channel) : (s.modChannel c f).links = s.links := rfl
@[simp] theorem modChannel_aliases (s : State) (c : Fin 4) (f : Channel → Channel) : (s.modChannel c f).aliases = s.aliases := rfl
@[simp] theorem modChannel_supply (s : State) (c : Fin 4) (f : Channel → Channel) : (s.modChannel c f).supply = s.supply := rfl
@[simp] theorem modChannel_budget (s : State) (c : Fin 4) (f : Channel → Channel) : (s.modChannel c f).budget = s.budget := rfl
@[simp] theorem modChannel_boostThreshold (s : State) (c : Fin 4) (f : Channel → Channel) : (s.modChannel c f).boostThreshold = s.boostThreshold := rfl
@[simp] theorem modChannel_level (s : State) (c : Fin 4) (f : Channel → Channel) : (s.modChannel c f).level = s.level := rfl
@[simp] theorem modChannel_overTimer (s : State) (c : Fin 4) (f : Channel → Channel) : (s.modChannel c f).overTimer = s.overTimer := rfl
@[simp] theorem modChannel_underTimer (s : State) (c : Fin 4) (f : Channel → Channel) : (s.modChannel c f).underTimer = s.underTimer := rfl
@[simp] theorem modChannel_boost (s : State) (c : Fin 4) (f : Channel → Channel) : (s.modChannel c f).boost = s.boost := rfl
@[simp] theorem modChannel_boostHold (s : State) (c : Fin 4) (f : Channel → Channel) : (s.modChannel c f).boostHold = s.boostHold := rfl
@[simp] theorem modChannel_pending (s : State) (c : Fin 4) (f : Channel → Channel) : (s.modChannel c f).pending = s.pending := rfl

@[simp] theorem answer_mode (s : State) (kind tag : Byte) (status : Status) (body : List Byte) : (s.answer kind tag status body).mode = s.mode := rfl
@[simp] theorem answer_timeBase (s : State) (kind tag : Byte) (status : Status) (body : List Byte) : (s.answer kind tag status body).timeBase = s.timeBase := rfl
@[simp] theorem answer_initTimer (s : State) (kind tag : Byte) (status : Status) (body : List Byte) : (s.answer kind tag status body).initTimer = s.initTimer := rfl
@[simp] theorem answer_wakeWindow (s : State) (kind tag : Byte) (status : Status) (body : List Byte) : (s.answer kind tag status body).wakeWindow = s.wakeWindow := rfl
@[simp] theorem answer_notices (s : State) (kind tag : Byte) (status : Status) (body : List Byte) : (s.answer kind tag status body).notices = s.notices := rfl
@[simp] theorem answer_mask (s : State) (kind tag : Byte) (status : Status) (body : List Byte) : (s.answer kind tag status body).mask = s.mask := rfl
@[simp] theorem answer_spiOut (s : State) (kind tag : Byte) (status : Status) (body : List Byte) : (s.answer kind tag status body).spiOut = s.spiOut := rfl
@[simp] theorem answer_segments (s : State) (kind tag : Byte) (status : Status) (body : List Byte) : (s.answer kind tag status body).segments = s.segments := rfl
@[simp] theorem answer_store (s : State) (kind tag : Byte) (status : Status) (body : List Byte) : (s.answer kind tag status body).store = s.store := rfl
@[simp] theorem answer_temperature (s : State) (kind tag : Byte) (status : Status) (body : List Byte) : (s.answer kind tag status body).temperature = s.temperature := rfl
@[simp] theorem answer_thermal (s : State) (kind tag : Byte) (status : Status) (body : List Byte) : (s.answer kind tag status body).thermal = s.thermal := rfl
@[simp] theorem answer_thermalChanged (s : State) (kind tag : Byte) (status : Status) (body : List Byte) : (s.answer kind tag status body).thermalChanged = s.thermalChanged := rfl
@[simp] theorem answer_initResult (s : State) (kind tag : Byte) (status : Status) (body : List Byte) : (s.answer kind tag status body).initResult = s.initResult := rfl
@[simp] theorem answer_storeTesting (s : State) (kind tag : Byte) (status : Status) (body : List Byte) : (s.answer kind tag status body).storeTesting = s.storeTesting := rfl
@[simp] theorem answer_streams (s : State) (kind tag : Byte) (status : Status) (body : List Byte) : (s.answer kind tag status body).streams = s.streams := rfl
@[simp] theorem answer_stray (s : State) (kind tag : Byte) (status : Status) (body : List Byte) : (s.answer kind tag status body).stray = s.stray := rfl
@[simp] theorem answer_outputs (s : State) (kind tag : Byte) (status : Status) (body : List Byte) : (s.answer kind tag status body).outputs = s.outputs := rfl
@[simp] theorem answer_links (s : State) (kind tag : Byte) (status : Status) (body : List Byte) : (s.answer kind tag status body).links = s.links := rfl
@[simp] theorem answer_aliases (s : State) (kind tag : Byte) (status : Status) (body : List Byte) : (s.answer kind tag status body).aliases = s.aliases := rfl
@[simp] theorem answer_channels (s : State) (kind tag : Byte) (status : Status) (body : List Byte) : (s.answer kind tag status body).channels = s.channels := rfl
@[simp] theorem answer_supply (s : State) (kind tag : Byte) (status : Status) (body : List Byte) : (s.answer kind tag status body).supply = s.supply := rfl
@[simp] theorem answer_budget (s : State) (kind tag : Byte) (status : Status) (body : List Byte) : (s.answer kind tag status body).budget = s.budget := rfl
@[simp] theorem answer_boostThreshold (s : State) (kind tag : Byte) (status : Status) (body : List Byte) : (s.answer kind tag status body).boostThreshold = s.boostThreshold := rfl
@[simp] theorem answer_level (s : State) (kind tag : Byte) (status : Status) (body : List Byte) : (s.answer kind tag status body).level = s.level := rfl
@[simp] theorem answer_overTimer (s : State) (kind tag : Byte) (status : Status) (body : List Byte) : (s.answer kind tag status body).overTimer = s.overTimer := rfl
@[simp] theorem answer_underTimer (s : State) (kind tag : Byte) (status : Status) (body : List Byte) : (s.answer kind tag status body).underTimer = s.underTimer := rfl
@[simp] theorem answer_boost (s : State) (kind tag : Byte) (status : Status) (body : List Byte) : (s.answer kind tag status body).boost = s.boost := rfl
@[simp] theorem answer_boostHold (s : State) (kind tag : Byte) (status : Status) (body : List Byte) : (s.answer kind tag status body).boostHold = s.boostHold := rfl
@[simp] theorem answer_pending (s : State) (kind tag : Byte) (status : Status) (body : List Byte) : (s.answer kind tag status body).pending = s.pending := rfl

@[simp] theorem answer_reply (s : State) (kind tag : Byte) (status : Status) (body : List Byte) :
    (s.answer kind tag status body).reply = some ⟨kind, tag, status, body⟩ := rfl

/-! ### Reading back -/

@[simp] theorem stream_setStream (s : State) (i : Fin 8) (r : Option Stream) : (s.setStream i r).stream i = r := by
  simp [State.stream, State.setStream]

theorem stream_setStream_ne (s : State) (i j : Fin 8) (r : Option Stream) (h : j ≠ i) :
    (s.setStream i r).stream j = s.stream j := Eight.get_set_ne _ _ _ _ h

@[simp] theorem output_setOutput (s : State) (o : Fin 4) (v : Output) : (s.setOutput o v).output o = v := by
  simp [State.output, State.setOutput]

theorem output_setOutput_ne (s : State) (o p : Fin 4) (v : Output) (h : p ≠ o) :
    (s.setOutput o v).output p = s.output p := Four.get_set_ne _ _ _ _ h

@[simp] theorem link_setLink (s : State) (l : Fin 4) (v : Link) : (s.setLink l v).link l = v := by
  simp [State.link, State.setLink]

theorem link_setLink_ne (s : State) (l m : Fin 4) (v : Link) (h : m ≠ l) : (s.setLink l v).link m = s.link m :=
  Four.get_set_ne _ _ _ _ h

@[simp] theorem channel_setChannel (s : State) (c : Fin 4) (v : Channel) : (s.setChannel c v).channel c = v := by
  simp [State.channel, State.setChannel]

theorem channel_setChannel_ne (s : State) (c d : Fin 4) (v : Channel) (h : d ≠ c) :
    (s.setChannel c v).channel d = s.channel d := Four.get_set_ne _ _ _ _ h

@[simp] theorem output_modOutput (s : State) (o : Fin 4) (f : Output → Output) :
    (s.modOutput o f).output o = f (s.output o) := output_setOutput _ _ _

@[simp] theorem link_modLink (s : State) (l : Fin 4) (f : Link → Link) : (s.modLink l f).link l = f (s.link l) :=
  link_setLink _ _ _

@[simp] theorem channel_modChannel (s : State) (c : Fin 4) (f : Channel → Channel) :
    (s.modChannel c f).channel c = f (s.channel c) := channel_setChannel _ _ _

theorem output_modOutput_ne (s : State) (o p : Fin 4) (f : Output → Output) (h : p ≠ o) :
    (s.modOutput o f).output p = s.output p := output_setOutput_ne _ _ _ _ h

theorem link_modLink_ne (s : State) (l m : Fin 4) (f : Link → Link) (h : m ≠ l) :
    (s.modLink l f).link m = s.link m := link_setLink_ne _ _ _ _ h

theorem channel_modChannel_ne (s : State) (c d : Fin 4) (f : Channel → Channel) (h : d ≠ c) :
    (s.modChannel c f).channel d = s.channel d := channel_setChannel_ne _ _ _ _ h

@[simp] theorem output_setStream (s : State) (i : Fin 8) (r : Option Stream) (o' : Fin 4) : (s.setStream i r).output o' = s.output o' := rfl
@[simp] theorem link_setStream (s : State) (i : Fin 8) (r : Option Stream) (l' : Fin 4) : (s.setStream i r).link l' = s.link l' := rfl
@[simp] theorem channel_setStream (s : State) (i : Fin 8) (r : Option Stream) (c' : Fin 4) : (s.setStream i r).channel c' = s.channel c' := rfl
@[simp] theorem stream_setOutput (s : State) (o : Fin 4) (v : Output) (i' : Fin 8) : (s.setOutput o v).stream i' = s.stream i' := rfl
@[simp] theorem link_setOutput (s : State) (o : Fin 4) (v : Output) (l' : Fin 4) : (s.setOutput o v).link l' = s.link l' := rfl
@[simp] theorem channel_setOutput (s : State) (o : Fin 4) (v : Output) (c' : Fin 4) : (s.setOutput o v).channel c' = s.channel c' := rfl
@[simp] theorem stream_setLink (s : State) (l : Fin 4) (v : Link) (i' : Fin 8) : (s.setLink l v).stream i' = s.stream i' := rfl
@[simp] theorem output_setLink (s : State) (l : Fin 4) (v : Link) (o' : Fin 4) : (s.setLink l v).output o' = s.output o' := rfl
@[simp] theorem channel_setLink (s : State) (l : Fin 4) (v : Link) (c' : Fin 4) : (s.setLink l v).channel c' = s.channel c' := rfl
@[simp] theorem stream_setChannel (s : State) (c : Fin 4) (v : Channel) (i' : Fin 8) : (s.setChannel c v).stream i' = s.stream i' := rfl
@[simp] theorem output_setChannel (s : State) (c : Fin 4) (v : Channel) (o' : Fin 4) : (s.setChannel c v).output o' = s.output o' := rfl
@[simp] theorem link_setChannel (s : State) (c : Fin 4) (v : Channel) (l' : Fin 4) : (s.setChannel c v).link l' = s.link l' := rfl
@[simp] theorem output_modStream (s : State) (i : Fin 8) (f : Stream → Stream) (o' : Fin 4) : (s.modStream i f).output o' = s.output o' := rfl
@[simp] theorem link_modStream (s : State) (i : Fin 8) (f : Stream → Stream) (l' : Fin 4) : (s.modStream i f).link l' = s.link l' := rfl
@[simp] theorem channel_modStream (s : State) (i : Fin 8) (f : Stream → Stream) (c' : Fin 4) : (s.modStream i f).channel c' = s.channel c' := rfl
@[simp] theorem stream_modOutput (s : State) (o : Fin 4) (f : Output → Output) (i' : Fin 8) : (s.modOutput o f).stream i' = s.stream i' := rfl
@[simp] theorem link_modOutput (s : State) (o : Fin 4) (f : Output → Output) (l' : Fin 4) : (s.modOutput o f).link l' = s.link l' := rfl
@[simp] theorem channel_modOutput (s : State) (o : Fin 4) (f : Output → Output) (c' : Fin 4) : (s.modOutput o f).channel c' = s.channel c' := rfl
@[simp] theorem stream_modLink (s : State) (l : Fin 4) (f : Link → Link) (i' : Fin 8) : (s.modLink l f).stream i' = s.stream i' := rfl
@[simp] theorem output_modLink (s : State) (l : Fin 4) (f : Link → Link) (o' : Fin 4) : (s.modLink l f).output o' = s.output o' := rfl
@[simp] theorem channel_modLink (s : State) (l : Fin 4) (f : Link → Link) (c' : Fin 4) : (s.modLink l f).channel c' = s.channel c' := rfl
@[simp] theorem stream_modChannel (s : State) (c : Fin 4) (f : Channel → Channel) (i' : Fin 8) : (s.modChannel c f).stream i' = s.stream i' := rfl
@[simp] theorem output_modChannel (s : State) (c : Fin 4) (f : Channel → Channel) (o' : Fin 4) : (s.modChannel c f).output o' = s.output o' := rfl
@[simp] theorem link_modChannel (s : State) (c : Fin 4) (f : Channel → Channel) (l' : Fin 4) : (s.modChannel c f).link l' = s.link l' := rfl
@[simp] theorem stream_answer (s : State) (kind tag : Byte) (status : Status) (body : List Byte) (i' : Fin 8) : (s.answer kind tag status body).stream i' = s.stream i' := rfl
@[simp] theorem output_answer (s : State) (kind tag : Byte) (status : Status) (body : List Byte) (o' : Fin 4) : (s.answer kind tag status body).output o' = s.output o' := rfl
@[simp] theorem link_answer (s : State) (kind tag : Byte) (status : Status) (body : List Byte) (l' : Fin 4) : (s.answer kind tag status body).link l' = s.link l' := rfl
@[simp] theorem channel_answer (s : State) (kind tag : Byte) (status : Status) (body : List Byte) (c' : Fin 4) : (s.answer kind tag status body).channel c' = s.channel c' := rfl

end Machine

end Sys2Proof
end

