-- ==== Sys2Proof/Laws/Store.lean ====
section
/-! SUPPORT. The frame store's contents: every operation on them keeps the canonical form, and what a write reads back. -/

namespace Sys2Proof.Machine

theorem storeWf_iff (m : List Host.Cell) :
    storeWf m = true ↔ m.Pairwise (fun a b => a.1 < b.1) ∧ ∀ c ∈ m, c.2 ≠ 0 := by
  induction m with
  | nil => simp [storeWf]
  | cons c rest ih =>
    obtain ⟨a, b⟩ := c
    simp only [storeWf, Bool.and_eq_true, bne_iff_ne, List.all_eq_true, decide_eq_true_eq, ih, List.pairwise_cons,
      List.forall_mem_cons]
    constructor
    · rintro ⟨⟨hb, ha⟩, hp, hz⟩
      exact ⟨⟨ha, hp⟩, hb, hz⟩
    · rintro ⟨⟨ha, hp⟩, hb, hz⟩
      exact ⟨⟨hb, ha⟩, hp, hz⟩

theorem cellsOf_bounds (bytes : List Byte) (a : Nat) :
    ∀ c ∈ cellsOf a bytes, a ≤ c.1 ∧ c.1 < a + bytes.length ∧ c.2 ≠ 0 := by
  induction bytes generalizing a with
  | nil => simp [cellsOf]
  | cons b rest ih =>
    intro c hc
    simp only [cellsOf] at hc
    split at hc
    · obtain ⟨h1, h2, h3⟩ := ih (a + 1) c hc
      simp only [List.length_cons]
      exact ⟨by omega, by omega, h3⟩
    · next hb =>
      rcases List.mem_cons.mp hc with rfl | hc
      · simp only [List.length_cons]
        exact ⟨le_refl _, by omega, hb⟩
      · obtain ⟨h1, h2, h3⟩ := ih (a + 1) c hc
        simp only [List.length_cons]
        exact ⟨by omega, by omega, h3⟩

theorem cellsOf_pairwise (bytes : List Byte) (a : Nat) : (cellsOf a bytes).Pairwise (fun x y => x.1 < y.1) := by
  induction bytes generalizing a with
  | nil => exact List.Pairwise.nil
  | cons b rest ih =>
    simp only [cellsOf]
    split
    · exact ih (a + 1)
    · exact List.Pairwise.cons (fun c hc => by have := cellsOf_bounds rest (a + 1) c hc; omega) (ih (a + 1))

/-- A write keeps the canonical form. -/
theorem storeWrite_wf (m : List Host.Cell) (a : Nat) (bytes : List Byte) (h : storeWf m = true) :
    storeWf (storeWrite m a bytes) = true := by
  obtain ⟨hp, hz⟩ := (storeWf_iff m).mp h
  refine (storeWf_iff _).mpr ⟨?_, ?_⟩
  · simp only [storeWrite, List.append_assoc, List.pairwise_append, List.mem_append]
    refine ⟨hp.filter _, ⟨cellsOf_pairwise bytes a, hp.filter _, ?_⟩, ?_⟩
    · intro x hx y hy
      have := cellsOf_bounds bytes a x hx
      have := (List.mem_filter.mp hy).2
      simp only [decide_eq_true_eq] at this
      omega
    · intro x hx y hy
      have hx := (List.mem_filter.mp hx).2
      simp only [decide_eq_true_eq] at hx
      rcases hy with hy | hy
      · have := cellsOf_bounds bytes a y hy
        omega
      · have := (List.mem_filter.mp hy).2
        simp only [decide_eq_true_eq] at this
        omega
  · intro c hc
    simp only [storeWrite, List.mem_append] at hc
    rcases hc with (hc | hc) | hc
    · exact hz c (List.mem_filter.mp hc).1
    · exact (cellsOf_bounds bytes a c hc).2.2
    · exact hz c (List.mem_filter.mp hc).1

theorem writeSlot_wf (segs : List Nat) (m : List Host.Cell) (offset : Nat) (bytes : List Byte) (h : storeWf m = true) :
    storeWf (writeSlot m segs offset bytes) = true := by
  induction segs generalizing m offset bytes with
  | nil => exact h
  | cons seg segs ih =>
    simp only [writeSlot]
    split
    · exact h
    · split
      · exact ih m _ _ h
      · exact ih _ _ _ (storeWrite_wf _ _ _ h)

theorem fillLines_wf (m : List Host.Cell) (segs : List Nat) (lineBytes first count : Nat) (h : storeWf m = true) :
    storeWf (fillLines m segs lineBytes first count) = true := writeSlot_wf segs m _ _ h

theorem keepSegments_wf (m : List Host.Cell) (keep : Nat → Bool) (h : storeWf m = true) :
    storeWf (keepSegments m keep) = true := by
  obtain ⟨hp, hz⟩ := (storeWf_iff m).mp h
  exact (storeWf_iff _).mpr ⟨hp.filter _, fun c hc => hz c (List.mem_filter.mp hc).1⟩

/-! ### Reading back -/

theorem storeByte_of_none (m : List Host.Cell) (x : Nat) (h : ∀ c ∈ m, c.1 ≠ x) : storeByte m x = 0 := by
  induction m with
  | nil => rfl
  | cons c rest ih =>
    simp only [storeByte, if_neg (h c (List.mem_cons_self ..))]
    exact ih fun d hd => h d (List.mem_cons_of_mem _ hd)

theorem storeByte_append (m n : List Host.Cell) (x : Nat) :
    storeByte (m ++ n) x = if ∃ c ∈ m, c.1 = x then storeByte m x else storeByte n x := by
  induction m with
  | nil => simp
  | cons c rest ih =>
    by_cases hc : c.1 = x
    · simp [storeByte, hc]
    · simp only [List.cons_append, storeByte, ih, List.mem_cons, exists_eq_or_imp, hc, false_or, if_false]

theorem storeByte_filter (m : List Host.Cell) (p : Nat → Bool) (x : Nat) (h : p x = true) :
    storeByte (m.filter (fun c => p c.1)) x = storeByte m x := by
  induction m with
  | nil => rfl
  | cons c rest ih =>
    by_cases hc : c.1 = x
    · subst hc
      simp [h, storeByte]
    · simp only [List.filter_cons]
      split
      · simp only [storeByte, if_neg hc, ih]
      · simp only [storeByte, if_neg hc, ih]

theorem storeByte_cellsOf (bytes : List Byte) (a i : Nat) (h : i < bytes.length) :
    storeByte (cellsOf a bytes) (a + i) = bytes.getD i 0 := by
  induction bytes generalizing a i with
  | nil => exact absurd h (by simp)
  | cons b rest ih =>
    have ne (x : Nat) (hx : x ≤ a) : storeByte (cellsOf (a + 1) rest) x = 0 :=
      storeByte_of_none _ _ fun c hc => by have := cellsOf_bounds rest (a + 1) c hc; omega
    cases i with
    | zero =>
      simp only [cellsOf, Nat.add_zero, List.getD_cons_zero]
      split
      · next hb => rw [hb]; exact ne a (le_refl a)
      · simp [storeByte]
    | succ i =>
      have hi : i < rest.length := by simpa using h
      have hs := ih (a + 1) i hi
      rw [show a + 1 + i = a + (i + 1) by omega] at hs
      simp only [cellsOf, List.getD_cons_succ]
      split
      · exact hs
      · rw [storeByte, if_neg (by omega), hs]

/-- A written byte reads as written; every other byte is left alone. -/
theorem storeByte_storeWrite (m : List Host.Cell) (a x : Nat) (bytes : List Byte) :
    storeByte (storeWrite m a bytes) x =
      if a ≤ x ∧ x < a + bytes.length then bytes.getD (x - a) 0 else storeByte m x := by
  have low := storeByte_filter m (fun k => decide (k < a)) x
  have high := storeByte_filter m (fun k => decide (a + bytes.length ≤ k)) x
  have none_mem (p : Nat → Bool) (hp : p x = false) : storeByte (m.filter (fun c => p c.1)) x = 0 :=
    storeByte_of_none _ _ fun c hc hx => by
      have := (List.mem_filter.mp hc).2
      rw [hx, hp] at this
      exact absurd this (by simp)
  have cells_none (hx : ¬(a ≤ x ∧ x < a + bytes.length)) : ∀ c ∈ cellsOf a bytes, c.1 ≠ x := fun c hc e => by
    have := cellsOf_bounds bytes a c hc
    omega
  simp only [storeWrite, List.append_assoc, storeByte_append]
  split
  · next hc =>
    obtain ⟨c, hc, rfl⟩ := hc
    have hlt := (List.mem_filter.mp hc).2
    simp only [decide_eq_true_eq] at hlt
    rw [if_neg (by omega), low (by simpa using hlt)]
  · next hnot =>
    by_cases hx : a ≤ x ∧ x < a + bytes.length
    · rw [if_pos hx]
      have cell := storeByte_cellsOf bytes a (x - a) (by omega)
      rw [show a + (x - a) = x by omega] at cell
      split
      · exact cell
      · next hno =>
        rw [none_mem (fun k => decide (a + bytes.length ≤ k)) (by simp; omega), ← cell]
        exact (storeByte_of_none _ _ fun c hc e => hno ⟨c, hc, e⟩).symm
    · rw [if_neg hx, if_neg (fun ⟨c, hc, e⟩ => cells_none hx c hc e)]
      by_cases hl : x < a
      · rw [none_mem (fun k => decide (a + bytes.length ≤ k)) (by simp; omega), ← low (by simpa using hl)]
        exact (storeByte_of_none _ _ fun c hc e => hnot ⟨c, hc, e⟩).symm
      · exact high (by simp; omega)

end Sys2Proof.Machine
end

