-- ==== Sys2Proof/Laws/Ops.lean ====
section
/-! SUPPORT. What the shared operations can do, said once: posting, admission, remote transactions, leaving UP; and that
every command completes. -/

namespace Sys2Proof.Machine

/-! ### Commands -/

/-- Every command answers a next state. -/
theorem exec_next (i : Instr) (s : State) : ∃ t, exec i s = .next t := by
  cases i <;> exact ⟨_, rfl⟩

/-! ### Notices -/

/-- A posting changes the Notice Table alone. -/
theorem post_eq (s : State) (k : NoticeKind) (o : Nat) : ∃ ns, s.post k o = { s with notices := ns } := by
  unfold State.post
  split
  · exact ⟨s.notices, rfl⟩
  · exact ⟨_, rfl⟩

theorem noticeLt_trans {a b c : Notice} (h : noticeLt a b) (g : noticeLt b c) : noticeLt a c := by
  unfold noticeLt at *
  omega

theorem code_injective {a b : NoticeKind} (h : a.code = b.code) : a = b := by
  cases a <;> cases b <;> first | rfl | (simp [NoticeKind.code] at h)

theorem mem_raiseNotice (k : NoticeKind) (o : Nat) (ns : List Notice) :
    ∀ n ∈ raiseNotice k o ns, n ∈ ns ∨ (n.kind = k ∧ n.object = o ∧
      (n.count = 1 ∨ ∃ m ∈ ns, n.count = min 255 (m.count + 1))) := by
  induction ns with
  | nil => intro n hn; simp [raiseNotice] at hn; subst hn; simp
  | cons m rest ih =>
    intro n hn
    simp only [raiseNotice] at hn
    split at hn
    · next h =>
      rcases List.mem_cons.mp hn with rfl | hn
      · exact .inr ⟨h.1, h.2, .inr ⟨m, by simp, rfl⟩⟩
      · exact .inl (List.mem_cons_of_mem _ hn)
    · split at hn
      · rcases List.mem_cons.mp hn with rfl | hn
        · exact .inr ⟨rfl, rfl, .inl rfl⟩
        · exact .inl hn
      · rcases List.mem_cons.mp hn with rfl | hn
        · exact .inl (List.mem_cons_self ..)
        · rcases ih n hn with h | ⟨h1, h2, h3 | ⟨p, hp, h3⟩⟩
          · exact .inl (List.mem_cons_of_mem _ h)
          · exact .inr ⟨h1, h2, .inl h3⟩
          · exact .inr ⟨h1, h2, .inr ⟨p, List.mem_cons_of_mem _ hp, h3⟩⟩

theorem raiseNotice_pairwise (k : NoticeKind) (o : Nat) (ns : List Notice) (h : ns.Pairwise noticeLt) :
    (raiseNotice k o ns).Pairwise noticeLt := by
  induction ns with
  | nil => simp [raiseNotice]
  | cons m rest ih =>
    obtain ⟨hm, hr⟩ := List.pairwise_cons.mp h
    simp only [raiseNotice]
    split
    · exact List.pairwise_cons.mpr ⟨hm, hr⟩
    · next hne =>
      split
      · next hb =>
        have lt : noticeLt ⟨k, o, 1⟩ m := by
          simp only [NoticeKind.before, Bool.or_eq_true, Bool.and_eq_true, decide_eq_true_eq, beq_iff_eq] at hb
          exact hb
        refine List.pairwise_cons.mpr ⟨fun n hn => ?_, h⟩
        rcases List.mem_cons.mp hn with rfl | hn
        · exact lt
        · exact noticeLt_trans lt (hm n hn)
      · next hb =>
        refine List.pairwise_cons.mpr ⟨fun n hn => ?_, ih hr⟩
        rcases mem_raiseNotice k o rest n hn with hn | ⟨hk, ho, -⟩
        · exact hm n hn
        · simp only [NoticeKind.before, Bool.or_eq_true, Bool.and_eq_true, decide_eq_true_eq, beq_iff_eq] at hb
          rw [not_and_or] at hne
          have hcode : m.kind.code = k.code → m.kind = k := code_injective
          unfold noticeLt
          rw [hk, ho]
          rcases hne with hne | hne
          · have : m.kind.code ≠ k.code := fun e => hne (hcode e)
            omega
          · omega

/-- A posting keeps the form of the Notice Table. -/
theorem post_noticesOk (s : State) (k : NoticeKind) (o : Nat) (h : NoticesOk s) : NoticesOk (s.post k o) := by
  unfold State.post
  split
  · exact h
  · refine ⟨raiseNotice_pairwise k o s.notices h.1, fun n hn => ?_⟩
    rcases mem_raiseNotice k o s.notices n hn with hn | ⟨-, -, hc | ⟨m, hm, hc⟩⟩
    · exact h.2 n hn
    · omega
    · have := h.2 m hm
      omega

/-! ### Writing back what stands -/

theorem Four.set_get {α : Type} (v : Four α) (i : Fin 4) : v.set i (v.get i) = v := by
  fin_cases i <;> rfl

theorem Four.set_set {α : Type} (v : Four α) (i : Fin 4) (a b : α) : (v.set i a).set i b = v.set i b := by
  fin_cases i <;> rfl

theorem modLink_modLink (s : State) (l : Fin 4) (f g : Link → Link) :
    (s.modLink l f).modLink l g = s.modLink l (fun v => g (f v)) := by
  simp [State.modLink, State.setLink, State.link, Four.set_set]

theorem modChannel_modChannel (s : State) (c : Fin 4) (f g : Channel → Channel) :
    (s.modChannel c f).modChannel c g = s.modChannel c (fun v => g (f v)) := by
  simp [State.modChannel, State.setChannel, State.channel, Four.set_set]

theorem modLink_self (s : State) (l : Fin 4) (f : Link → Link) (h : f (s.link l) = s.link l) : s.modLink l f = s := by
  unfold State.modLink State.setLink
  rw [h]
  simp only [State.link, Four.set_get]

theorem modChannel_self (s : State) (c : Fin 4) (f : Channel → Channel) (h : f (s.channel c) = s.channel c) :
    s.modChannel c f = s := by
  unfold State.modChannel State.setChannel
  rw [h]
  simp only [State.channel, Four.set_get]

theorem modOutput_self (s : State) (o : Fin 4) (f : Output → Output) (h : f (s.output o) = s.output o) :
    s.modOutput o f = s := by
  unfold State.modOutput State.setOutput
  rw [h]
  simp only [State.output, Four.set_get]

/-! ### Admission -/

/-- An evaluation sets the tier it chooses and may post; it changes nothing else. -/
theorem evaluate_eq (s : State) (o : Fin 4) :
    ∃ ns, s.evaluate o = { s.modOutput o (fun v => { v with tier := s.tierNow o }) with notices := ns } := by
  unfold State.evaluate
  dsimp only
  split
  · next h =>
    refine ⟨s.notices, ?_⟩
    rw [modOutput_self s o _ (by rw [h])]
  · obtain ⟨ns, hns⟩ := post_eq (s.modOutput o (fun v => { v with tier := s.tierNow o })) .outputTier o.val
    exact ⟨ns, hns⟩

/-! ### Remote transactions -/

/-- What the Remote Transaction Unit can change: on link l its list, toggle, result, error counters and what goes out on
the forward channel; on channel l the ration write record; and the Notice Table. -/
def RemoteOnly (l : Fin 4) (s t : State) : Prop :=
  ∃ fw aw nt rs pe se pb lb fl ns,
    t = { (s.modLink l (fun v => { v with
        forward := fw, awaiting := aw, nextToggle := nt, result := rs, postedErrors := pe, seqErrors := se })).modChannel l
      (fun c => { c with pendingByte := pb, lastByte := lb, failedWrites := fl }) with notices := ns }

theorem RemoteOnly.refl (l : Fin 4) (s : State) : RemoteOnly l s s := by
  refine ⟨(s.link l).forward, (s.link l).awaiting, (s.link l).nextToggle, (s.link l).result, (s.link l).postedErrors,
    (s.link l).seqErrors, (s.channel l).pendingByte, (s.channel l).lastByte, (s.channel l).failedWrites, s.notices, ?_⟩
  rw [modLink_self s l _ rfl, modChannel_self s l _ rfl]

theorem RemoteOnly.trans {l : Fin 4} {s t u : State} (h : RemoteOnly l s t) (g : RemoteOnly l t u) :
    RemoteOnly l s u := by
  obtain ⟨fw, aw, nt, rs, pe, se, pb, lb, fl, ns, rfl⟩ := h
  obtain ⟨fw', aw', nt', rs', pe', se', pb', lb', fl', ns', rfl⟩ := g
  refine ⟨fw', aw', nt', rs', pe', se', pb', lb', fl', ns', ?_⟩
  simp [State.modLink, State.setLink, State.link, State.modChannel, State.setChannel, State.channel, Four.set_set]

theorem RemoteOnly.ofLink {l : Fin 4} {s : State} (f : Link → Link)
    (h : f (s.link l) = { s.link l with
      forward := (f (s.link l)).forward, awaiting := (f (s.link l)).awaiting, nextToggle := (f (s.link l)).nextToggle
      result := (f (s.link l)).result, postedErrors := (f (s.link l)).postedErrors
      seqErrors := (f (s.link l)).seqErrors }) : RemoteOnly l s (s.modLink l f) := by
  refine ⟨(f (s.link l)).forward, (f (s.link l)).awaiting, (f (s.link l)).nextToggle, (f (s.link l)).result,
    (f (s.link l)).postedErrors, (f (s.link l)).seqErrors, (s.channel l).pendingByte, (s.channel l).lastByte,
    (s.channel l).failedWrites, s.notices, ?_⟩
  rw [modChannel_self _ l _ rfl]
  unfold State.modLink
  rw [h]
  rfl

theorem RemoteOnly.ofChannel {l : Fin 4} {s : State} (f : Channel → Channel)
    (h : f (s.channel l) = { s.channel l with
      pendingByte := (f (s.channel l)).pendingByte, lastByte := (f (s.channel l)).lastByte
      failedWrites := (f (s.channel l)).failedWrites }) : RemoteOnly l s (s.modChannel l f) := by
  refine ⟨(s.link l).forward, (s.link l).awaiting, (s.link l).nextToggle, (s.link l).result, (s.link l).postedErrors,
    (s.link l).seqErrors, (f (s.channel l)).pendingByte, (f (s.channel l)).lastByte,
    (f (s.channel l)).failedWrites, s.notices, ?_⟩
  rw [modLink_self s l _ rfl]
  unfold State.modChannel
  rw [h]
  rfl

theorem RemoteOnly.ofPost (l : Fin 4) (s : State) (k : NoticeKind) (o : Nat) : RemoteOnly l s (s.post k o) := by
  obtain ⟨ns, hns⟩ := post_eq s k o
  rw [hns]
  obtain ⟨fw, aw, nt, rs, pe, se, pb, lb, fl, _, h⟩ := RemoteOnly.refl l s
  exact ⟨fw, aw, nt, rs, pe, se, pb, lb, fl, ns, congrArg (fun t : State => { t with notices := ns }) h⟩

theorem rationOutcome_only (s : State) (l : Fin 4) (ok : Bool) : RemoteOnly l s (s.rationOutcome l ok) := by
  unfold State.rationOutcome
  split
  · exact RemoteOnly.refl l s
  · exact RemoteOnly.ofChannel _ rfl

theorem sendRequest_only (s : State) (l : Fin 4) (r : RemoteRequest) (origin : Origin) (address offset : Byte) :
    RemoteOnly l s (s.sendRequest l r origin address offset) := RemoteOnly.ofLink _ rfl

theorem askRation_only (s : State) (l : Fin 4) : RemoteOnly l s (s.askRation l) := by
  unfold State.askRation
  dsimp only
  split
  · split
    · exact (RemoteOnly.ofChannel _ rfl).trans (rationOutcome_only _ l false)
    · split
      · exact (RemoteOnly.ofChannel _ rfl).trans (sendRequest_only ..)
      · exact RemoteOnly.refl l s
  · exact RemoteOnly.refl l s

theorem offerRoom_only (s : State) (l : Fin 4) : RemoteOnly l s (s.offerRoom l) := by
  unfold State.offerRoom
  split
  · exact askRation_only s l
  · exact RemoteOnly.refl l s

theorem deliver_only (s : State) (l : Fin 4) (e : Awaiting) (outcome : ResultStatus) (data : List Byte) :
    RemoteOnly l s (s.deliver l e outcome data) := by
  unfold State.deliver
  split
  · exact (RemoteOnly.ofLink _ rfl).trans (RemoteOnly.ofPost l _ _ _)
  · split
    · exact RemoteOnly.refl l s
    · exact RemoteOnly.ofLink _ rfl
  · exact rationOutcome_only s l _

theorem deliver_each_only (l : Fin 4) (es : List Awaiting) (s : State) :
    RemoteOnly l s (es.foldl (fun t e => t.deliver l e .linkDown []) s) := by
  induction es generalizing s with
  | nil => exact RemoteOnly.refl l s
  | cons e rest ih => exact (deliver_only s l e .linkDown []).trans (ih _)

theorem remoteLinkLoss_only (s : State) (l : Fin 4) : RemoteOnly l s (s.remoteLinkLoss l) :=
  (RemoteOnly.ofLink _ rfl).trans (deliver_each_only l _ _)

theorem takeResponse_only (s : State) (l : Fin 4) (r : Response) : RemoteOnly l s (s.takeResponse l r) := by
  unfold State.takeResponse
  split
  · exact RemoteOnly.ofLink _ rfl
  · exact (((RemoteOnly.ofLink _ rfl).trans (RemoteOnly.ofLink _ rfl)).trans (deliver_only ..)).trans
      (offerRoom_only _ l)

theorem watchdogExpired_only (s : State) (l : Fin 4) (toggle : Bool) : RemoteOnly l s (s.watchdogExpired l toggle) := by
  unfold State.watchdogExpired
  split
  · exact RemoteOnly.refl l s
  · exact ((RemoteOnly.ofLink _ rfl).trans (deliver_only ..)).trans (offerRoom_only _ l)

end Sys2Proof.Machine
end

