-- ==== Sys2Proof/Laws/PerInstr.lean ====
section
/-! SUPPORT. One family of statements about every command as syntax: a well-formed request row fits its frame. -/

namespace Sys2Proof.Laws.RequestRow

/-- The body of a request row. -/
def bodyOf : Instr → Option (List Byte)
  | .deviceReset _ _ => none
  | .storeTestDone _ _ => none
  | .initExpiry => none
  | .readTransaction _ _ => none
  | .badFrame _ _ => none
  | .unknownKind _ _ _ body => some body
  | .wake _ _ => none
  | .wakeWindowExpiry => none
  | .identify _ _ body => some body
  | .deviceStatus _ _ body => some body
  | .setModeRun _ _ body => some body
  | .setModeStandby _ _ body => some body
  | .setModeSleep _ _ body => some body
  | .softReset _ _ body => some body
  | .noticeFetch _ _ body => some body
  | .noticeMask _ _ body => some body
  | .streamOpen _ _ body => some body
  | .streamClose _ _ body => some body
  | .streamRearm _ _ body => some body
  | .streamStatus _ _ body => some body
  | .storeMap _ _ body => some body
  | .frameStart _ _ _ => none
  | .line _ _ _ _ _ _ => none
  | .frameEnd _ _ _ => none
  | .strayPacket _ _ => none
  | .frameTimeoutExpiry _ => none
  | .temperatureSample _ _ => none
  | .routeSet _ _ body => some body
  | .routeClear _ _ body => some body
  | .timingSet _ _ body => some body
  | .outputControlOn _ _ body => some body
  | .outputControlOff _ _ body => some body
  | .outputControlPause _ _ body => some body
  | .outputControlResume _ _ body => some body
  | .lockSet _ _ body => some body
  | .outputStatus _ _ body => some body
  | .verticalStart _ => none
  | .crcInject _ _ body => some body
  | .integrityClear _ _ body => some body
  | .integrityStatus _ _ body => some body
  | .linkPolicy _ _ body => some body
  | .linkControlEnable _ _ body => some body
  | .linkControlDisable _ _ body => some body
  | .linkControlRetrain _ _ body => some body
  | .linkStatus _ _ body => some body
  | .backchannelWaitExpiry _ => none
  | .halfDwellPoint _ => none
  | .dwellExpiry _ => none
  | .silenceTimerExpiry _ => none
  | .errorWindowExpiry _ => none
  | .retryTimerExpiry _ => none
  | .statusRecord _ _ _ => none
  | .screenStatus _ _ body => some body
  | .aliasSet _ _ body => some body
  | .aliasClear _ _ body => some body
  | .remoteWrite _ _ body => some body
  | .remoteRead _ _ body => some body
  | .remoteResult _ _ body => some body
  | .remoteWatchdogExpiry _ _ => none
  | .touchFetch _ _ body => some body
  | .powerPolicy _ _ body => some body
  | .powerControlOn _ _ body => some body
  | .powerControlOff _ _ body => some body
  | .powerControlClear _ _ body => some body
  | .powerBudget _ _ body => some body
  | .powerStatus _ _ body => some body
  | .currentSample _ _ _ _ => none
  | .undervoltageFault _ _ => none
  | .backdriveBegin _ _ => none
  | .backdriveEnd _ _ => none
  | .backdriveFault _ => none
  | .supplyGood _ => none
  | .dischargeExpiry _ => none
  | .coolDownExpiry _ => none
  | .activeTimerExpiry _ => none
  | .overBudgetTimerExpiry => none
  | .underBudgetTimerExpiry => none

/-- A well-formed request row carries a body that fits a request frame (R194). -/
def Statement (i : Instr) : Prop :=
  i.wellFormed = true → ∀ body, bodyOf i = some body → body.length ≤ 248

theorem ofNone {i : Instr} (h : bodyOf i = none) : Statement i :=
  fun _ _ hb => nomatch h.symm.trans hb

theorem ofSome {i : Instr} {b : List Byte} (h : bodyOf i = some b)
    (fits : i.wellFormed = true → fitsFrame b = true) : Statement i :=
  fun hw _ hb => Option.some.inj (h.symm.trans hb) ▸ of_decide_eq_true (fits hw)

/-- The first check of two holds. -/
theorem first {a b : Bool} (h : (a && b) = true) : a = true := (Bool.and_eq_true_iff.mp h).1

theorem deviceReset (caps : Four Cap) (reading : Int) : Statement (.deviceReset caps reading) :=
  ofNone rfl

theorem storeTestDone (dt : Nat) (failing : Word) : Statement (.storeTestDone dt failing) :=
  ofNone rfl

theorem initExpiry : Statement (.initExpiry) :=
  ofNone rfl

theorem readTransaction (dt clocked : Nat) : Statement (.readTransaction dt clocked) :=
  ofNone rfl

theorem badFrame (dt : Nat) (bytes : List Byte) : Statement (.badFrame dt bytes) :=
  ofNone rfl

theorem unknownKind (dt : Nat) (kind tag : Byte) (body : List Byte) : Statement (.unknownKind dt kind tag body) :=
  ofSome rfl first

theorem wake (dt : Nat) (bytes : List Byte) : Statement (.wake dt bytes) :=
  ofNone rfl

theorem wakeWindowExpiry : Statement (.wakeWindowExpiry) :=
  ofNone rfl

theorem identify (dt : Nat) (tag : Byte) (body : List Byte) : Statement (.identify dt tag body) :=
  ofSome rfl id

theorem deviceStatus (dt : Nat) (tag : Byte) (body : List Byte) : Statement (.deviceStatus dt tag body) :=
  ofSome rfl id

theorem setModeRun (dt : Nat) (tag : Byte) (body : List Byte) : Statement (.setModeRun dt tag body) :=
  ofSome rfl first

theorem setModeStandby (dt : Nat) (tag : Byte) (body : List Byte) : Statement (.setModeStandby dt tag body) :=
  ofSome rfl first

theorem setModeSleep (dt : Nat) (tag : Byte) (body : List Byte) : Statement (.setModeSleep dt tag body) :=
  ofSome rfl first

theorem softReset (dt : Nat) (tag : Byte) (body : List Byte) : Statement (.softReset dt tag body) :=
  ofSome rfl id

theorem noticeFetch (dt : Nat) (tag : Byte) (body : List Byte) : Statement (.noticeFetch dt tag body) :=
  ofSome rfl id

theorem noticeMask (dt : Nat) (tag : Byte) (body : List Byte) : Statement (.noticeMask dt tag body) :=
  ofSome rfl id

theorem streamOpen (dt : Nat) (tag : Byte) (body : List Byte) : Statement (.streamOpen dt tag body) :=
  ofSome rfl id

theorem streamClose (dt : Nat) (tag : Byte) (body : List Byte) : Statement (.streamClose dt tag body) :=
  ofSome rfl id

theorem streamRearm (dt : Nat) (tag : Byte) (body : List Byte) : Statement (.streamRearm dt tag body) :=
  ofSome rfl id

theorem streamStatus (dt : Nat) (tag : Byte) (body : List Byte) : Statement (.streamStatus dt tag body) :=
  ofSome rfl id

theorem storeMap (dt : Nat) (tag : Byte) (body : List Byte) : Statement (.storeMap dt tag body) :=
  ofSome rfl id

theorem frameStart (dt : Nat) (stream : Byte) (number : Half) : Statement (.frameStart dt stream number) :=
  ofNone rfl

theorem line (dt : Nat) (stream : Byte) (index count : Half) (pixels : List Byte) (crc : Half) : Statement (.line dt stream index count pixels crc) :=
  ofNone rfl

theorem frameEnd (dt : Nat) (stream : Byte) (count : Half) : Statement (.frameEnd dt stream count) :=
  ofNone rfl

theorem strayPacket (dt : Nat) (bytes : List Byte) : Statement (.strayPacket dt bytes) :=
  ofNone rfl

theorem frameTimeoutExpiry (stream : Fin 8) : Statement (.frameTimeoutExpiry stream) :=
  ofNone rfl

theorem temperatureSample (dt : Nat) (reading : Int) : Statement (.temperatureSample dt reading) :=
  ofNone rfl

theorem routeSet (dt : Nat) (tag : Byte) (body : List Byte) : Statement (.routeSet dt tag body) :=
  ofSome rfl id

theorem routeClear (dt : Nat) (tag : Byte) (body : List Byte) : Statement (.routeClear dt tag body) :=
  ofSome rfl id

theorem timingSet (dt : Nat) (tag : Byte) (body : List Byte) : Statement (.timingSet dt tag body) :=
  ofSome rfl id

theorem outputControlOn (dt : Nat) (tag : Byte) (body : List Byte) : Statement (.outputControlOn dt tag body) :=
  ofSome rfl first

theorem outputControlOff (dt : Nat) (tag : Byte) (body : List Byte) : Statement (.outputControlOff dt tag body) :=
  ofSome rfl first

theorem outputControlPause (dt : Nat) (tag : Byte) (body : List Byte) : Statement (.outputControlPause dt tag body) :=
  ofSome rfl first

theorem outputControlResume (dt : Nat) (tag : Byte) (body : List Byte) : Statement (.outputControlResume dt tag body) :=
  ofSome rfl first

theorem lockSet (dt : Nat) (tag : Byte) (body : List Byte) : Statement (.lockSet dt tag body) :=
  ofSome rfl id

theorem outputStatus (dt : Nat) (tag : Byte) (body : List Byte) : Statement (.outputStatus dt tag body) :=
  ofSome rfl id

theorem verticalStart (output : Fin 4) : Statement (.verticalStart output) :=
  ofNone rfl

theorem crcInject (dt : Nat) (tag : Byte) (body : List Byte) : Statement (.crcInject dt tag body) :=
  ofSome rfl id

theorem integrityClear (dt : Nat) (tag : Byte) (body : List Byte) : Statement (.integrityClear dt tag body) :=
  ofSome rfl id

theorem integrityStatus (dt : Nat) (tag : Byte) (body : List Byte) : Statement (.integrityStatus dt tag body) :=
  ofSome rfl id

theorem linkPolicy (dt : Nat) (tag : Byte) (body : List Byte) : Statement (.linkPolicy dt tag body) :=
  ofSome rfl id

theorem linkControlEnable (dt : Nat) (tag : Byte) (body : List Byte) : Statement (.linkControlEnable dt tag body) :=
  ofSome rfl first

theorem linkControlDisable (dt : Nat) (tag : Byte) (body : List Byte) : Statement (.linkControlDisable dt tag body) :=
  ofSome rfl first

theorem linkControlRetrain (dt : Nat) (tag : Byte) (body : List Byte) : Statement (.linkControlRetrain dt tag body) :=
  ofSome rfl first

theorem linkStatus (dt : Nat) (tag : Byte) (body : List Byte) : Statement (.linkStatus dt tag body) :=
  ofSome rfl id

theorem backchannelWaitExpiry (link : Fin 4) : Statement (.backchannelWaitExpiry link) :=
  ofNone rfl

theorem halfDwellPoint (link : Fin 4) : Statement (.halfDwellPoint link) :=
  ofNone rfl

theorem dwellExpiry (link : Fin 4) : Statement (.dwellExpiry link) :=
  ofNone rfl

theorem silenceTimerExpiry (link : Fin 4) : Statement (.silenceTimerExpiry link) :=
  ofNone rfl

theorem errorWindowExpiry (link : Fin 4) : Statement (.errorWindowExpiry link) :=
  ofNone rfl

theorem retryTimerExpiry (link : Fin 4) : Statement (.retryTimerExpiry link) :=
  ofNone rfl

theorem statusRecord (dt : Nat) (link : Fin 4) (bytes : List Byte) : Statement (.statusRecord dt link bytes) :=
  ofNone rfl

theorem screenStatus (dt : Nat) (tag : Byte) (body : List Byte) : Statement (.screenStatus dt tag body) :=
  ofSome rfl id

theorem aliasSet (dt : Nat) (tag : Byte) (body : List Byte) : Statement (.aliasSet dt tag body) :=
  ofSome rfl id

theorem aliasClear (dt : Nat) (tag : Byte) (body : List Byte) : Statement (.aliasClear dt tag body) :=
  ofSome rfl id

theorem remoteWrite (dt : Nat) (tag : Byte) (body : List Byte) : Statement (.remoteWrite dt tag body) :=
  ofSome rfl id

theorem remoteRead (dt : Nat) (tag : Byte) (body : List Byte) : Statement (.remoteRead dt tag body) :=
  ofSome rfl id

theorem remoteResult (dt : Nat) (tag : Byte) (body : List Byte) : Statement (.remoteResult dt tag body) :=
  ofSome rfl id

theorem remoteWatchdogExpiry (link : Fin 4) (toggle : Bool) : Statement (.remoteWatchdogExpiry link toggle) :=
  ofNone rfl

theorem touchFetch (dt : Nat) (tag : Byte) (body : List Byte) : Statement (.touchFetch dt tag body) :=
  ofSome rfl id

theorem powerPolicy (dt : Nat) (tag : Byte) (body : List Byte) : Statement (.powerPolicy dt tag body) :=
  ofSome rfl id

theorem powerControlOn (dt : Nat) (tag : Byte) (body : List Byte) : Statement (.powerControlOn dt tag body) :=
  ofSome rfl first

theorem powerControlOff (dt : Nat) (tag : Byte) (body : List Byte) : Statement (.powerControlOff dt tag body) :=
  ofSome rfl first

theorem powerControlClear (dt : Nat) (tag : Byte) (body : List Byte) : Statement (.powerControlClear dt tag body) :=
  ofSome rfl first

theorem powerBudget (dt : Nat) (tag : Byte) (body : List Byte) : Statement (.powerBudget dt tag body) :=
  ofSome rfl id

theorem powerStatus (dt : Nat) (tag : Byte) (body : List Byte) : Statement (.powerStatus dt tag body) :=
  ofSome rfl id

theorem currentSample (dt : Nat) (channel : Fin 4) (milliamps : Half) (supply : Supply) : Statement (.currentSample dt channel milliamps supply) :=
  ofNone rfl

theorem undervoltageFault (dt : Nat) (channel : Fin 4) : Statement (.undervoltageFault dt channel) :=
  ofNone rfl

theorem backdriveBegin (dt : Nat) (channel : Fin 4) : Statement (.backdriveBegin dt channel) :=
  ofNone rfl

theorem backdriveEnd (dt : Nat) (channel : Fin 4) : Statement (.backdriveEnd dt channel) :=
  ofNone rfl

theorem backdriveFault (channel : Fin 4) : Statement (.backdriveFault channel) :=
  ofNone rfl

theorem supplyGood (dt : Nat) : Statement (.supplyGood dt) :=
  ofNone rfl

theorem dischargeExpiry (channel : Fin 4) : Statement (.dischargeExpiry channel) :=
  ofNone rfl

theorem coolDownExpiry (channel : Fin 4) : Statement (.coolDownExpiry channel) :=
  ofNone rfl

theorem activeTimerExpiry (channel : Fin 4) : Statement (.activeTimerExpiry channel) :=
  ofNone rfl

theorem overBudgetTimerExpiry : Statement (.overBudgetTimerExpiry) :=
  ofNone rfl

theorem underBudgetTimerExpiry : Statement (.underBudgetTimerExpiry) :=
  ofNone rfl

end Sys2Proof.Laws.RequestRow
end

