-- ==== Sys2Proof/Laws/Requests.lean ====
section
/-! SUPPORT. How a request row runs, said once: exec of any request row is the request of its kind; outside SLEEP that is
the owner's answer to it. The provers cite these instead of unfolding the rows. -/

namespace Sys2Proof.Claims

open Sys2Proof.Machine

theorem elapse_mode (s : State) (dt : Nat) : (s.elapse dt).mode = s.mode := rfl

theorem arrived_mode (s : State) (dt : Nat) (body : List Byte) : (arrived s dt body).mode = s.mode := rfl

theorem arrived_eq (s : State) (dt : Nat) (body : List Byte) :
    { (s.elapse dt).driveZeros (body.length + 5) with wakeWindow := none } = arrived s dt body := rfl

/-- Every request row is the request of its kind. -/
theorem exec_request {i : Instr} {k : RequestKind} {dt : Nat} {tag : Byte} {body : List Byte}
    (h : requestOf i = some (k, dt, tag, body)) (s : State) :
    exec i s = .next ((s.elapse dt).request k tag body) := by
  cases i <;> simp only [requestOf, Option.some.injEq, Prod.mk.injEq, reduceCtorEq] at h <;>
    obtain ⟨rfl, rfl, rfl, rfl⟩ := h <;> rfl

theorem request_sleep {s : State} (k : RequestKind) (tag : Byte) (body : List Byte) (h : s.mode = .sleep) :
    s.request k tag body = (s.driveZeros (body.length + 5)).wakeBy k.code tag := by
  have : (s.driveZeros (body.length + 5)).mode = .sleep := h
  simp [State.request, this]

theorem request_awake {s : State} (dt : Nat) (k : RequestKind) (tag : Byte) (body : List Byte) (h : s.mode ≠ .sleep) :
    (s.elapse dt).request k tag body = (arrived s dt body).handle k tag body := by
  have : ((s.elapse dt).driveZeros (body.length + 5)).mode ≠ .sleep := h
  simp [State.request, this, arrived_eq]

/-- A request of the right length that the mode allows gets its owner's answer. -/
theorem handle_owner {u : State} {k : RequestKind} {body : List Byte} (tag : Byte)
    (hm : u.mode ≠ .init ∨ k = .identify) (hl : k.lengthOk body = true) :
    u.handle k tag body =
      replied (handlerOf k body u).after k tag (handlerOf k body u).status (handlerOf k body u).body := by
  unfold State.handle
  rw [if_neg (by rintro ⟨h1, h2⟩; exact hm.elim (fun h => h h1) h2), if_neg (by simp [hl])]
  rfl

/-- The outcome of a request row in STANDBY or RUN whose body has the right length. -/
theorem exec_owner {i : Instr} {k : RequestKind} {dt : Nat} {tag : Byte} {body : List Byte} {s : State}
    (h : requestOf i = some (k, dt, tag, body)) (hs : Awake s) (hl : k.lengthOk body = true) :
    exec i s = .next (replied (handlerOf k body (arrived s dt body)).after k tag
      (handlerOf k body (arrived s dt body)).status (handlerOf k body (arrived s dt body)).body) := by
  have hsleep : s.mode ≠ .sleep := by rcases hs with h | h <;> simp [h]
  have hinit : (arrived s dt body).mode ≠ .init := by
    rw [arrived_mode]; rcases hs with h | h <;> simp [h]
  rw [exec_request h, request_awake dt k tag body hsleep, handle_owner tag (.inl hinit) hl]

end Sys2Proof.Claims
end

