-- ==== Sys2Proof/Laws/Scaler.lean ====
section
/-! SUPPORT. What the Scaler's lines come out as (section 3.6 of spec/03, rule R212 of spec/11): the length of blocks laid
end to end, and the bits of a packed bit string. -/
namespace Sys2Proof.Machine

/-- Blocks of one length laid end to end: `n` things for each. -/
theorem length_blocks {α β : Type} (f : α → List β) (n : Nat) (l : List α) (h : ∀ a, (f a).length = n) :
    (l.map f).flatten.length = l.length * n := by
  induction l with
  | nil => simp
  | cons a l ih => simp [ih, h, Nat.succ_mul, Nat.add_comm]

/-- The `c`-th thing of the `i`-th block. -/
theorem getD_blocks {α β : Type} (f : α → List β) (n : Nat) (l : List α) (h : ∀ a, (f a).length = n) (d : β) (i c : Nat)
    (hi : i < l.length) (hc : c < n) : (l.map f).flatten.getD (i * n + c) d = (f l[i]).getD c d := by
  induction l generalizing i with
  | nil => simp at hi
  | cons a l ih =>
    cases i with
    | zero =>
      simp only [List.map_cons, List.flatten_cons, List.getElem_cons_zero, Nat.zero_mul, Nat.zero_add]
      exact List.getD_append _ _ _ _ (by rw [h]; exact hc)
    | succ i =>
      have hlt : i < l.length := by simpa using hi
      have := ih i hlt
      simp only [List.map_cons, List.flatten_cons, List.getElem_cons_succ]
      rw [List.getD_append_right _ _ _ _ (by rw [h, Nat.succ_mul]; omega), h, ← this]
      congr 1
      rw [Nat.succ_mul]
      omega

/-- One byte of a packed bit string: bit 7 − j of it is bit j of its eight. -/
theorem byteOf_fold_bit (g : Nat → Bool) (j : Nat) (hj : j < 8) :
    (byteOf ((List.range 8).foldl (fun n i => 2 * n + if g i then 1 else 0) 0)).getLsbD (7 - j) = g j := by
  have key : ∀ b0 b1 b2 b3 b4 b5 b6 b7 : Bool, ∀ k : Fin 8,
      (byteOf ([b0, b1, b2, b3, b4, b5, b6, b7].foldl (fun n b => 2 * n + if b then 1 else 0) 0)).getLsbD (7 - k.val) =
        [b0, b1, b2, b3, b4, b5, b6, b7].getD k.val false := by decide +kernel
  have := key (g 0) (g 1) (g 2) (g 3) (g 4) (g 5) (g 6) (g 7) ⟨j, hj⟩
  have e : List.range 8 = [0, 1, 2, 3, 4, 5, 6, 7] := rfl
  rw [e]
  simp only [List.foldl_cons, List.foldl_nil] at this ⊢
  rw [this]
  have : j = 0 ∨ j = 1 ∨ j = 2 ∨ j = 3 ∨ j = 4 ∨ j = 5 ∨ j = 6 ∨ j = 7 := by omega
  rcases this with h | h | h | h | h | h | h | h <;> subst h <;> rfl

theorem length_packBits (bits : List Bool) : (packBits bits).length = (bits.length + 7) / 8 := by simp [packBits]

/-- A packed bit string holds its bits in order, most significant first, and 0 bits after them. -/
theorem packBits_bit (bits : List Bool) (i : Nat) (h : i < 8 * (packBits bits).length) :
    (byteAt (packBits bits) (i / 8)).getLsbD (7 - i % 8) = bits.getD i false := by
  rw [length_packBits] at h
  have hk : i / 8 < (bits.length + 7) / 8 := by omega
  have : byteAt (packBits bits) (i / 8) =
      byteOf ((List.range 8).foldl (fun n j => 2 * n + bitAt bits (8 * (i / 8) + j)) 0) := by
    simp [byteAt, packBits, hk]
  rw [this]
  have := byteOf_fold_bit (fun j => bits.getD (8 * (i / 8) + j) false) (i % 8) (Nat.mod_lt _ (by omega))
  simp only [Nat.div_add_mod] at this
  exact this
end Sys2Proof.Machine
end

