-- ==== Sys2Proof/Tests/Slice0.lean ====
section
/-! SUPPORT. The model's own tests: what the well-formedness check refuses, one step on a small state, and for every
statement of Obligations.lean with hypotheses a state and operands that meet them, each clause at a boundary. -/

namespace Sys2Proof.Tests

open Sys2Proof.Machine Sys2Proof.Claims

/-! ### Small states -/

/-- STANDBY after INIT, RESET_DONE fetched. -/
def standby : State := { State.reset with mode := .standby, initTimer := none, storeTesting := false }

/-- The same in RUN. -/
def running : State := { standby with mode := .run }

/-- The same in SLEEP. -/
def asleep : State := { standby with mode := .sleep }

/-- What a command leaves; the state itself where it does not answer a next state. -/
def after (i : Instr) (s : State) : State :=
  match exec i s with
  | .next t => t
  | .fault _ => s
  | .refused _ => s

/-- The status of the reply a command leaves. -/
def statusOf (i : Instr) (s : State) : Option Status := (after i s).reply.map Reply.status

def video : StreamConfig := ⟨64, 64, .rgb888, .video, 2, .high, .dropDamaged, 100, 3, false⟩
def still : StreamConfig := ⟨64, 64, .rgb888, .still, 1, .low, .dropDamaged, 100, 3, true⟩
def screen : Timing := ⟨150000, 320, 32, 240, 4⟩
def fast : Timing := ⟨300000, 3840, 32, 2160, 4⟩
def frame (slot : Fin 4) (expected : Nat) : Incoming := ⟨slot, expected, false, 5⟩
def placed (i : Fin 8) : Route := { emptyRoute with source := some ⟨i, ⟨0, 0, 64, 64⟩, ⟨0, 0, 64, 64⟩⟩, allow18 := true }
def part (fallback : Option (Fin 8)) (action : FaultAction) : SafetyPart := ⟨fallback, 100, ⟨0, 0, 16, 16⟩, 2, action⟩
def safe (i : Fin 8) (fallback : Option (Fin 8)) (action : FaultAction) : Route :=
  { placed i with safety := some (part fallback action) }

/-- Stream 0 VIDEO with slot 0 READY as latest, stream 1 STILL and FIXED, stream 2 RECEIVING, stream 3 STILL and IDLE. -/
def streams : State :=
  let open0 := Stream.opened video
  let open1 := Stream.opened still
  { running with
    segments := [some ⟨0, 0⟩, some ⟨0, 1⟩, some ⟨1, 0⟩, some ⟨2, 0⟩, some ⟨2, 1⟩, some ⟨3, 0⟩] ++ List.replicate 26 none
    streams :=
      ⟨some { open0 with slots := [.ready 1, .empty], latest := some 0, published := 1, lastPublish := some 0 },
       some { open1 with slots := [.ready 1], latest := some 0, published := 1, state := .fixed },
       some { open0 with slots := [.filling, .ready 7], latest := some 1, published := 7, state := .receiving (frame 0 5) },
       some open1, none, none, none, none⟩ }

/-- Output 0 SCANNING a NORMAL route, 1 SCANNING a SAFETY route, 2 OFF with a timing, 3 OFF without one. -/
def outputs : State :=
  { streams with outputs :=
      ⟨{ Output.reset with state := .scanning, timing := some screen, route := placed 0, tier := .t24 },
       { Output.reset with state := .scanning, timing := some screen, route := safe 0 (some 1) .fallback, tier := .t24
                           context := some Context.new },
       { Output.reset with timing := some screen, tier := .t24 }, Output.reset⟩ }

def setOut (s : State) (o : Fin 4) (f : Output → Output) : State := s.modOutput o f
def setLink (s : State) (l : Fin 4) (f : Link → Link) : State := s.modLink l f
def setChannel (s : State) (c : Fin 4) (f : Channel → Channel) : State := s.modChannel c f

def searching (sum : Option Nat) (seen : Option Bool) : Search := ⟨[8, 6], [.half], 8000, some 4000, seen, sum⟩

/-- Links 0 to 3 UP, TRAINING with a candidate, FAILED and WAIT_POWER; channels 0 to 2 ACTIVE. -/
def links : State :=
  { outputs with
    channels := ⟨{ Channel.reset .ma400 with state := .active }, { Channel.reset .ma400 with state := .active },
      { Channel.reset .ma400 with state := .active }, Channel.reset .ma400⟩
    links := ⟨{ Link.reset with state := .up, errorWindow := some 100000, silence := some 5000 },
      { Link.reset with state := .training, search := some (searching none none), silence := some 5000 },
      { Link.reset with state := .failed, cause := .noBackchannel, retry := some 9 },
      { Link.reset with state := .waitPower, intent := true }⟩
    aliases := [⟨1, 0, 0x10, false⟩, ⟨2, 0, 0x11, true⟩, ⟨3, 1, 0x12, false⟩] }

def waiting (toggle : Bool) (request : RemoteRequest) (origin : Origin) : Awaiting := ⟨toggle, request, origin, 10000⟩

/-- Channels 0 to 3 ACTIVE, DETECT, DISCHARGE and FAULT. -/
def powered : State :=
  { running with channels := ⟨{ Channel.reset .ma400 with state := .active, activeTimer := some 7 },
      { Channel.reset .ma400 with state := .detect },
      { Channel.reset .ma400 with state := .discharge .detect, dischargeTimer := some 7 },
      { Channel.reset .ma400 with state := .fault, coolDown := some 7, intent := true }⟩ }

def action : RationAction := ⟨1, 2, 0xAA, 0xBB⟩

/-! ### What the well-formedness check refuses -/

/-- Every request row with one body. -/
def requestRows (body : List Byte) : List Instr :=
  [.identify 0 1 body, .deviceStatus 0 1 body, .setModeRun 0 1 body, .setModeStandby 0 1 body, .setModeSleep 0 1 body,
   .softReset 0 1 body, .noticeFetch 0 1 body, .noticeMask 0 1 body, .streamOpen 0 1 body, .streamClose 0 1 body] ++
  [.streamRearm 0 1 body, .streamStatus 0 1 body, .storeMap 0 1 body, .routeSet 0 1 body, .routeClear 0 1 body,
   .timingSet 0 1 body, .outputControlOn 0 1 body, .outputControlOff 0 1 body, .outputControlPause 0 1 body] ++
  [.outputControlResume 0 1 body, .lockSet 0 1 body, .outputStatus 0 1 body, .crcInject 0 1 body,
   .integrityClear 0 1 body, .integrityStatus 0 1 body, .linkPolicy 0 1 body, .linkControlEnable 0 1 body] ++
  [.linkControlDisable 0 1 body, .linkControlRetrain 0 1 body, .linkStatus 0 1 body, .screenStatus 0 1 body,
   .aliasSet 0 1 body, .aliasClear 0 1 body, .remoteWrite 0 1 body, .remoteRead 0 1 body, .remoteResult 0 1 body] ++
  [.touchFetch 0 1 body, .powerPolicy 0 1 body, .powerControlOn 0 1 body, .powerControlOff 0 1 body,
   .powerControlClear 0 1 body, .powerBudget 0 1 body, .powerStatus 0 1 body, .unknownKind 0 0x77 1 body]

theorem test_long_bodies_refused : (requestRows (List.replicate 249 9)).all (fun i => !i.wellFormed) = true := by
  decide +kernel

theorem test_longest_bodies_allowed : (requestRows (List.replicate 248 9)).all (fun i => i.wellFormed) = true := by
  decide +kernel

theorem test_other_rows_actions_refused :
    ([.setModeRun 0 1 [1], .setModeRun 0 1 [3], .setModeStandby 0 1 [2], .setModeSleep 0 1 [1],
      .outputControlOn 0 1 [0, 1], .outputControlOff 0 1 [0, 0], .outputControlPause 0 1 [0, 3],
      .outputControlResume 0 1 [0, 2], .linkControlEnable 0 1 [0, 1], .linkControlDisable 0 1 [0, 2],
      .linkControlRetrain 0 1 [0, 0], .powerControlOn 0 1 [0, 2], .powerControlOff 0 1 [0, 0],
      .powerControlClear 0 1 [0, 1]] : List Instr).all (fun i => !i.wellFormed) = true := by decide +kernel

theorem test_own_actions_allowed :
    ([.setModeRun 0 1 [2], .setModeStandby 0 1 [1], .setModeSleep 0 1 [3], .outputControlPause 0 1 [0, 2],
      .linkControlRetrain 0 1 [0, 2], .powerControlClear 0 1 [0, 2]] : List Instr).all (fun i => i.wellFormed) = true := by
  decide +kernel

theorem test_transactions_refused :
    ([.readTransaction 0 0, .badFrame 0 [], .badFrame 0 [0xA5, 1], .badFrame 0 (encodeRequest 1 9 []), .wake 0 [],
      .wake 0 [0xA5], .unknownKind 0 1 9 [], .strayPacket 0 [1, 0, 0, 0]] : List Instr).all
      (fun i => !i.wellFormed) = true := by decide +kernel

theorem test_transactions_allowed :
    ([.readTransaction 0 1, .badFrame 0 [0x5A], .wake 0 (encodeRequest 1 9 []), .unknownKind 0 7 9 [],
      .strayPacket 0 [4, 0, 0, 0]] : List Instr).all (fun i => i.wellFormed) = true := by decide +kernel

/-! ### One step -/

theorem test_reset_init_standby :
    (after .initExpiry State.reset).mode = .standby ∧ (after .initExpiry State.reset).attn = true := by decide +kernel

theorem test_table_words_spell_nothing : decodeTableWord 16 0x1234 = none ∧ State.reset.withFetchWord 16 7 = State.reset := by
  decide +kernel

theorem test_identify_in_init : statusOf (.identify 0 1 []) State.reset = some .ok ∧
    statusOf (.deviceStatus 0 1 []) State.reset = some .initializing := by decide +kernel

theorem test_bad_crc : (after (.badFrame 0 [0x5A, 1, 9, 0, 0]) standby).reply = some ⟨1, 9, .badFrame, []⟩ := by
  decide +kernel

theorem test_wake_is_not_carried_out : (after (.softReset 0 9 []) asleep).reply = some ⟨4, 9, .waking, []⟩ ∧
    (after (.softReset 0 9 []) asleep).wakeWindow = some 250000 := by decide +kernel

/-- The stills of 2.5.2: two slots of 1920 by 1080 RGB888 take two segments each. -/
theorem test_segment_need : segmentNeed 1920 1080 .rgb888 = 2 ∧ segmentNeed 3840 2160 .rgb565 = 4 ∧
    segmentNeed 64 64 .rgb565 = 1 := by decide +kernel

theorem test_frame_start_takes_the_empty_slot :
    ((after (.frameStart 0 0 4) streams).stream 0).map Stream.slots = some [.ready 1, .filling] := by decide +kernel

theorem test_frame_end_publishes :
    ((after (.frameEnd 0 2 64) (streams.modStream 2 (fun r => { r with
      state := .receiving (frame 0 64) }))).stream 2).map Stream.slots = some [.ready 8, .ready 7] := by decide +kernel

theorem test_line_of_another_size_is_a_fault :
    ((after (.line 0 2 5 1 [1, 2, 3] (crc16 [1, 2, 3])) streams).stream 2).map (fun r => (r.counts.lineErrors, r.lineLength))
      = some (1, true) := by decide +kernel

theorem test_first_start_is_live : ((after (.verticalStart 0) outputs).output 0).content = .live ∧
    ((after (.verticalStart 0) outputs).output 0).current = some ⟨0, 0⟩ := by decide +kernel

theorem test_stale_safety_shows_the_fallback : ((after (.verticalStart 1) (setOut outputs 1 (fun v => { v with
    context := some { Context.new with freshness := .stale 1 } }))).output 1).content = .fallback := by decide +kernel

theorem test_candidate_passes : ((after (.dwellExpiry 1) (setLink links 1 (fun v => { v with
    search := some (searching (some 0) (some true)) }))).link 1).state = .up := by decide +kernel

theorem test_silence_retrains : ((after (.silenceTimerExpiry 0) links).link 0).state = .retrain := by decide +kernel

theorem test_remote_read_awaits : ((after (.remoteRead 0 1 [1, 0x20, 4]) links).link 0).awaiting
    = [waiting false (.read 4) .host] := by decide +kernel

theorem test_attach_on_the_21st_sample : ((after (.currentSample 0 1 16 .good) (setChannel powered 1 (fun v => { v with
    attachRun := 20 }))).channel 1).state = .active := by decide +kernel

theorem test_short_circuit_at_once : ((after (.currentSample 0 0 801 .good) powered).channel 0).cause = .short := by
  decide +kernel

theorem test_discharge_then_detect : ((after (.dischargeExpiry 2) powered).channel 2).state = .detect := by decide +kernel

/-! ### The hypotheses of the statements are met -/

theorem test_meets_StepTakesTheFrontCommand :
    ({ standby with pending := [.initExpiry, .supplyGood 3] } : State).pending = .initExpiry :: [.supplyGood 3] ∧
    standby.pending = [] := by decide +kernel

theorem test_meets_EveryCommandCompletes : durationOf (.supplyGood 4294967296) = some 4294967296 ∧
    durationOf (.identify 0 1 []) = some 0 := by decide +kernel

theorem test_meets_RequestsAreAnswered :
    requestOf (.identify 5 9 [1]) = some (.identify, 5, 9, [1]) ∧ State.reset.mode ≠ .sleep := by decide +kernel

theorem test_meets_ControlPortRefusals :
    standby.mode ≠ .sleep ∧ writeBytes [0x5A] = true ∧ frameCheck [0x5A] = .bad 0 0 ∧
    RequestKind.ofCode? 0x07 = none ∧ requestOf (.deviceStatus 5 9 []) = some (.deviceStatus, 5, 9, []) ∧
    State.reset.mode = .init ∧ requestOf (.identify 5 9 [1]) = some (.identify, 5, 9, [1]) ∧
    RequestKind.lengthOk .identify [1] = false := by decide +kernel

theorem test_meets_FramingRoundTrip :
    (List.replicate 248 (7 : Byte)).length ≤ 248 ∧ frameCheck (encodeRequest 1 9 []) = .good 1 9 [] ∧
    frameCheck [0x5A, 1] = .bad 0 0 ∧ frameCheck [0x5A, 1, 9] = .bad 1 9 := by decide +kernel

theorem test_meets_RequestRowsAreTheirFrames :
    requestOf (.setModeRun 5 9 [2]) = some (.setMode, 5, 9, [2]) ∧ (List.replicate 248 (2 : Byte)).length ≤ 248 := by
  decide +kernel

theorem test_meets_ReadTransactionSendsTheReply :
    0 < 1 ∧ standby.reply = none ∧
    ({ standby with reply := some ⟨1, 9, .ok, [7]⟩ } : State).reply = some ⟨1, 9, .ok, [7]⟩ := by decide +kernel

/-- A Notice Table with two entries, one with its count at 255. -/
def noticed : State := { running with notices := [⟨.modeChanged, 0, 1⟩, ⟨.touch, 3, 255⟩] }

theorem noticed_ok : NoticesOk noticed := by
  unfold NoticesOk noticeLt
  decide +kernel

theorem test_meets_PostingRules :
    NoticesOk noticed ∧ noticed.mode ≠ .init ∧ noticed.masked .touch = false ∧ State.reset.mode = .init ∧
    ({ noticed with mask := 4 } : State).masked .modeChanged = true := ⟨noticed_ok, by decide +kernel⟩

theorem test_meets_FetchAndMask : Awake noticed ∧ NoticesOk noticed ∧ Awake standby ∧
    ([0xFF, 0xFF, 0xFF, 0xFF] : List Byte).length = 4 := ⟨.inr rfl, noticed_ok, .inl rfl, rfl⟩

theorem test_meets_IdentityAndStatus : State.reset.mode ≠ .sleep ∧ Awake standby := ⟨by decide +kernel, .inl rfl⟩

theorem test_meets_ResetAndInit :
    State.reset.mode = .init ∧ State.reset.storeTesting = true ∧ standby.mode ≠ .init ∧
    State.reset.initTimer = some 40000 ∧ State.reset.notices = [] ∧ State.reset.mask = 0 ∧ standby.initTimer = none := by
  decide +kernel

/-- An UP link with a ration write in flight. -/
def rationing : State := setLink links 0 (fun v => { v with awaiting := [waiting false (.write [0xAA]) .ration] })

theorem test_meets_SoftResetValues : Awake rationing ∧ (rationing.link 0).state = .up ∧ (rationing.link 1).state ≠ .up :=
  ⟨.inr rfl, by decide +kernel⟩

/-- Outputs 0 to 3 SCANNING, PAUSED, HOLD and SUSPENDED. -/
def states : State :=
  setOut (setOut (setOut outputs 1 (fun v => { v with state := .paused })) 2 (fun v => { v with state := .hold })) 3
    (fun v => { v with state := .suspended .paused, timing := some screen })

/-- An output that was SUSPENDED as PAUSED is PAUSED again, with count 0 and its first start behind it (R91). -/
theorem test_a_paused_output_resumes_paused :
    let t := after (.setModeRun 5 9 [2]) { states with mode := .standby }
    ((t.output 3).state, (t.output 3).starts, (t.output 3).unchanged, countOf t.notices .modeChanged 0) =
      (.paused, 1, 0, 1) := by decide +kernel

/-- No notice is pending in the small states. -/
theorem quiet_ok (s : State) (h : s.notices = []) : NoticesOk s := by simp [NoticesOk, h]

theorem test_meets_SetModeRunAndStandby :
    NoticesOk states ∧
    ((setOut states 3 (fun v => { v with state := .suspended .scanning })).output 3).state = .suspended .scanning ∧
    states.mode = .run ∧ standby.mode = .standby ∧
    requestOf (.setModeRun 5 9 [4]) = some (.setMode, 5, 9, [4]) ∧ Awake states ∧
    ({ states with mode := .standby } : State).mode = .standby ∧ (∀ o r, (standby.output o).state ≠ .suspended r) ∧
    ((states.output 0).state, (states.output 1).state, (states.output 2).state, (states.output 3).state) =
      (.scanning, .paused, .hold, .suspended .paused) := by
  refine ⟨quiet_ok _ rfl, by decide +kernel, by decide +kernel, by decide +kernel, by decide +kernel, .inr rfl, rfl,
    fun o r => ?_, by decide +kernel⟩
  fin_cases o <;> exact fun h => nomatch h

/-- Links with level 1 and channel 0 rationed by an action whose last byte sent was ENGAGE. -/
def rationed (a : RationAction) : State :=
  { setChannel rationing 0 (fun c => { c with
      policy := ⟨.auto, 400, .autoRecover, 3, some a⟩, rationed := true, lastByte := some .engage }) with level := 1 }

/-- Sleep entry fails the write in flight, and leaves the RESTORE pending (R146, R174). -/
theorem test_sleep_leaves_a_restore_pending :
    let t := after (.setModeSleep 5 9 [3]) (rationed ⟨1, 2, 0xAA, 0xBB⟩)
    ((t.channel 0).rationed, (t.channel 0).pendingByte, (t.channel 0).failedWrites, countOf t.notices .powerBudget 0,
      countOf t.notices .linkState 0, countOf t.notices .powerState 0) = (false, some .restore, 1, 1, 1, 1) := by
  decide +kernel

theorem test_meets_SleepEntry :
    Awake states ∧ Awake links ∧ Awake powered ∧ NoticesOk (rationed ⟨1, 2, 0xAA, 0xBB⟩) ∧
    (rationed ⟨1, 2, 0xAA, 0xBB⟩).mode ≠ .init ∧ (rationed ⟨1, 2, 0xAA, 0xBB⟩).level ≠ 0 ∧
    ((rationed ⟨1, 2, 0xAA, 0xBB⟩).channel 0).rationed = true ∧ (rationed ⟨1, 2, 0xAA, 0xBB⟩).masked .powerBudget = false ∧
    (rationed ⟨3, 2, 0xAA, 0xBB⟩).aliases.find? (fun x => x.aliasNo == 3) = some ⟨3, 1, 0x12, false⟩ ∧
    ((setChannel (rationed ⟨1, 2, 0xAA, 0xBB⟩) 0 (fun c => { c with lastByte := some .restore })).channel 0).lastByte
      = some .restore ∧ (links.channel 1).rationed = false ∧ (powered.channel 2).state ≠ .off ∧
    ({ standby with wakeWindow := some 250000 } : State).wakeWindow = some 250000 ∧ standby.wakeWindow = none ∧
    ((states.stream 1).map (fun r => (r.config.kind, r.config.retain, r.state))) = some (.still, true, .fixed) ∧
    states.segments.getD (8388608 / 4194304) none = some ⟨1, 0⟩ ∧ states.stream 7 = none ∧
    ((setOut states 0 (fun v => { v with lockOn := true })).output 0).lockOn = true ∧
    (links.link 0).state = .up ∧ (links.channel 3).state = .off ∧ (powered.channel 0).state ≠ .off :=
  ⟨.inr rfl, .inr rfl, .inr rfl, quiet_ok _ rfl, by decide +kernel⟩

/-- SLEEP with channel 0 willing in AUTO, 1 willing in FORCED, 2 latched and 3 unwilling; links 0 and 1 willing. -/
def sleeping : State :=
  { asleep with
    channels := ⟨{ Channel.reset .ma400 with intent := true },
      { Channel.reset .ma400 with intent := true, policy := ⟨.forced, 400, .latch, 0, none⟩ },
      { Channel.reset .ma400 with intent := true, latched := true }, Channel.reset .ma400⟩
    links := ⟨{ Link.reset with intent := true }, { Link.reset with intent := true }, Link.reset, Link.reset⟩ }

theorem sleeping_dark : DarkInSleep sleeping := by
  unfold DarkInSleep
  decide +kernel

/-- A wake posts POWER_STATE for every channel and LINK_STATE for every link that it moves, once each (R131, R174). -/
theorem test_wake_posts_each_change :
    let t := after (.wake 5 [0x5A]) sleeping
    (allFour.map (fun n => (countOf t.notices .powerState n.val, countOf t.notices .linkState n.val)), (t.link 1).state) =
      ([(1, 1), (1, 1), (1, 0), (0, 0)], .training) := by decide +kernel

theorem test_meets_WakeFromSleep :
    DarkInSleep sleeping ∧ sleeping.mode = .sleep ∧ sleeping.masked .modeChanged = false ∧
    requestOf (.softReset 5 9 [1, 2]) = some (.softReset, 5, 9, [1, 2]) ∧ RequestKind.ofCode? 0xFF = none ∧
    writeBytes [0x5A, 1] = true ∧ writeBytes [0x5A, 1, 9] = true ∧ sleeping.thermal ≠ .shutdown ∧
    sleeping.supply = .good ∧ ({ sleeping with thermal := .shutdown } : State).thermal = .shutdown ∧
    ({ sleeping with supply := .between } : State).supply ≠ .good := ⟨sleeping_dark, by decide +kernel⟩

/-- A STREAM_OPEN body. -/
def opens (i w h format kind count : Nat) : List Byte :=
  [byteOf i] ++ halfOf w ++ halfOf h ++ [byteOf format, byteOf kind, byteOf count, 0, 0, 0, 0, 0, 0]

theorem test_meets_StreamOpenRules :
    Awake streams ∧ (opens 7 3840 2160 1 0 4).length = 14 ∧
    statusOf (.streamOpen 0 1 (opens 8 64 64 0 1 1)) streams = some .badArg ∧
    statusOf (.streamOpen 0 1 (opens 7 62 64 0 1 1)) streams = some .badArg ∧
    statusOf (.streamOpen 0 1 (opens 7 64 2161 0 1 1)) streams = some .badArg ∧
    statusOf (.streamOpen 0 1 (opens 0 64 64 0 1 1)) streams = some .wrongState ∧
    statusOf (.streamOpen 0 1 (opens 7 64 64 0 1 1)) { streams with initResult := .storeFault } = some .storeFault ∧
    statusOf (.streamOpen 0 1 (opens 7 3840 2160 0 0 4)) { streams with segments := some ⟨0, 0⟩ :: streams.segments.drop 10 }
      = some .noRoom ∧
    statusOf (.streamOpen 0 1 (opens 7 3840 2160 1 0 4)) streams = some .ok := ⟨.inr rfl, by decide +kernel⟩

theorem test_meets_AllocationTakesLowestSegments :
    let m : List (Option SlotRef) := List.replicate 32 none
    4 ≤ 4 ∧ (∀ j, some ⟨2, j⟩ ∉ m) ∧ 4 * 8 ≤ (m.filter (fun e => e == none)).length ∧
    (allocate (some ⟨0, 0⟩ :: m) 2 2 1)[0]? = some (some ⟨0, 0⟩) ∧ m[3]? = some none ∧
    (allocate m 2 4 8)[31]? = some (some ⟨2, 3⟩) := by decide +kernel

theorem test_meets_StreamRequestRules :
    Awake outputs ∧ outputs.stream 4 = none ∧ outputs.named 0 = true ∧ outputs.named 2 = false ∧
    outputs.stream 2 ≠ none ∧ outputs.named 3 = false ∧ (outputs.stream 0).map (fun r => r.config.kind) = some .video ∧
    (outputs.stream 3).map (fun r => r.config.kind) = some .still ∧ outputs.refs ⟨3, 0⟩ = 0 ∧
    0 < (setOut outputs 0 (fun v => { v with current := some ⟨1, 0⟩ })).refs ⟨1, 0⟩ ∧
    (streams.stream 1).map Stream.state = some .fixed ∧ streams.named 1 = false :=
  ⟨.inr rfl, by decide +kernel⟩

theorem test_meets_PacketsThrownAway :
    asleep.mode = .sleep ∧ streams.mode ≠ .sleep ∧ readPacket [9, 0, 0, 0] = .stray ∧ readPacket [1, 0, 0] = .stray ∧
    readPacket [2, 0, 0, 0, 0, 0, 0] = .stray ∧ readPacket [1, 0, 4, 0] = .frameStart 0 4 ∧ streams.stream 7 = none ∧
    (streams.stream 0).map Stream.state = some .idle ∧ (streams.stream 1).map Stream.state = some .fixed := by
  decide +kernel

theorem test_meets_WriteSlotChoice :
    let r (slots : List Slot) (latest : Option (Fin 4)) : Stream :=
      { Stream.opened video with slots := slots, latest := latest }
    running.writeSlot? 0 (r [.ready 4, .empty, .empty, .ready 2] (some 0)) = some 1 ∧
    running.writeSlot? 0 (r [.ready 2, .ready 2, .ready 1, .ready 9] (some 2)) = some 0 ∧
    running.writeSlot? 0 (r [.ready 3] (some 0)) = none := by decide +kernel

theorem test_meets_FrameStartRules :
    streams.mode = .run ∧ ({ streams with mode := .standby } : State).mode ≠ .run ∧
    ((streams.elapse 5).stream 0).map Stream.state = some .idle ∧
    ((streams.elapse 5).stream 1).map Stream.state = some .fixed ∧
    ((streams.elapse 5).stream 2).map Stream.state = some (.receiving { frame 0 5 with timeout := 0 }) ∧
    ((streams.elapse 5).stream 3).map (fun r => r.config.kind) = some .still ∧
    (({ streams with thermal := .critical } : State).stream 0).map (fun r =>
      ({ streams with thermal := .critical } : State).decimates 0 r) = some true ∧
    (streams.stream 0).map (fun r => (streams.writeSlot? 0 r, r.phase)) = some (some 1, .accept) ∧
    ({ streams with outputs := Four.fill { Output.reset with current := some ⟨0, 1⟩ } } : State).writeSlot? 0
      { Stream.opened video with slots := [.ready 1, .ready 2], latest := some 0, phase := .skip } = none := by
  decide +kernel

theorem test_meets_LineRules :
    streams.mode ≠ .sleep ∧ ((streams.elapse 0).stream 2).map Stream.state = some (.receiving (frame 0 5)) ∧
    ((streams.elapse 0).stream 2).map (fun r => (r.config.height, r.config.width)) = some (64, 64) ∧
    statusOf (.line 0 2 4 64 [] 0) streams = none ∧
    (List.replicate 192 (0 : Byte)).length / 3 = 64 ∧ (List.replicate 192 (0 : Byte)).length % 3 = 0 ∧
    crc16 [1, 2, 3] ≠ 0 := by decide +kernel

theorem test_meets_FrameEndRules :
    streams.mode ≠ .sleep ∧ ((streams.elapse 5).stream 2).map Stream.state =
      some (.receiving { frame 0 5 with timeout := 0 }) ∧
    (((streams.elapse 5).post .streamTimeout 2).stream 2).isSome = true ∧
    (streams.stream 2).map Stream.state = some (.receiving (frame 0 5)) ∧
    (streams.stream 0).map Stream.state = some .idle := by decide +kernel

theorem test_meets_StoredBytesReadBack :
    storeWf [(0, 1), (4194303, 2)] = true ∧ [3, 7].Nodup ∧ 4194302 + 4 ≤ [3, 7].length * 4194304 ∧ (0 : Nat) < 3 ∧
    (0 + 43690) * 192 ≤ [3, 7].length * 4194304 := by decide +kernel

theorem test_meets_TemperatureRules :
    (∀ c, (powered.channel c).waiting = false) ∧ thermalAfter powered.thermal 84 = powered.thermal ∧
    thermalAfter powered.thermal 85 ≠ powered.thermal ∧ thermalAfter powered.thermal 124 ≠ .shutdown ∧
    thermalAfter powered.thermal 125 = .shutdown ∧ thermalAfter .shutdown 116 = .shutdown ∧
    thermalAfter .shutdown 115 ≠ .shutdown ∧ powered.supply = .good := by decide +kernel

/-- A FORCED channel that waits goes ACTIVE as the part cools out of SHUTDOWN. -/
theorem test_meets_TemperatureRules_waiting :
    let s : State := { setChannel running 1 (fun v => { v with waiting := true }) with thermal := .shutdown }
    (s.channel 1).waiting = true ∧ (s.channel 1).state = .off ∧ s.supply = .good ∧
    ((after (.temperatureSample 5 115) s).channel 1).state = .active ∧
    countOf (after (.temperatureSample 5 115) s).notices .powerState 1 = 1 := by decide +kernel

/-- SHUTDOWN takes an ACTIVE channel to FAULT and its UP link to WAIT_POWER, each with its notice (R111, R164). -/
theorem test_shutdown_faults_and_posts :
    let t := after (.temperatureSample 5 125) links
    ((t.channel 0).cause, (t.channel 0).coolDown, (t.link 0).state, countOf t.notices .powerState 0,
      countOf t.notices .linkState 0, countOf t.notices .thermal 0) = (.thermal, some 500000, .waitPower, 1, 1, 1) := by
  decide +kernel

/-- A ROUTE_SET body of class NORMAL: output, source, the window at the corner and a destination of 64 by 64. -/
def routes (o source w : Nat) : List Byte :=
  [byteOf o, byteOf source] ++ halfOf 0 ++ halfOf 0 ++ halfOf w ++ halfOf 64 ++ halfOf 0 ++ halfOf 0 ++ halfOf 64 ++
  halfOf 64 ++ [1, 2, 3, 1, 0, 0, 0]

theorem test_meets_RouteSetRules :
    Awake outputs ∧ RequestKind.lengthOk .routeSet (routes 0 0 64) = true ∧
    outputs.routeRefusal 0 (placed 0) = none ∧ outputs.routeRefusal 0 (safe 0 (some 1) .blank) = none ∧
    readRoute (routes 0 9 64) = none ∧ (readRoute (routes 0 0 16)).map (outputs.routeRefusal 0) = some none ∧
    (readRoute (routes 0 0 15)).map (outputs.routeRefusal 0) = some (some .badArg) ∧
    (readRoute (routes 0 4 64)).map (outputs.routeRefusal 0) = some (some .wrongState) ∧
    (readRoute (routes 0 0 64)).map (outputs.routeRefusal 3) = some (some .wrongState) ∧
    outputs.routeRefusal 0 { safe 0 (some 1) .blank with holdAfter := 1 } = some .wrongState ∧
    (setOut outputs 0 (fun v => { v with timing := some fast })).routeRefusal 0 (placed 0) = some .overBudget ∧
    (readRoute ((routes 0 0 64).set 24 1 ++ List.replicate 13 0)).map (fun r => r.safety.map (fun q =>
      (q.timeoutMs, q.threshold))) = some (some (100, 2)) ∧
    (outputs.output 2).state = .off ∧ (outputs.output 0).state ≠ .off ∧
    statusOf (.routeSet 0 1 (routes 2 0 64)) outputs = some .ok ∧
    statusOf (.routeSet 0 1 (routes 0 0 64)) outputs = some .accepted :=
  ⟨.inr rfl, by decide +kernel⟩

/-- A TIMING_SET body. -/
def timings (o : Nat) (t : Timing) : List Byte :=
  [byteOf o] ++ wordOf t.pclk ++ halfOf t.hActive ++ halfOf t.hBlank ++ halfOf t.vActive ++ halfOf t.vBlank

theorem test_meets_ClearAndTimingRules :
    Awake outputs ∧ (outputs.output 2).state = .off ∧ (outputs.output 0).state ≠ .off ∧ (timings 0 screen).length = 13 ∧
    statusOf (.timingSet 0 1 (timings 0 { screen with hBlank := 31 })) outputs = some .badArg ∧
    statusOf (.timingSet 0 1 (timings 0 screen)) (setOut outputs 0 (fun v => { v with
      route := { placed 0 with source := some ⟨0, ⟨0, 0, 64, 64⟩, ⟨257, 0, 64, 64⟩⟩ } })) = some .badArg ∧
    statusOf (.timingSet 0 1 (timings 0 fast)) outputs = some .overBudget ∧
    statusOf (.timingSet 0 1 (timings 2 screen)) outputs = some .ok ∧
    statusOf (.timingSet 0 1 (timings 0 screen)) outputs = some .accepted := ⟨.inr rfl, by decide +kernel⟩

/-- Output 0 LOCKED at 1 µs after the FRAME_STARTs of its stable source, with another timing and a route staged. -/
def locked : State :=
  { setOut links 0 (fun v => { v with
      lockOn := true, lock := .locked, stagedTiming := some { screen with pclk := 100000 }, stagedRoute := some (placed 1) })
    with streams := links.streams.map (Option.map (fun r => { r with
      stable := true, periods := List.replicate 4 16667, lastStart := some 0 })) }

/-- OFF applies what is staged, leaves the lock and posts ROUTE_APPLIED, OUTPUT_TIER and LOCK_STATE once each (R58, R80). -/
theorem test_off_applies_and_unlocks :
    let t := after (.outputControlOff 5 9 [0, 1]) (setOut locked 0 (fun v => { v with stagedTiming := some fast }))
    ((t.output 0).state, (t.output 0).timing, (t.output 0).lock, decide ((t.output 0).tier = .t24),
      [NoticeKind.routeApplied, .outputTier, .lockState].map (fun k => countOf t.notices k 0)) =
      (.off, some fast, .seeking, false, [1, 1, 1]) := by decide +kernel

theorem test_meets_OutputControlRules :
    NoticesOk locked ∧ (locked.output 0).lock = .locked ∧ (locked.output 0).state ≠ .off ∧
    (locked.output 0).stagedTiming ≠ none ∧ (locked.output 0).stagedRoute ≠ none ∧ locked.masked .lockState = false ∧
    Awake states ∧ requestOf (.outputControlOn 5 9 [4, 0]) = some (.outputControl, 5, 9, [4, 0]) ∧
    requestOf (.outputControlOn 5 9 [3, 4]) = some (.outputControl, 5, 9, [3, 4]) ∧
    ((outputs.elapse 5).output 3).state = .off ∧ ((outputs.elapse 5).output 3).timing = none ∧
    ((outputs.elapse 5).output 2).timing ≠ none ∧ ((outputs.elapse 5).output 2).lockOn = false ∧
    ((setOut outputs 2 (fun v => { v with lockOn := true })).output 2).lockOn = true ∧
    ((outputs.elapse 5).output 0).stagedTiming = none ∧ ((outputs.elapse 5).output 0).stagedRoute = none ∧
    ((outputs.elapse 5).output 1).route.safety ≠ none ∧ ((states.elapse 5).output 2).route.safety = none ∧
    ((states.elapse 5).output 2).state = .hold ∧ ((states.elapse 5).output 3).state = .suspended .paused ∧
    ((setOut states 0 (fun v => { v with state := .paused })).output 0).state = .paused ∧
    ([3, 1, 0xA0, 0x86, 1, 0] : List Byte).length = 6 ∧ (word [3, 1, 0xA0, 0x86, 1, 0] 2).toNat = 100000 ∧
    (word [3, 1, 0xA1, 0x86, 1, 0] 2).toNat = 100001 :=
  ⟨quiet_ok _ rfl, by decide +kernel, by decide +kernel, by decide +kernel, by decide +kernel, by decide +kernel, .inr rfl,
    by decide +kernel⟩

theorem test_meets_SelectionCases :
    (outputs.output 2).route.source = none ∧ (outputs.output 0).route.source ≠ none ∧
    (outputs.output 0).route.safety = none ∧ (outputs.output 1).route.safety = some (part (some 1) .fallback) ∧
    (outputs.output 1).context = some Context.new ∧ Context.new.freshness ≠ .fresh ∧
    outputs.latest? 1 = some (⟨1, 0⟩, 1) ∧ outputs.latest? 3 = none ∧
    ({ Context.new with blanked := true } : Context).blanked = true ∧
    ({ Context.new with freshness := .fresh } : Context).freshness = .fresh := by decide +kernel

/-- Output 0 of `links` under TALT, at an odd start, with its first half out. -/
def halves : State := setLink (setOut links 0 (fun v => { v with tier := .talt, starts := 1 })) 0 (fun v => { v with
  halfPending := true, txSeq := 4 })

/-- A frame of two lines of three pixels, at six bits, and a window of one pixel. -/
def small : TxFrame :=
  ⟨7, .second, 1, 2, ⟨150000, 3, 32, 3, 4⟩, .t18, { emptyRoute with background := ⟨255, 250, 2⟩ }, .background, none⟩

theorem test_meets_VerticalStartRules_sending :
    (links.link 0).state = .up ∧ (links.output 0).state = .scanning ∧ (links.output 0).tier = .t24 ∧
    (links.output 0).timing = some screen ∧ (links.output 0).context = none ∧ (links.link 3).state ≠ .up ∧
    (halves.output 0).tier = .talt ∧ (halves.link 0).halfPending = true ∧
    ((setLink halves 0 (fun v => { v with halfPending := false })).link 0).halfPending = false ∧
    ((setLink links 1 (fun v => { v with state := .up })).link 1).state = .up ∧
    (links.output 1).context = some Context.new ∧ (links.output 1).route.safety = some (part (some 1) .fallback) ∧
    running.windowBytes small ⟨2, 1, 1, 1⟩ = [63, 63, 1] ∧ (running.link 0).sending = none ∧
    ((setLink running 0 (fun v => { v with sending := some small })).link 0).sending = some small := by decide +kernel

/-- The last line of `small`: its 64-bit header and 54 bits of pixels, filled with two 0 bits (R212). -/
theorem test_a_line_at_six_bits :
    ((setLink running 0 (fun v => { v with sending := some small })).linesOnLink 0)[1]? =
      some ([0x12, 2, 2, 0, 3, 0] ++ halfBytes (crc16 [0x12, 2, 2, 0, 3, 0]) ++
        [0xFF, 0xF0, 0x7F, 0xFC, 0x1F, 0xFF, 0x04]) := by decide +kernel

/-- The first start of a link that has come up sends the configuration record and the frame header. -/
theorem test_a_start_sends_record_and_header : ((after (.verticalStart 0) links).link 0).forward =
    [withCrc16 [0x10, 24, 1, 0, 0, 0, 0, 0, 0, 0, 0, 0], withCrc16 [0x11, 1, 0, 0, 64, 1, 240, 0]] := by decide +kernel

theorem test_meets_VerticalStartRules :
    NoticesOk links ∧ (locked.output 0).stagedTiming ≠ none ∧ (locked.output 0).lockOn = true ∧
    ((after (.verticalStart 0) locked).output 0).lock = .seeking ∧
    countOf (after (.verticalStart 0) locked).notices .lockState 0 = 1 ∧
    countOf (after (.verticalStart 0) locked).notices .routeApplied 0 = 1 ∧
    (links.output 1).context = some Context.new ∧ ((after (.verticalStart 1) links).output 1).content = .live ∧
    (outputs.output 3).state.running = false ∧ (states.output 3).state.running = false ∧
    (links.output 0).state.running = true ∧ (links.link 0).state = .up ∧ (links.output 0).tier = .t24 ∧
    (links.output 0).timing ≠ none ∧ (halves.output 0).tier = .talt ∧ (halves.output 0).starts.toNat % 2 = 1 ∧
    (halves.link 0).halfPending = true ∧ (links.link 3).state ≠ .up ∧
    ((setOut links 0 (fun v => { v with stagedRoute := some (placed 1) })).output 0).stagedRoute ≠ none ∧
    ((setOut links 0 (fun v => { v with state := .hold })).output 0).state = .hold ∧
    ((setOut links 0 (fun v => { v with state := .paused })).output 0).state = .paused ∧
    ({ links with mode := .standby } : State).mode ≠ .run := by
  refine ⟨?_, by decide +kernel⟩
  unfold NoticesOk noticeLt
  decide +kernel

/-- A stale source comes back, and a start posts FRESH; a route without an image to fall back on posts FALLBACK_MISSING. -/
theorem test_a_start_posts_fresh_and_missing :
    let stale (s : State) : State := setOut s 1 (fun v => { v with
      context := some { Context.new with freshness := .stale 0 } })
    let s : State := { stale outputs with streams := outputs.streams.map (Option.map (fun r => { r with published := 2 })) }
    let t := setOut (stale outputs) 1 (fun v => { v with route := safe 0 (some 3) .fallback })
    countOf (after (.verticalStart 1) s).notices .fresh 1 = 1 ∧
    countOf (after (.verticalStart 1) t).notices .fallbackMissing 1 = 1 := by decide +kernel

theorem test_meets_FrameLockRules :
    locked.lockSource 0 = some (16667, 0) ∧ links.lockSource 0 = none ∧ (locked.output 0).lockOn = true ∧
    (links.output 0).lockOn = false ∧ (links.output 0).timing = some screen ∧ (links.output 3).timing = none ∧
    ({ Output.reset with lock := .free } : Output).lock = .free ∧ 0 < (⟨3, 7⟩ : Span).den ∧ 0 < screen.pclk ∧
    (0 : Nat) < 16667 ∧ 0 < screen.hTotal ∧ phaseLines 1 screen = 0 ∧ (1 : Int) ≤ phaseLines 2 screen ∧
    phaseLines (-2) screen ≤ -1 ∧
    ({ Output.reset with lock := .seeking, goodLocks := 6 } : Output).goodLocks < 7 ∧
    7 ≤ ({ Output.reset with lock := .seeking, goodLocks := 7 } : Output).goodLocks ∧ (1 : Int).natAbs ≤ 1 ∧
    1 < (-2 : Int).natAbs ∧ ({ Output.reset with lock := .locked } : Output).badLocks = 0 ∧
    1 ≤ ({ Output.reset with lock := .locked, badLocks := 1 } : Output).badLocks ∧ 4 < (-5 : Int).natAbs ∧
    (4 : Int).natAbs ≤ 4 := by decide +kernel

theorem test_meets_ScalerArithmetic :
    small.content = .background ∧ running.scalerSource small = none ∧ small.tier = .t18 ∧
    (outputs.scalerSource ⟨1, .whole, 0, 1, screen, .t24, safe 0 (some 1) .fallback, .fallback, some ⟨1, 0⟩⟩).map Prod.snd =
      some ⟨0, 0, 64, 64⟩ ∧ (outputs.stream 1).isSome = true ∧ (0 : Nat) < 1 ∧ (15 : Nat) < 16 ∧
    (256 : Nat) ≤ 256 ∧ (5 : Nat) + 16 ≤ 21 ∧ (4 : Nat) < 5 := by decide +kernel

theorem test_meets_TierIsTheFirstThatFits :
    0 < 2 * screen.hTotal ∧ chooseTier (some screen) true true .full = .t24 ∧
    chooseTier (some ⟨241700, 2560, 160, 1440, 41⟩) true true .full = .t18 ∧
    chooseTier (some ⟨241700, 2560, 160, 1440, 41⟩) true true .half = .talt ∧
    chooseTier (some ⟨241700, 2560, 160, 1440, 41⟩) false false .half = .blocked ∧ (links.link 0).state = .up := by
  decide +kernel

theorem test_meets_IntegrityRequestRules :
    Awake outputs ∧ (outputs.output 0).context = none ∧ (outputs.output 1).context = some Context.new ∧
    (outputs.output 1).route.safety = some (part (some 1) .fallback) ∧ (3 : Nat) < (4 : Byte).toNat :=
  ⟨.inr rfl, by decide +kernel⟩

def records : List CrcRecord := [⟨1, 7, false⟩, ⟨2, 8, true⟩, ⟨3, 9, false⟩, ⟨4, 10, false⟩]

theorem test_meets_IntegrityStepRules :
    (outputs.output 1).context = some Context.new ∧ (outputs.output 1).route.safety = some (part (some 1) .fallback) ∧
    (outputs.output 1).route.source.map Placement.stream = some 0 ∧
    (outputs.stream 0).map Stream.lastPublish = some (some 0) ∧ (outputs.stream 0).map Stream.latest = some (some 0) ∧
    Context.new.freshness = .waiting ∧ (outputs.timeBase - 0).toNat ≤ 100 * 1000 ∧
    100 * 1000 < (({ outputs with timeBase := 100001 } : State).timeBase - 0).toNat ∧
    (0 : Word).toNat + 2 ≤ (2 : Word).toNat ∧ Context.new.integrity ≠ .fault ∧
    (bump ({ Context.new with integrity := .fault, good := 6 } : Context).good).toNat < 8 ∧
    8 ≤ (bump ({ Context.new with integrity := .fault, good := 7 } : Context).good).toNat ∧
    (bump Context.new.bad).toNat < 2 ∧ 2 ≤ (bump ({ Context.new with bad := 1 } : Context).bad).toNat ∧
    Context.new.queue.length < 4 ∧ 4 ≤ ({ Context.new with queue := records } : Context).queue.length ∧
    (∀ q ∈ records, q.seq ≠ 5) ∧ records = [⟨1, 7, false⟩] ++ ⟨2, 8, true⟩ :: [⟨3, 9, false⟩, ⟨4, 10, false⟩] ∧
    (outputs.output 0).context = none := by decide +kernel

theorem test_meets_LinkPolicyAndStatusRules :
    Awake links ∧ ([3, 0, 15, 1, 16, 1, 8, 64, 0, 2] : List Byte).length = 10 ∧
    statusOf (.linkPolicy 0 1 [3, 0, 15, 1, 16, 1, 8, 64, 0, 2]) links = some .ok ∧
    statusOf (.linkPolicy 0 1 [3, 0, 16, 1, 16, 1, 8, 64, 0, 2]) links = some .badArg ∧
    statusOf (.linkPolicy 0 1 [4, 0, 15, 1, 16, 1, 8, 64, 0, 2]) links = some .badArg := ⟨.inr rfl, by decide +kernel⟩

/-- An UP link with a posted write and a host read awaiting. -/
def busy : State := setLink links 0 (fun v => { v with
  awaiting := [waiting false (.write [5]) .posted, waiting true (.read 2) .host] })

/-- DISABLE completes what awaits with LINK_DOWN and posts REMOTE_DONE and LINK_STATE once each (R110, R146). -/
theorem test_disable_completes_the_read :
    let t := after (.linkControlDisable 5 9 [0, 1]) busy
    ((t.link 0).result.status, (t.link 0).postedErrors, countOf t.notices .remoteDone 0, countOf t.notices .linkState 0) =
      (.linkDown, 1, 1, 1) := by decide +kernel

theorem test_meets_LinkControlRules :
    NoticesOk (busy.elapse 5) ∧ ((busy.elapse 5).link 0).state = .up ∧ (busy.link 0).awaiting ≠ [] ∧ Awake links ∧
    requestOf (.linkControlEnable 5 9 [4, 0]) = some (.linkControl, 5, 9, [4, 0]) ∧
    requestOf (.linkControlEnable 5 9 [0, 3]) = some (.linkControl, 5, 9, [0, 3]) ∧
    ((links.elapse 5).link 0).state = .up ∧ ((links.elapse 5).link 1).state = .training ∧
    ((links.elapse 5).link 2).state = .failed ∧ ((links.elapse 5).link 3).state = .waitPower ∧
    ((powered.elapse 5).link 0).state = .disabled ∧ (powered.channel 0).state = .active ∧
    ((powered.elapse 5).link 1).state = .disabled ∧ (powered.channel 1).state ≠ .active ∧
    ((setLink links 1 (fun v => { v with state := .retrain })).link 1).state = .retrain :=
  ⟨quiet_ok _ rfl, by decide +kernel, by decide +kernel, .inr rfl, by decide +kernel⟩

theorem test_meets_PassOrder : (0 : Nat) ≤ 0 ∧ (0 : Nat) ≤ 15 ∧ (15 : Nat) ≤ 15 ∧ (7 : Nat) ≤ 7 := by decide

theorem test_meets_LinkTimerRules :
    (links.link 0).backWait = none ∧ (links.link 0).search = none ∧ (links.link 3).silence = none ∧
    (links.link 1).errorWindow = none ∧ (links.link 0).retry = none ∧
    ((setLink links 1 (fun v => { v with backWait := some 50000, search := none })).link 1).backWait = some 50000 ∧
    (links.link 1).state = .training ∧ (links.link 1).search = some (searching none none) ∧
    (searching none none).halfDwell = some 4000 ∧ (searching none (some true)).seen = some true ∧
    (searching none (some false)).seen ≠ some true ∧ (searching none none).dwell = 8000 ∧
    (links.link 1).silence = some 5000 ∧ (links.link 0).silence = some 5000 ∧ (links.link 0).state = .up ∧
    (links.link 0).errorWindow = some 100000 ∧ (links.link 2).retry = some 9 ∧ (links.link 2).state = .failed ∧
    (searching none none).settings = 8 :: [6] ∧ ({ searching none none with settings := [] } : Search).rates = .half :: [] ∧
    ({ searching none none with settings := [], rates := [] } : Search).rates = [] ∧
    (links.channel 1).pendingByte = none ∧
    ((setChannel links 1 (fun c => { c with pendingByte := some .engage })).channel 1).pendingByte ≠ none := by
  decide +kernel

theorem test_meets_RetrainRules :
    NoticesOk busy ∧ busy.mode ≠ .init ∧ busy.masked .linkState = false ∧
    (links.link 0).policy.driveMin ≤ (links.link 0).policy.driveMax ∧ (links.link 0).searchPolicy.rate = .auto ∧
    (links.link 0).rate = .full ∧ (links.link 0).history = [] ∧
    ((setLink links 0 (fun v => { v with rate := .half })).link 0).rate ≠ .full ∧
    ((setLink links 0 (fun v => { v with history := [0, 0] })).link 0).history.length = 2 ∧
    ((setLink links 0 (fun v => { v with rate := .half, policy := { v.policy with rate := .fullOnly } })).link 0).rate
      ∉ ([.full] : List Rate) := ⟨quiet_ok _ rfl, by decide +kernel⟩

/-- A record of these bytes and their CRC-16. -/
def sealed (covered : List Byte) : List Byte := covered ++ halfBytes (crc16 covered)

/-- Five touch records, kind bits 3, 33 response bytes, a byte too many and a wrong CRC-16 each make a record bad; ignored
flag bits, a contact of 15 and 32 response bytes do not (R133, R211). -/
theorem test_bad_records :
    ((List.map readStatus [sealed ([0x50, 0, 0, 0, 0, 0] ++ List.replicate 35 0),
      sealed [0x10, 0, 0, 0, 0, 0, 0x30, 0, 0, 0, 0, 0, 0], sealed ([4, 0, 0, 0, 0, 0, 132] ++ List.replicate 33 0),
      sealed [0, 0, 0, 0, 0, 0, 0], [0, 0, 0, 0, 0, 0, 0, 0]]).map Option.isSome,
     (List.map readStatus [sealed [0x88, 0, 0, 0, 0, 0], sealed [0x10, 0, 0, 0, 0, 0, 0x2F, 0, 0, 0, 0, 0, 0],
      sealed ([4, 0, 0, 0, 0, 0, 128] ++ List.replicate 32 0)]).map Option.isSome) =
    (List.replicate 5 false, List.replicate 3 true) := by decide +kernel

theorem test_meets_StatusRecordFormat :
    let touch : TouchRecord := ⟨15, .up, 1, 2, 3⟩
    let r : StatusRecord := ⟨true, 255, ⟨1, 2, 3, 4⟩, some (5, 6), List.replicate 4 touch,
      some ⟨true, true, List.replicate 32 7⟩⟩
    r.errors < 256 ∧ r.touches.length ≤ 4 ∧ (∀ t ∈ r.touches, t.contact < 16) ∧
    (∀ x ∈ r.response, x.data.length ≤ 32) ∧ crc16 [1] ≠ 0 ∧ (List.replicate 7 (0 : Byte)).length < 8 := by decide +kernel

theorem test_meets_StatusRecordRules :
    (running.link 0).state = .disabled ∧ (links.link 0).state ≠ .disabled ∧ readStatus [] = none ∧
    readStatus ([1, 0, 0, 0, 0, 0] ++ halfBytes (crc16 [1, 0, 0, 0, 0, 0])) = some ⟨true, 0, ⟨0, 0, 0, 0⟩, none, [], none⟩ ∧
    (links.link 3).state = .waitPower ∧ (links.link 2).state = .failed ∧ (links.link 1).state = .training ∧
    ((setLink links 1 (fun v => { v with search := none })).link 1).search = none ∧
    (links.link 1).search = some (searching none none) ∧ (searching none none).sum = none ∧
    (searching (some 3) none).sum = some 3 ∧ 3 + 5 ≤ (links.link 1).searchPolicy.candidateThreshold ∧
    (links.link 1).searchPolicy.candidateThreshold < 3 + 6 ∧ (links.link 0).state = .up ∧
    (links.link 0).windowSum + 64 ≤ (links.link 0).searchPolicy.retrainThreshold ∧
    (links.link 0).searchPolicy.retrainThreshold < (links.link 0).windowSum + 65 := by decide +kernel

theorem test_meets_AliasRules :
    Awake links ∧ statusOf (.aliasSet 0 1 [127, 3, 0x77, 1]) links = some .ok ∧
    statusOf (.aliasSet 0 1 [128, 3, 0x77, 1]) links = some .badArg ∧
    statusOf (.aliasSet 0 1 [1, 3, 0x07, 1]) links = some .badArg ∧ (∃ x ∈ links.aliases, x.aliasNo = 3) ∧
    (∀ x ∈ links.aliases, x.aliasNo ≠ 4) ∧ links.aliases.length < 16 ∧
    statusOf (.aliasSet 0 1 [4, 0, 0x08, 0]) { links with aliases := List.replicate 16 ⟨9, 0, 9, false⟩ } = some .noRoom ∧
    statusOf (.aliasClear 0 1 [3]) links = some .ok ∧ statusOf (.aliasClear 0 1 [4]) links = some .badArg :=
  ⟨.inr rfl, by decide +kernel⟩

/-- A read of four bytes and a posted write on the forward channel, byte by byte (R212). -/
theorem test_requests_on_the_link :
    ((after (.remoteRead 0 1 [1, 0x20, 4]) links).link 0).forward = [sealed [0x20, 2, 0x10, 0x20, 4]] ∧
    ((after (.remoteWrite 0 1 [2, 0x21, 2, 7, 8]) links).link 0).forward = [sealed [0x20, 0, 0x11, 0x21, 2, 7, 8]] := by
  decide +kernel

theorem test_meets_RemoteRequestRules :
    Awake links ∧ (List.replicate 32 (1 : Byte)).length ≤ 32 ∧ (List.replicate 245 (1 : Byte)).length ≤ 245 ∧
    links.aliases.find? (fun x => x.aliasNo == 1) = some ⟨1, 0, 0x10, false⟩ ∧
    links.aliases.find? (fun x => x.aliasNo == 2) = some ⟨2, 0, 0x11, true⟩ ∧
    links.aliases.find? (fun x => x.aliasNo == 3) = some ⟨3, 1, 0x12, false⟩ ∧
    (∀ x ∈ links.aliases, x.aliasNo ≠ 4) ∧ (links.link 0).state = .up ∧ (links.link 1).state ≠ .up ∧
    (∀ x ∈ (links.link 0).awaiting, x.origin = .posted) ∧ (links.link 0).awaiting.length < 2 ∧
    (∃ x ∈ (rationing.link 0).awaiting, x.origin ≠ .posted) ∧ (32 : Nat) < (33 : Byte).toNat :=
  ⟨.inr rfl, by decide +kernel⟩

theorem test_meets_RemoteCompletionRules :
    Awake busy ∧ (∀ x ∈ (links.link 0).awaiting, x.toggle ≠ true) ∧
    (busy.link 0).awaiting = [waiting false (.write [5]) .posted] ++ waiting true (.read 2) .host :: [] ∧
    (∀ x ∈ [waiting false (.write [5]) .posted], x.toggle ≠ true) ∧ (links.link 0).awaiting = [] ∧
    (busy.link 0).awaiting = [waiting false (.write [5]) .posted, waiting true (.read 2) .host] ∧
    ([1, 2] : List Byte).length = 2 ∧ ([1] : List Byte).length ≠ 2 ∧
    (rationing.link 0).awaiting = [waiting false (.write [0xAA]) .ration] := ⟨.inr rfl, by decide +kernel⟩

/-- Sixteen touch records, a MOVE of contact 4 in the second place. -/
def touched : List TouchRecord := ⟨1, .down, 0, 0, 0⟩ :: ⟨4, .move, 0, 0, 0⟩ :: List.replicate 14 ⟨2, .down, 0, 0, 0⟩

theorem test_meets_TouchAndMirrorRules :
    Awake links ∧ (links.link 0).mirror = Four.fill 0 ∧ (links.link 0).mirror ≠ Four.fill 1 ∧
    (9 : Nat) < (⟨10, .down, 0, 0, 0⟩ : TouchRecord).contact ∧ (⟨9, .move, 0, 0, 0⟩ : TouchRecord).contact ≤ 9 ∧
    touched = [⟨1, .down, 0, 0, 0⟩] ++ ⟨4, .move, 0, 0, 0⟩ :: List.replicate 14 ⟨2, .down, 0, 0, 0⟩ ∧
    (∀ x ∈ List.replicate 14 (⟨2, .down, 0, 0, 0⟩ : TouchRecord), x.contact ≠ 4) ∧ 16 ≤ touched.length ∧
    touched.tail.length < 16 ∧ (∀ x ∈ touched, x.contact ≠ 9) ∧
    (∀ x ∈ List.replicate 16 (⟨2, .down, 0, 0, 0⟩ : TouchRecord), x.kind ≠ .move) := ⟨.inr rfl, by decide +kernel⟩

/-- Channel 0 of `links` with a ration write pending. -/
def pendingWrite (a : RationAction) : State := setChannel links 0 (fun c => { c with
  policy := ⟨.auto, 400, .autoRecover, 3, some a⟩, pendingByte := some .engage, rationed := true })

/-- The room that a response leaves goes to the pending ration write (R147). -/
theorem test_room_goes_to_the_ration_write :
    let s := setLink (pendingWrite action) 0 (fun v => { v with awaiting := [waiting true (.read 1) .host] })
    (((s.takeResponse 0 ⟨true, true, [9]⟩).link 0).awaiting.map Awaiting.origin,
      ((s.takeResponse 0 ⟨true, true, [9]⟩).channel 0).lastByte) = ([.ration], some .engage) := by decide +kernel

theorem test_meets_RationWriteRules :
    ((pendingWrite action).channel 0).pendingByte = some .engage ∧
    ((pendingWrite action).channel 0).policy.action = some action ∧
    (pendingWrite action).aliases.find? (fun x => x.aliasNo == 1) = some ⟨1, 0, 0x10, false⟩ ∧
    (pendingWrite ⟨3, 0, 1, 2⟩).aliases.find? (fun x => x.aliasNo == 3) = some ⟨3, 1, 0x12, false⟩ ∧
    (pendingWrite ⟨9, 0, 1, 2⟩).aliases.find? (fun x => x.aliasNo == 9) = none ∧ (links.link 0).state = .up ∧
    (links.link 0).awaiting = [] ∧ (links.link 1).state ≠ .up ∧ (links.channel 1).pendingByte = none ∧
    (pendingWrite action).inRationedSet 0 ≠ ((pendingWrite action).channel 0).rationed ∧
    ({ pendingWrite action with level := 1 } : State).inRationedSet 0 = ((pendingWrite action).channel 0).rationed := by
  decide +kernel

/-- Two channels with a ration action and priorities 1 and 3, over the budget at level 1. -/
def overBudget : State :=
  { powered with
    budget := 500, level := 1, overTimer := some 9, underTimer := some 9
    channels := ⟨{ Channel.reset .ma400 with state := .active, current := 501
                                             policy := ⟨.auto, 400, .autoRecover, 1, some action⟩ },
      { Channel.reset .ma400 with state := .active, policy := ⟨.auto, 400, .autoRecover, 3, some action⟩ },
      Channel.reset .ma400, Channel.reset .ma400⟩ }

/-- A POWER_POLICY body of mode, priority and ration alias. -/
def policies (c mode priority present aliasNo : Nat) : List Byte :=
  [byteOf c, byteOf mode] ++ halfOf 399 ++ [1, byteOf priority, byteOf present, byteOf aliasNo, 2, 0xAA, 0xBB]

/-- Fewer priorities than the level: the level falls to them, posts POWER_BUDGET and stops the over-budget timer (R169). -/
theorem test_policy_lowers_the_level :
    let t := after (.powerPolicy 0 1 (policies 0 0 1 0 0)) { overBudget with level := 2 }
    (t.level, t.overTimer, t.underTimer, countOf t.notices .powerBudget 0, (t.channel 1).pendingByte) =
      (1, none, some 5000000, 1, none) := by decide +kernel

theorem test_meets_PowerPolicyBudgetStatusRules :
    Awake powered ∧ overBudget.maxLevel < ({ overBudget with level := 3 } : State).level ∧ overBudget.level ≤ overBudget.maxLevel ∧
    (0 : Nat) < overBudget.maxLevel ∧
    ((setChannel powered 3 (fun v => { v with policy := ⟨.forced, 400, .latch, 0, none⟩ })).channel 3).policy.mode
      = .forced ∧
    (policies 3 1 3 1 127).length = 11 ∧ statusOf (.powerPolicy 0 1 (policies 3 1 3 1 127)) powered = some .ok ∧
    statusOf (.powerPolicy 0 1 (policies 3 1 3 1 128)) powered = some .badArg ∧
    statusOf (.powerPolicy 0 1 (policies 3 1 4 1 127)) powered = some .badArg ∧
    (powered.channel 1).state = .detect ∧ (powered.channel 1).policy.mode = .auto ∧ powered.supply = .good ∧
    ({ powered with supply := .low } : State).supply ≠ .good ∧ powered.thermal ≠ .shutdown ∧
    ((setChannel powered 1 (fun v => { v with state := .off, waiting := true, intent := true
                                              policy := ⟨.forced, 400, .latch, 0, none⟩ })).channel 1).waiting = true ∧
    ([0, 0, 0xC8, 0] : List Byte).length = 4 := ⟨.inr rfl, by decide +kernel⟩

theorem test_meets_PowerControlRules :
    Awake powered ∧ requestOf (.powerControlOn 5 9 [4, 0]) = some (.powerControl, 5, 9, [4, 0]) ∧
    requestOf (.powerControlOn 5 9 [3, 3]) = some (.powerControl, 5, 9, [3, 3]) ∧
    ((links.elapse 5).channel 3).state = .off ∧ links.thermal ≠ .shutdown ∧
    ({ links with thermal := .shutdown } : State).thermal = .shutdown ∧ (links.channel 3).policy.mode = .auto ∧
    ((setChannel links 3 (fun v => { v with policy := ⟨.forced, 400, .latch, 0, none⟩ })).channel 3).policy.mode = .forced ∧
    links.supply = .good ∧ ({ links with supply := .between } : State).supply ≠ .good ∧
    ((powered.elapse 5).channel 2).state = .discharge .detect ∧
    ((setChannel powered 2 (fun v => { v with state := .discharge .off })).channel 2).state = .discharge .off ∧
    ((powered.elapse 5).channel 0).state = .active ∧ ((powered.elapse 5).channel 1).state = .detect ∧
    ((powered.elapse 5).channel 3).state = .fault ∧ ((powered.elapse 5).channel 3).latched = false ∧
    ((setChannel powered 3 (fun v => { v with latched := true })).channel 3).latched = true := ⟨.inr rfl, by decide +kernel⟩

theorem test_meets_CurrentSampleRules :
    (∀ c, (powered.channel c).waiting = false) ∧ (powered.channel 3).state = .fault ∧ (powered.channel 1).state = .detect ∧
    (powered.channel 1).attachRun + 1 < 21 ∧
    21 ≤ ((setChannel powered 1 (fun v => { v with attachRun := 20 })).channel 1).attachRun + 1 ∧ 15 < (16 : Half).toNat ∧
    (powered.channel 0).state = .active ∧ 2 * (powered.channel 0).policy.limit < (801 : Half).toNat ∧
    (800 : Half).toNat ≤ 2 * (powered.channel 0).policy.limit ∧ (powered.channel 0).policy.limit < (401 : Half).toNat ∧
    3 ≤ ((setChannel powered 0 (fun v => { v with overRun := 2 })).channel 0).overRun + 1 ∧ (4 : Half).toNat < 5 ∧
    201 ≤ ((setChannel powered 0 (fun v => { v with removalRun := 200 })).channel 0).removalRun + 1 ∧
    (powered.channel 0).policy.mode = .auto := by decide +kernel

theorem test_meets_VoltageRules :
    (powered.channel 0).mainSwitch = true ∧ (powered.channel 1).detectPath = true ∧
    ((after (.backdriveBegin 5 0) powered).channel 0).mainSwitch = false ∧
    (powered.channel 2).dischargeElement = true ∧ (powered.channel 2).state = .discharge .detect ∧
    (powered.channel 2).dischargeTimer ≠ none ∧
    ((powered.elapse 5).channel 0).state = .active ∧ ((powered.elapse 5).channel 1).state ≠ .active ∧
    ((powered.elapse 5).channel 0).backdrive = false ∧
    ((setChannel powered 0 (fun v => { v with backdrive := true })).channel 0).backdrive = true ∧
    ((powered.elapse 5).channel 3).state = .fault ∧
    ((setChannel running 1 (fun v => { v with waiting := true })).channel 1).waiting = true ∧
    ((setChannel running 1 (fun v => { v with waiting := true })).channel 1).state = .off ∧
    running.thermal ≠ .shutdown ∧ ({ running with thermal := .shutdown } : State).thermal = .shutdown := by decide +kernel

theorem test_meets_PowerTimerRules :
    (powered.channel 0).dischargeTimer = none ∧ (powered.channel 0).coolDown = none ∧
    (powered.channel 1).activeTimer = none ∧ (powered.channel 2).dischargeTimer = some 7 ∧
    (powered.channel 2).state = .discharge .detect ∧ (powered.channel 2).policy.mode = .auto ∧ powered.thermal ≠ .shutdown ∧
    ((setChannel powered 2 (fun v => { v with state := .discharge .active })).channel 2).state = .discharge .active ∧
    ((setChannel powered 2 (fun v => { v with state := .discharge .off })).channel 2).state = .discharge .off ∧
    ((setChannel powered 3 (fun v => { v with dischargeTimer := some 7 })).channel 3).dischargeTimer = some 7 ∧
    (powered.channel 3).coolDown = some 7 ∧ (powered.channel 3).state = .fault ∧ powered.supply = .good ∧
    (powered.channel 3).backdrive = false ∧ (powered.channel 3).intent = true ∧ (powered.channel 0).activeTimer = some 7 ∧
    ({ powered with thermal := .shutdown } : State).thermal = .shutdown := by decide +kernel

theorem test_meets_BudgetRules :
    overBudget.maxLevel = 2 ∧ overBudget.budget < overBudget.total ∧ overBudget.level < overBudget.maxLevel ∧
    ({ overBudget with level := 2 } : State).maxLevel ≤ ({ overBudget with level := 2 } : State).level ∧
    ({ overBudget with level := 0 } : State).level + 1 < overBudget.maxLevel ∧
    ({ overBudget with budget := 557 } : State).total * 10 ≤ ({ overBudget with budget := 557 } : State).budget * 9 ∧
    ({ overBudget with budget := 556 } : State).budget * 9 < ({ overBudget with budget := 556 } : State).total * 10 ∧
    (0 : Nat) < ({ overBudget with level := 2 } : State).level - 1 ∧ overBudget.overTimer = some 9 ∧
    overBudget.underTimer = some 9 ∧ running.overTimer = none ∧ running.underTimer = none ∧ running.level = 0 ∧
    ({ overBudget with boostThreshold := 500 } : State).boostThreshold < overBudget.total ∧
    overBudget.boost = false ∧ overBudget.boostHold = none ∧
    (∀ c, (running.channel c).policy.action = none ∧ (running.channel c).rationed = false) := by decide +kernel

/-- A step from a state answers a next state that has a property. -/
theorem stepped (s t : State) (h : t = after (.supplyGood 0) { s with pending := [] }) (p : s.pending = [.supplyGood 0]) :
    step s = .next t := by
  subst h
  simp only [step, p]
  rfl

def queued (s : State) : State := { s with pending := [.supplyGood 0] }

theorem test_meets_StepKeepsTheTables :
    (∃ t, step (queued noticed) = .next t) ∧ StoreOk noticed ∧ NoticesOk noticed ∧ QueuesOk links ∧ LimitsOk links ∧
    MaskOk links ∧ ContextOk outputs := by
  refine ⟨⟨_, stepped _ _ rfl rfl⟩, ?_, noticed_ok, ?_, ?_, ?_, ?_⟩
  · unfold StoreOk; decide +kernel
  · unfold QueuesOk; decide +kernel
  · unfold LimitsOk; decide +kernel
  · unfold MaskOk; decide +kernel
  · unfold ContextOk; decide +kernel

theorem test_meets_StepKeepsLinksPowered :
    (∃ t, step (queued links) = .next t) ∧ LinkPowered links ∧ QuietWhenDown links := by
  refine ⟨⟨_, stepped _ _ rfl rfl⟩, ?_, ?_⟩
  · unfold LinkPowered; decide +kernel
  · unfold QuietWhenDown; decide +kernel

theorem test_meets_StepKeepsTiers : (∃ t, step (queued outputs) = .next t) ∧ TierOk outputs := by
  refine ⟨⟨_, stepped _ _ rfl rfl⟩, ?_⟩
  unfold TierOk; decide +kernel

/-- Output 0 shows slot 0 of stream 0. -/
def showing : State := setOut streams 0 (fun v => { v with
  state := .scanning, timing := some screen, route := placed 0, current := some ⟨0, 0⟩, content := .live })

theorem test_meets_StepKeepsCustody : (∃ t, step (queued showing) = .next t) ∧ CustodyOk showing := by
  have shown : (showing.output 0).current = some ⟨0, 0⟩ ∧ (showing.output 0).route.names 0 = true ∧
      ∀ o, o ≠ 0 → (showing.output o).current = none := by decide +kernel
  have filling : ∀ i : Fin 8, ((showing.stream i).all (fun r => match r.state with
      | .receiving f => r.slot f.slot == .filling
      | _ => true)) = true := by decide +kernel
  refine ⟨⟨_, stepped _ _ rfl rfl⟩, by decide +kernel, fun o ref h => ?_, fun i r f h g => ?_⟩
  · by_cases ho : o = 0
    · subst ho
      obtain rfl : (⟨0, 0⟩ : SlotRef) = ref := Option.some.inj (shown.1.symm.trans h)
      exact ⟨shown.2.1, _, 1, rfl, rfl⟩
    · exact absurd h (by simp [shown.2.2 o ho])
  · have := filling i
    simp only [h, Option.all_some, g, beq_iff_eq] at this
    exact this

theorem test_meets_StepKeepsModes :
    (∃ t, step (queued standby) = .next t) ∧ ModeTimersOk State.reset ∧ ModeTimersOk standby ∧ HeldOutsideRun standby ∧
    HeldOutsideRun running ∧ DarkInSleep sleeping := by
  refine ⟨⟨_, stepped _ _ rfl rfl⟩, ?_, ?_, ?_, .inl rfl, sleeping_dark⟩
  · unfold ModeTimersOk; decide +kernel
  · unfold ModeTimersOk; decide +kernel
  · unfold HeldOutsideRun; decide +kernel

theorem test_meets_ResetIsSafe : exec (.deviceReset (Four.fill .ma1000) 200) running =
    .next (running.deviceReset (Four.fill .ma1000) 200) := rfl

end Sys2Proof.Tests
end

section
/-! PROOF of TemperatureRules (O26). First what a link that changes state, a channel that enters ACTIVE or FAULT, and a
visit to each channel in turn can change; then the thermal table of R20; then the sample. -/

namespace Sys2Proof.Machine

/-! ### What a posting, an evaluation and time leave unchanged -/

@[simp] theorem post_channels (s : State) (k : NoticeKind) (o : Nat) : (s.post k o).channels = s.channels := by
  obtain ⟨_, h⟩ := post_eq s k o
  rw [h]

@[simp] theorem post_links (s : State) (k : NoticeKind) (o : Nat) : (s.post k o).links = s.links := by
  obtain ⟨_, h⟩ := post_eq s k o
  rw [h]

@[simp] theorem post_temperature (s : State) (k : NoticeKind) (o : Nat) : (s.post k o).temperature = s.temperature := by
  obtain ⟨_, h⟩ := post_eq s k o
  rw [h]

@[simp] theorem post_thermal (s : State) (k : NoticeKind) (o : Nat) : (s.post k o).thermal = s.thermal := by
  obtain ⟨_, h⟩ := post_eq s k o
  rw [h]

@[simp] theorem post_thermalChanged (s : State) (k : NoticeKind) (o : Nat) :
    (s.post k o).thermalChanged = s.thermalChanged := by
  obtain ⟨_, h⟩ := post_eq s k o
  rw [h]

@[simp] theorem post_store (s : State) (k : NoticeKind) (o : Nat) : (s.post k o).store = s.store := by
  obtain ⟨_, h⟩ := post_eq s k o
  rw [h]

@[simp] theorem channel_post (s : State) (k : NoticeKind) (o : Nat) (c : Fin 4) :
    (s.post k o).channel c = s.channel c := by
  simp [State.channel]

@[simp] theorem link_post (s : State) (k : NoticeKind) (o : Nat) (l : Fin 4) : (s.post k o).link l = s.link l := by
  simp [State.link]

@[simp] theorem link_evaluate (s : State) (o l : Fin 4) : (s.evaluate o).link l = s.link l := by
  obtain ⟨_, h⟩ := evaluate_eq s o
  rw [h]
  rfl

@[simp] theorem channel_elapse (s : State) (dt : Nat) (c : Fin 4) :
    (s.elapse dt).channel c = (s.channel c).elapse dt := by
  simp [State.channel, State.elapse]

@[simp] theorem link_elapse (s : State) (dt : Nat) (l : Fin 4) : (s.elapse dt).link l = (s.link l).elapse dt := by
  simp [State.link, State.elapse]

@[simp] theorem elapse_store (s : State) (dt : Nat) : (s.elapse dt).store = s.store := rfl
@[simp] theorem Channel.elapse_state (v : Channel) (dt : Nat) : (v.elapse dt).state = v.state := rfl
@[simp] theorem Channel.elapse_waiting (v : Channel) (dt : Nat) : (v.elapse dt).waiting = v.waiting := rfl
@[simp] theorem Link.elapse_state (v : Link) (dt : Nat) : (v.elapse dt).state = v.state := rfl

/-! ### What a link changes as it goes down -/

/-- What a change of link l can change: the link, the outputs (tier and awaited CRC records), the ration write record of
channel l, and the Notice Table. -/
def LinkOnly (l : Fin 4) (s t : State) : Prop :=
  ∃ w os pb lb fl ns, t = { s with
    links := s.links.set l w
    outputs := os
    channels := s.channels.set l { s.channel l with pendingByte := pb, lastByte := lb, failedWrites := fl }
    notices := ns }

theorem LinkOnly.trans {l : Fin 4} {s t u : State} (h : LinkOnly l s t) (g : LinkOnly l t u) : LinkOnly l s u := by
  obtain ⟨w, os, pb, lb, fl, ns, rfl⟩ := h
  obtain ⟨w', os', pb', lb', fl', ns', rfl⟩ := g
  exact ⟨w', os', pb', lb', fl', ns', by simp [State.channel, Four.set_set]⟩

theorem RemoteOnly.linkOnly {l : Fin 4} {s t : State} (h : RemoteOnly l s t) : LinkOnly l s t := by
  obtain ⟨fw, aw, nt, rs, pe, se, pb, lb, fl, ns, rfl⟩ := h
  exact ⟨_, s.outputs, pb, lb, fl, ns, rfl⟩

theorem LinkOnly.refl (l : Fin 4) (s : State) : LinkOnly l s s := (RemoteOnly.refl l s).linkOnly

theorem LinkOnly.ofPost (l : Fin 4) (s : State) (k : NoticeKind) (o : Nat) : LinkOnly l s (s.post k o) :=
  (RemoteOnly.ofPost l s k o).linkOnly

/-- Writing back the ration write record that stands. -/
theorem set_same_ration (s : State) (l : Fin 4) : s.channels.set l { s.channel l with
    pendingByte := (s.channel l).pendingByte, lastByte := (s.channel l).lastByte
    failedWrites := (s.channel l).failedWrites } = s.channels := Four.set_get _ _

theorem LinkOnly.ofLink (l : Fin 4) (s : State) (f : Link → Link) : LinkOnly l s (s.modLink l f) :=
  ⟨f (s.link l), s.outputs, _, _, _, s.notices, by rw [set_same_ration]; rfl⟩

theorem LinkOnly.ofOutput (l : Fin 4) (s : State) (o : Fin 4) (f : Output → Output) : LinkOnly l s (s.modOutput o f) :=
  ⟨s.link l, s.outputs.set o (f (s.output o)), _, _, _, s.notices, by
    rw [set_same_ration, State.link, Four.set_get]; rfl⟩

theorem LinkOnly.ofEvaluate (l : Fin 4) (s : State) (o : Fin 4) : LinkOnly l s (s.evaluate o) := by
  unfold State.evaluate
  dsimp only
  split
  · exact .refl l s
  · exact (LinkOnly.ofOutput l s o _).trans (.ofPost ..)

theorem leaveUp_only (s : State) (l : Fin 4) : LinkOnly l s (s.leaveUp l) :=
  (((LinkOnly.ofLink l s _).trans (remoteLinkLoss_only _ l).linkOnly).trans (.ofOutput ..)).trans (.ofLink ..)

theorem windDown_only (s : State) (l : Fin 4) : LinkOnly l s (s.windDown l) := by
  unfold State.windDown
  split
  · exact (leaveUp_only s l).trans (.ofLink ..)
  · exact .ofLink ..

theorem goDown_only (s : State) (l : Fin 4) (target : LinkState) : LinkOnly l s (s.goDown l target) :=
  (((windDown_only s l).trans (.ofLink ..)).trans (.ofPost ..)).trans (.ofEvaluate ..)

theorem goDown_link_state (s : State) (l : Fin 4) (target : LinkState) :
    ((s.goDown l target).link l).state = target := by
  simp [State.goDown, State.postLink]

theorem linkUnpowered_only (s : State) (l : Fin 4) : LinkOnly l s (s.linkUnpowered l) := by
  unfold State.linkUnpowered
  split
  · exact .refl l s
  · exact goDown_only s l .waitPower

/-- R111: a link whose channel is no longer ACTIVE waits for power, unless it is DISABLED. -/
theorem linkUnpowered_link_state (s : State) (l : Fin 4) : ((s.linkUnpowered l).link l).state =
    if (s.link l).state = .disabled then .disabled else .waitPower := by
  unfold State.linkUnpowered
  split
  · assumption
  · exact goDown_link_state s l .waitPower

theorem handLoss_only (s : State) (c : Fin 4) (wasActive : Bool) : LinkOnly c s (s.handLoss c wasActive) := by
  unfold State.handLoss
  split
  · exact linkUnpowered_only s c
  · exact .refl c s

/-! ### A channel enters ACTIVE or FAULT -/

/-- A link whose channel enters ACTIVE trains if it waited for power, and posts (R111). -/
theorem linkPowered_eq (s : State) (l : Fin 4) : ∃ w ns,
    s.linkPowered l = { s with links := s.links.set l w, notices := ns } ∧
    w.state = (if (s.link l).state = .waitPower then .training else (s.link l).state) := by
  unfold State.linkPowered
  split
  · obtain ⟨ns, h⟩ := post_eq (s.modLink l _) .linkState l.val
    exact ⟨_, ns, h, rfl⟩
  · exact ⟨s.link l, s.notices, by rw [State.link, Four.set_get], rfl⟩

/-- R161: the channel in ACTIVE with its 10 s running, its link, and the Notice Table; nothing else changes. -/
theorem enterActive_eq (s : State) (c : Fin 4) : ∃ v w ns,
    s.enterActive c = { s with channels := s.channels.set c v, links := s.links.set c w, notices := ns } ∧
    v.state = .active ∧ v.waiting = false ∧ v.activeTimer = some 10000000 ∧
    w.state = (if (s.link c).state = .waitPower then .training else (s.link c).state) := by
  obtain ⟨ns, hpost⟩ := post_eq (s.modChannel c
    (fun v => { v.settle .active with activeTimer := some (10000 * Config.ms) })) .powerState c.val
  unfold State.enterActive State.postPower
  rw [hpost]
  obtain ⟨w, ns', hlink, hw⟩ := linkPowered_eq _ c
  exact ⟨_, w, ns', hlink, rfl, rfl, rfl, hw⟩

/-- R162: a fault is what happens to the channel alone, then the hand-over to the link. -/
theorem enterFault_only (s : State) (c : Fin 4) (cause : PowerCause) :
    LinkOnly c ((s.modChannel c (fun v => v.faulted cause)).postPower c) (s.enterFault c cause) :=
  handLoss_only ..

theorem enterFault_channel (s : State) (c : Fin 4) (cause : PowerCause) : ∃ pb lb fl, (s.enterFault c cause).channel c =
    { (s.channel c).faulted cause with pendingByte := pb, lastByte := lb, failedWrites := fl } := by
  obtain ⟨w, os, pb, lb, fl, ns, h⟩ := enterFault_only s c cause
  refine ⟨pb, lb, fl, ?_⟩
  rw [h]
  simp [State.channel, State.postPower, State.modChannel, State.setChannel]

theorem enterFault_link_state (s : State) (c : Fin 4) (cause : PowerCause) (h : (s.channel c).state = .active) :
    ((s.enterFault c cause).link c).state = if (s.link c).state = .disabled then .disabled else .waitPower := by
  simp [State.enterFault, State.handLoss, h, linkUnpowered_link_state, State.postPower]

/-! ### Visiting the channels one by one -/

/-- Channel c and its link stand as they stood. -/
def SameAt (c : Fin 4) (s t : State) : Prop := t.channel c = s.channel c ∧ t.link c = s.link c

theorem SameAt.refl (c : Fin 4) (s : State) : SameAt c s s := ⟨rfl, rfl⟩

theorem SameAt.trans {c : Fin 4} {s t u : State} (h : SameAt c s t) (g : SameAt c t u) : SameAt c s u :=
  ⟨g.1.trans h.1, g.2.trans h.2⟩

/-- A visit to one channel leaves the others and their links alone. -/
def VisitsOne (f : Fin 4 → State → State) : Prop := ∀ c d s, d ≠ c → SameAt d s (f c s)

theorem forEach_away {f : Fin 4 → State → State} (hf : VisitsOne f) {d : Fin 4} {l : List (Fin 4)} (h : d ∉ l)
    (s : State) : SameAt d s (forEach l f s) := by
  induction l generalizing s with
  | nil => exact .refl d s
  | cons c l ih =>
    obtain ⟨hc, hl⟩ := not_or.mp (mt List.mem_cons.mpr h)
    exact (hf c d s hc).trans (ih hl (f c s))

/-- A channel among those visited finds itself as it stood before all visits, and ends as its own visit leaves it. -/
theorem forEach_at {f : Fin 4 → State → State} (hf : VisitsOne f) {c : Fin 4} {l : List (Fin 4)} (hl : l.Nodup)
    (hc : c ∈ l) (s : State) : ∃ x, SameAt c s x ∧ SameAt c (f c x) (forEach l f s) := by
  induction l generalizing s with
  | nil => cases hc
  | cons a l ih =>
    obtain ⟨ha, hl⟩ := List.nodup_cons.mp hl
    rcases List.mem_cons.mp hc with rfl | hc
    · exact ⟨s, .refl c s, forEach_away hf ha (f c s)⟩
    · obtain ⟨x, hx, hend⟩ := ih hl hc (f a s)
      have hne : c ≠ a := fun h => ha (h ▸ hc)
      exact ⟨x, (hf a c s hne).trans hx, hend⟩

theorem forEach_allFour_at {f : Fin 4 → State → State} (hf : VisitsOne f) (s : State) (c : Fin 4) :
    ∃ x, SameAt c s x ∧ SameAt c (f c x) (forEach allFour f s) :=
  forEach_at hf (by decide) (by fin_cases c <;> decide) s

/-- The four visits one after another, each found as the channel stood before all of them. -/
theorem forEach_allFour_chain {f : Fin 4 → State → State} (hf : VisitsOne f) (visit : Fin 4 → State → State → Prop)
    (s : State) (h : ∀ c x, SameAt c s x → visit c x (f c x)) :
    ∃ a b c d, visit 0 s a ∧ visit 1 a b ∧ visit 2 b c ∧ visit 3 c d ∧ forEach allFour f s = d :=
  ⟨_, _, _, _, h 0 s (.refl 0 s), h 1 (forEach [0] f s) (forEach_away hf (by decide) s),
    h 2 (forEach [0, 1] f s) (forEach_away hf (by decide) s),
    h 3 (forEach [0, 1, 2] f s) (forEach_away hf (by decide) s), rfl⟩

/-- A reflexive and transitive relation that each visit keeps holds from before the visits to after them. -/
theorem forEach_keeps {R : State → State → Prop} {f : Fin 4 → State → State} (refl : ∀ s, R s s)
    (trans : ∀ s t u, R s t → R t u → R s u) (h : ∀ c s, R s (f c s)) (l : List (Fin 4)) (s : State) :
    R s (forEach l f s) := by
  induction l generalizing s with
  | nil => exact refl s
  | cons c l ih => exact trans _ _ _ (h c s) (ih (f c s))

theorem enterActive_away (s : State) {c d : Fin 4} (h : d ≠ c) : SameAt d s (s.enterActive c) := by
  obtain ⟨v, w, ns, heq, -⟩ := enterActive_eq s c
  rw [heq]
  exact ⟨Four.get_set_ne _ _ _ _ h, Four.get_set_ne _ _ _ _ h⟩

theorem LinkOnly.away {l d : Fin 4} {s t : State} (g : LinkOnly l s t) (h : d ≠ l) : SameAt d s t := by
  obtain ⟨w, os, pb, lb, fl, ns, rfl⟩ := g
  exact ⟨Four.get_set_ne _ _ _ _ h, Four.get_set_ne _ _ _ _ h⟩

theorem modChannel_away (s : State) {c d : Fin 4} (f : Channel → Channel) (h : d ≠ c) : SameAt d s (s.modChannel c f) :=
  ⟨channel_modChannel_ne s c d f h, rfl⟩

theorem enterFault_away (s : State) (cause : PowerCause) {c d : Fin 4} (h : d ≠ c) :
    SameAt d s (s.enterFault c cause) :=
  ((modChannel_away s _ h).trans ⟨channel_post .., link_post ..⟩).trans ((enterFault_only s c cause).away h)

/-! ### Waiting channels are released (R157) -/

/-- Does the channel wait in OFF as a FORCED channel? -/
abbrev Channel.Waits (v : Channel) : Prop := v.waiting = true ∧ v.state = .off

/-- The visit of `releaseWaiting` to one channel. -/
def releaseAt (c : Fin 4) (t : State) : State := if (t.channel c).Waits then t.enterActive c else t

theorem releaseWaiting_eq {s : State} (hs : s.supply = .good) (ht : s.thermal ≠ .shutdown) :
    s.releaseWaiting = forEach allFour releaseAt s := if_pos ⟨hs, ht⟩

theorem releaseAt_of_waits {s : State} {c : Fin 4} (h : (s.channel c).Waits) : releaseAt c s = s.enterActive c :=
  if_pos h

theorem releaseAt_of_not_waits {s : State} {c : Fin 4} (h : ¬(s.channel c).Waits) : releaseAt c s = s := if_neg h

theorem releaseAt_visitsOne : VisitsOne releaseAt := by
  intro c d s h
  by_cases hw : (s.channel c).Waits
  · rw [releaseAt_of_waits hw]
    exact enterActive_away s h
  · rw [releaseAt_of_not_waits hw]
    exact .refl d s

/-- Nothing is released where the supply is not good or no channel waits. -/
theorem releaseWaiting_self {s : State} (h : s.supply ≠ .good ∨ ∀ c, ¬(s.channel c).Waits) : s.releaseWaiting = s := by
  unfold State.releaseWaiting
  split
  · next hgood =>
    have hnone := h.resolve_left (not_not.mpr hgood.1)
    simp only [allFour, forEach, List.foldl_cons, List.foldl_nil, if_neg (hnone _)]
  · rfl

/-- Only channels, links and notices differ. -/
def RaisedOnly (s t : State) : Prop := ∃ channels links notices,
  t = { s with channels := channels, links := links, notices := notices }

theorem releaseAt_raisedOnly (c : Fin 4) (s : State) : RaisedOnly s (releaseAt c s) := by
  by_cases hw : (s.channel c).Waits
  · obtain ⟨v, w, ns, h, -⟩ := enterActive_eq s c
    exact ⟨_, _, ns, (releaseAt_of_waits hw).trans h⟩
  · exact ⟨s.channels, s.links, s.notices, releaseAt_of_not_waits hw⟩

theorem releaseWaiting_raisedOnly {s : State} (hs : s.supply = .good) (ht : s.thermal ≠ .shutdown) :
    RaisedOnly s s.releaseWaiting := by
  rw [releaseWaiting_eq hs ht]
  refine forEach_keeps (fun s => ⟨s.channels, s.links, s.notices, rfl⟩) ?_ releaseAt_raisedOnly allFour s
  rintro s _ _ ⟨_, _, _, rfl⟩ ⟨cs, ls, ns, rfl⟩
  exact ⟨cs, ls, ns, rfl⟩

/-- A waiting channel ends in ACTIVE with its 10 s running, and its link trains if it waited for power. -/
theorem releaseWaiting_of_waits {s : State} (hs : s.supply = .good) (ht : s.thermal ≠ .shutdown) {c : Fin 4}
    (h : (s.channel c).Waits) : (s.releaseWaiting.channel c).state = .active ∧
    (s.releaseWaiting.channel c).waiting = false ∧ (s.releaseWaiting.channel c).activeTimer = some 10000000 ∧
    (s.releaseWaiting.link c).state = if (s.link c).state = .waitPower then .training else (s.link c).state := by
  obtain ⟨x, ⟨hchannel, hlink⟩, hend⟩ := forEach_allFour_at releaseAt_visitsOne s c
  rw [releaseAt_of_waits (by rwa [hchannel]), ← releaseWaiting_eq hs ht] at hend
  obtain ⟨v, w, ns, heq, hstate, hwaiting, htimer, hw⟩ := enterActive_eq x c
  have hv : (x.enterActive c).channel c = v := by rw [heq]; exact Four.get_set_same ..
  have hl : (x.enterActive c).link c = w := by rw [heq]; exact Four.get_set_same ..
  rw [hend.1, hend.2, hv, hl, ← hlink]
  exact ⟨hstate, hwaiting, htimer, hw⟩

theorem releaseWaiting_of_not_waits {s : State} (hs : s.supply = .good) (ht : s.thermal ≠ .shutdown) {c : Fin 4}
    (h : ¬(s.channel c).Waits) : SameAt c s s.releaseWaiting := by
  obtain ⟨x, hx, hend⟩ := forEach_allFour_at releaseAt_visitsOne s c
  rw [releaseAt_of_not_waits (by rwa [hx.1]), ← releaseWaiting_eq hs ht] at hend
  exact hx.trans hend

/-! ### SHUTDOWN begins (R164) -/

/-- The visit of `thermalFaults` to one channel. -/
def tripAt (c : Fin 4) (t : State) : State :=
  match (t.channel c).state with
  | .off => t
  | .fault => t.modChannel c (fun v => { v with cause := .thermal })
  | .detect | .active | .discharge _ => t.enterFault c .thermal

theorem thermalFaults_eq (s : State) : s.thermalFaults = forEach allFour tripAt s := rfl

theorem tripAt_of_off {s : State} {c : Fin 4} (h : (s.channel c).state = .off) : tripAt c s = s := by
  simp [tripAt, h]

theorem tripAt_of_fault {s : State} {c : Fin 4} (h : (s.channel c).state = .fault) :
    tripAt c s = s.modChannel c (fun v => { v with cause := .thermal }) := by
  simp [tripAt, h]

theorem tripAt_of_on {s : State} {c : Fin 4} (hoff : (s.channel c).state ≠ .off)
    (hfault : (s.channel c).state ≠ .fault) : tripAt c s = s.enterFault c .thermal := by
  unfold tripAt
  split
  · contradiction
  · contradiction
  all_goals rfl

/-- A visit is one of three things. -/
theorem tripAt_cases (c : Fin 4) (s : State) : tripAt c s = s ∨
    tripAt c s = s.modChannel c (fun v => { v with cause := .thermal }) ∨ tripAt c s = s.enterFault c .thermal := by
  by_cases hoff : (s.channel c).state = .off
  · exact .inl (tripAt_of_off hoff)
  · by_cases hfault : (s.channel c).state = .fault
    · exact .inr (.inl (tripAt_of_fault hfault))
    · exact .inr (.inr (tripAt_of_on hoff hfault))

theorem tripAt_visitsOne : VisitsOne tripAt := by
  intro c d s h
  obtain hvisit | hvisit | hvisit := tripAt_cases c s <;> rw [hvisit]
  · exact .refl d s
  · exact modChannel_away s _ h
  · exact enterFault_away s .thermal h

/-- Only outputs, channels, links and notices differ. -/
def LoweredOnly (s t : State) : Prop := ∃ outputs channels links notices,
  t = { s with outputs := outputs, channels := channels, links := links, notices := notices }

theorem enterFault_loweredOnly (s : State) (c : Fin 4) (cause : PowerCause) : LoweredOnly s (s.enterFault c cause) := by
  obtain ⟨w, os, pb, lb, fl, ns, h⟩ := enterFault_only s c cause
  obtain ⟨ns', hpost⟩ := post_eq (s.modChannel c (fun v => v.faulted cause)) .powerState c.val
  rw [State.postPower, hpost] at h
  exact ⟨os, _, _, ns, h⟩

theorem tripAt_loweredOnly (c : Fin 4) (s : State) : LoweredOnly s (tripAt c s) := by
  obtain hvisit | hvisit | hvisit := tripAt_cases c s <;> rw [hvisit]
  · exact ⟨s.outputs, s.channels, s.links, s.notices, rfl⟩
  · exact ⟨s.outputs, _, s.links, s.notices, rfl⟩
  · exact enterFault_loweredOnly s c .thermal

theorem thermalFaults_loweredOnly (s : State) : LoweredOnly s s.thermalFaults := by
  rw [thermalFaults_eq]
  refine forEach_keeps (fun s => ⟨s.outputs, s.channels, s.links, s.notices, rfl⟩) ?_ tripAt_loweredOnly allFour s
  rintro s _ _ ⟨_, _, _, _, rfl⟩ ⟨os, cs, ls, ns, rfl⟩
  exact ⟨os, cs, ls, ns, rfl⟩

@[simp] theorem thermalFaults_temperature (s : State) : s.thermalFaults.temperature = s.temperature := by
  obtain ⟨_, _, _, _, h⟩ := thermalFaults_loweredOnly s
  rw [h]

@[simp] theorem thermalFaults_thermal (s : State) : s.thermalFaults.thermal = s.thermal := by
  obtain ⟨_, _, _, _, h⟩ := thermalFaults_loweredOnly s
  rw [h]

@[simp] theorem thermalFaults_thermalChanged (s : State) : s.thermalFaults.thermalChanged = s.thermalChanged := by
  obtain ⟨_, _, _, _, h⟩ := thermalFaults_loweredOnly s
  rw [h]

@[simp] theorem thermalFaults_streams (s : State) : s.thermalFaults.streams = s.streams := by
  obtain ⟨_, _, _, _, h⟩ := thermalFaults_loweredOnly s
  rw [h]

@[simp] theorem thermalFaults_store (s : State) : s.thermalFaults.store = s.store := by
  obtain ⟨_, _, _, _, h⟩ := thermalFaults_loweredOnly s
  rw [h]

theorem thermalFaults_of_off {s : State} {c : Fin 4} (h : (s.channel c).state = .off) :
    s.thermalFaults.channel c = s.channel c := by
  obtain ⟨x, hx, hend⟩ := forEach_allFour_at tripAt_visitsOne s c
  rw [tripAt_of_off (by rwa [hx.1])] at hend
  exact (hx.trans hend).1

theorem thermalFaults_of_fault {s : State} {c : Fin 4} (h : (s.channel c).state = .fault) :
    s.thermalFaults.channel c = { s.channel c with cause := .thermal } := by
  obtain ⟨x, hx, hend⟩ := forEach_allFour_at tripAt_visitsOne s c
  rw [tripAt_of_fault (by rwa [hx.1])] at hend
  rw [thermalFaults_eq, hend.1, channel_modChannel, hx.1]

/-- R164: a channel that is on ends in FAULT, and out of DISCHARGE its discharge timer runs on. -/
theorem thermalFaults_of_on {s : State} {c : Fin 4} (hoff : (s.channel c).state ≠ .off)
    (hfault : (s.channel c).state ≠ .fault) : (s.thermalFaults.channel c).state = .fault ∧
    (s.thermalFaults.channel c).cause = .thermal ∧ (s.thermalFaults.channel c).faults = bump (s.channel c).faults ∧
    ∀ target, (s.channel c).state = .discharge target →
      (s.thermalFaults.channel c).dischargeTimer = (s.channel c).dischargeTimer := by
  obtain ⟨x, hx, hend⟩ := forEach_allFour_at tripAt_visitsOne s c
  rw [tripAt_of_on (by rwa [hx.1]) (by rwa [hx.1]), ← thermalFaults_eq] at hend
  obtain ⟨pb, lb, fl, hfaulted⟩ := enterFault_channel x c .thermal
  rw [hend.1, hfaulted, hx.1]
  exact ⟨rfl, rfl, rfl, fun target h => by simp [Channel.faulted, h]⟩

theorem thermalFaults_link_state {s : State} {c : Fin 4} (h : (s.channel c).state = .active) :
    (s.thermalFaults.link c).state = if (s.link c).state = .disabled then .disabled else .waitPower := by
  obtain ⟨x, hx, hend⟩ := forEach_allFour_at tripAt_visitsOne s c
  have hactive : (x.channel c).state = .active := by rwa [hx.1]
  rw [tripAt_of_on (by simp [hactive]) (by simp [hactive]), ← thermalFaults_eq] at hend
  rw [hend.2, enterFault_link_state x c .thermal hactive, hx.2]

/-! ### The thermal state after a sample (R20) -/

theorem thermalChain_of_stays {st : Thermal} {t : Int} (h : thermalTransition st t = none) (n : Nat) :
    thermalChain n st t = st := by
  cases n with
  | zero => rfl
  | succ n => simp only [thermalChain, h]

theorem thermalChain_of_moves {st st' : Thermal} {t : Int} (h : thermalTransition st t = some st') (n : Nat) :
    thermalChain (n + 1) st t = thermalChain n st' t := by
  simp only [thermalChain, h]

/-- Below the threshold of CRITICAL, HOT stays or cools, so one transition is enough. -/
theorem thermalChain_hot_of_lt {t : Int} (h : t < 105) (n : Nat) :
    thermalChain (n + 1) .hot t = if 83 ≤ t then .hot else .cool := by
  split_ifs with h83
  · exact thermalChain_of_stays (by grind [thermalTransition]) _
  · rw [thermalChain_of_moves (st' := .cool) (by grind [thermalTransition])]
    exact thermalChain_of_stays (by grind [thermalTransition]) _

/-- Below the threshold of SHUTDOWN, CRITICAL stays or cools by way of HOT. -/
theorem thermalChain_critical_of_lt {t : Int} (h : t < 125) (n : Nat) :
    thermalChain (n + 2) .critical t = if 103 ≤ t then .critical else if 83 ≤ t then .hot else .cool := by
  by_cases h103 : 103 ≤ t
  · rw [if_pos h103]
    exact thermalChain_of_stays (by grind [thermalTransition]) _
  · rw [if_neg h103, thermalChain_of_moves (st' := .hot) (by grind [thermalTransition])]
    exact thermalChain_hot_of_lt (by omega) n

/-- From 105 °C on, HOT heats and cannot cool again. -/
theorem thermalChain_hot_of_ge {t : Int} (h : 105 ≤ t) (n : Nat) :
    thermalChain (n + 1) .hot t = if 125 ≤ t then .shutdown else .critical := by
  split_ifs with h125
  · rw [thermalChain_of_moves (st' := .shutdown) (by grind [thermalTransition])]
    exact thermalChain_of_stays (by grind [thermalTransition]) _
  · rw [thermalChain_of_moves (st' := .critical) (by grind [thermalTransition])]
    exact thermalChain_of_stays (by grind [thermalTransition]) _

theorem thermalAfter_hot (t : Int) : thermalAfter .hot t =
    if 125 ≤ t then .shutdown else if 105 ≤ t then .critical else if 83 ≤ t then .hot else .cool := by
  unfold thermalAfter
  by_cases h : 105 ≤ t
  · rw [thermalChain_hot_of_ge h, if_pos h]
  · rw [thermalChain_hot_of_lt (by omega), if_neg (show ¬125 ≤ t by omega), if_neg h]

theorem thermalAfter_cool (t : Int) : thermalAfter .cool t =
    if 125 ≤ t then .shutdown else if 105 ≤ t then .critical else if 85 ≤ t then .hot else .cool := by
  unfold thermalAfter
  by_cases h125 : 125 ≤ t
  · rw [if_pos h125, thermalChain_of_moves (st' := .shutdown) (by grind [thermalTransition])]
    exact thermalChain_of_stays (by grind [thermalTransition]) _
  by_cases h85 : 85 ≤ t
  · rw [thermalChain_of_moves (st' := .hot) (by grind [thermalTransition])]
    by_cases h105 : 105 ≤ t
    · rw [thermalChain_hot_of_ge h105, if_pos h105]
    · rw [thermalChain_hot_of_lt (by omega), if_pos (by omega), if_neg h125, if_neg h105, if_pos h85]
  · rw [if_neg h125, if_neg (by omega), if_neg h85]
    exact thermalChain_of_stays (by grind [thermalTransition]) _

theorem thermalAfter_critical (t : Int) : thermalAfter .critical t =
    if 125 ≤ t then .shutdown else if 103 ≤ t then .critical else if 83 ≤ t then .hot else .cool := by
  unfold thermalAfter
  by_cases h125 : 125 ≤ t
  · rw [if_pos h125, thermalChain_of_moves (st' := .shutdown) (by grind [thermalTransition])]
    exact thermalChain_of_stays (by grind [thermalTransition]) _
  · rw [thermalChain_critical_of_lt (by omega), if_neg h125]

theorem thermalAfter_shutdown (t : Int) : thermalAfter .shutdown t =
    if 116 ≤ t then .shutdown else if 103 ≤ t then .critical else if 83 ≤ t then .hot else .cool := by
  unfold thermalAfter
  by_cases h116 : 116 ≤ t
  · rw [if_pos h116]
    exact thermalChain_of_stays (by grind [thermalTransition]) _
  · rw [thermalChain_of_moves (st' := .critical) (by grind [thermalTransition]),
      thermalChain_critical_of_lt (by omega), if_neg h116]

/-! ### The sample (R19 to R21, R157, R164) -/

/-- Taking the temperature sets it and the thermal state, and may set the change flag and post; nothing else changes. -/
theorem takeTemperature_eq (s : State) (reading : Int) : ∃ flag ns, s.takeTemperature reading = { s with
    temperature := clampTemperature reading, thermal := thermalAfter s.thermal (clampTemperature reading)
    thermalChanged := flag, notices := ns } := by
  unfold State.takeTemperature
  dsimp only
  split
  · next h => exact ⟨s.thermalChanged, s.notices, by rw [h]⟩
  · obtain ⟨ns, hpost⟩ := post_eq { s with
      temperature := clampTemperature reading, thermal := thermalAfter s.thermal (clampTemperature reading)
      thermalChanged := true } .thermal 0
    exact ⟨true, ns, hpost⟩

/-- A sample that changes the thermal state sets the flag and posts THERMAL. -/
theorem takeTemperature_of_change {s : State} {reading : Int}
    (h : thermalAfter s.thermal (clampTemperature reading) ≠ s.thermal) : s.takeTemperature reading =
      ({ s with temperature := clampTemperature reading, thermal := thermalAfter s.thermal (clampTemperature reading)
                thermalChanged := true } : State).post .thermal 0 := if_neg h

@[simp] theorem channel_takeTemperature (s : State) (reading : Int) (c : Fin 4) :
    (s.takeTemperature reading).channel c = s.channel c := by
  obtain ⟨_, _, h⟩ := takeTemperature_eq s reading
  rw [h]
  rfl

@[simp] theorem link_takeTemperature (s : State) (reading : Int) (l : Fin 4) :
    (s.takeTemperature reading).link l = s.link l := by
  obtain ⟨_, _, h⟩ := takeTemperature_eq s reading
  rw [h]
  rfl

@[simp] theorem takeTemperature_supply (s : State) (reading : Int) : (s.takeTemperature reading).supply = s.supply := by
  obtain ⟨_, _, h⟩ := takeTemperature_eq s reading
  rw [h]

@[simp] theorem takeTemperature_thermal (s : State) (reading : Int) :
    (s.takeTemperature reading).thermal = thermalAfter s.thermal (clampTemperature reading) := by
  obtain ⟨_, _, h⟩ := takeTemperature_eq s reading
  rw [h]

theorem powerFollowsThermal_of_not_shutdown {s : State} (h : s.thermal ≠ .shutdown) (before : Thermal) :
    s.powerFollowsThermal before = s.releaseWaiting := if_neg h

theorem powerFollowsThermal_within_shutdown {s : State} (h : s.thermal = .shutdown) :
    s.powerFollowsThermal .shutdown = s := by
  simp [State.powerFollowsThermal, h]

theorem powerFollowsThermal_into_shutdown {s : State} (h : s.thermal = .shutdown) {before : Thermal}
    (hbefore : before ≠ .shutdown) : s.powerFollowsThermal before = s.thermalFaults := by
  simp [State.powerFollowsThermal, h, hbefore]

theorem exec_temperatureSample (dt : Nat) (reading : Int) (s : State) : exec (.temperatureSample dt reading) s =
    .next (((s.elapse dt).takeTemperature reading).powerFollowsThermal s.thermal) := rfl

/-- Settles O26. The sample takes the temperature, then releases waiting channels outside SHUTDOWN or, as SHUTDOWN
begins, faults the channels that are on; each channel is met as the sample found it, since a visit leaves the others
alone. -/
theorem temperatureRules : Obligations.TemperatureRules := by
  unfold Obligations.TemperatureRules
  refine ⟨fun t => ⟨thermalAfter_cool t, thermalAfter_hot t, thermalAfter_critical t, thermalAfter_shutdown t⟩,
    fun s dt reading => ?_⟩
  intro t after sample taken changed waits released tripped
  have htaken : (s.elapse dt).takeTemperature reading = taken := rfl
  have hsample : sample = .next (taken.powerFollowsThermal s.thermal) := exec_temperatureSample dt reading s
  have hthermal : taken.thermal = after := takeTemperature_thermal (s.elapse dt) reading
  have hsupply : taken.supply = s.supply := takeTemperature_supply (s.elapse dt) reading
  have hchannel (c : Fin 4) : taken.channel c = (s.channel c).elapse dt := by simp [← htaken]
  have hlink (c : Fin 4) : (taken.link c).state = (s.link c).state := by simp [← htaken]
  have hwaits (c : Fin 4) : (taken.channel c).Waits ↔ waits c := by simp [hchannel, Channel.Waits, waits]
  have hstate (c : Fin 4) : (taken.channel c).state = (s.channel c).state := by simp [hchannel]
  have hout (h : after ≠ .shutdown) : sample = .next taken.releaseWaiting := by
    rw [hsample, powerFollowsThermal_of_not_shutdown (by rwa [hthermal])]
  have hchanged (h : after ≠ s.thermal) : taken = changed := takeTemperature_of_change (s := s.elapse dt) h
  have hin (h : after ≠ s.thermal) (hdown : after = .shutdown) : sample = .next changed.thermalFaults := by
    rw [hsample, powerFollowsThermal_into_shutdown (hthermal.trans hdown) (fun e => h (hdown.trans e.symm)), hchanged h]
  refine ⟨?stays, ?nothing, ?release, ?trip, ?released, ?tripped⟩
  case stays =>
    rintro ⟨hdown, hbefore⟩
    rw [hsample, hbefore, powerFollowsThermal_within_shutdown (hthermal.trans hdown)]
  case nothing =>
    intro h hidle
    rw [hout h, releaseWaiting_self (by simpa only [hsupply, hwaits] using hidle)]
  case release =>
    intro h hgood
    rw [hout h, releaseWaiting_eq (by rwa [hsupply]) (by rwa [hthermal])]
    have hvisit (c : Fin 4) (x : State) (hx : SameAt c taken x) : released c x (releaseAt c x) := by
      have hx' : (x.channel c).Waits ↔ waits c := by rw [hx.1, hwaits]
      exact ⟨fun hw => releaseAt_of_waits (hx'.mpr hw), fun hw => releaseAt_of_not_waits (mt hx'.mp hw)⟩
    obtain ⟨a, b, c, d, h0, h1, h2, h3, rfl⟩ := forEach_allFour_chain releaseAt_visitsOne released taken hvisit
    exact ⟨a, b, c, _, h0, h1, h2, h3, rfl⟩
  case trip =>
    intro h hdown
    rw [hin h hdown, thermalFaults_eq]
    have hvisit (c : Fin 4) (x : State) (hx : SameAt c changed x) : tripped c x (tripAt c x) := by
      have hx' : (x.channel c).state = (s.channel c).state := by rw [hx.1, ← hchanged h, hstate]
      cases hs : (s.channel c).state <;> simp only [tripped, hs]
      case off => exact tripAt_of_off (hx'.trans hs)
      case fault => exact tripAt_of_fault (hx'.trans hs)
      all_goals exact tripAt_of_on (by simp [hx', hs]) (by simp [hx', hs])
    obtain ⟨a, b, c, d, h0, h1, h2, h3, rfl⟩ := forEach_allFour_chain tripAt_visitsOne tripped changed hvisit
    exact ⟨a, b, c, _, h0, h1, h2, h3, rfl⟩
  case released =>
    intro h hgood
    have hs : taken.supply = .good := hsupply.trans hgood
    have ht : taken.thermal ≠ .shutdown := by rwa [hthermal]
    refine ⟨_, hout h, releaseWaiting_raisedOnly hs ht, fun c => ⟨fun hw => ?_, fun hw => ?_⟩⟩
    · rw [← hlink c]
      exact releaseWaiting_of_waits hs ht ((hwaits c).mpr hw)
    · exact releaseWaiting_of_not_waits hs ht (mt (hwaits c).mp hw)
  case tripped =>
    intro h hdown
    refine ⟨_, hin h hdown, by simp [changed], by simp [changed, hdown], by simp [changed], by simp, by simp [changed],
      fun c => ?_⟩
    intro v
    have hon : v.state ≠ .off → v.state ≠ .fault → _ := thermalFaults_of_on (s := changed) (c := c)
    split
    next hv => exact thermalFaults_of_off hv
    next hv => exact thermalFaults_of_fault hv
    next hv =>
      obtain ⟨hfault, hcause, hfaults, -⟩ := hon (by simp [hv]) (by simp [hv])
      exact ⟨hfault, hcause, hfaults⟩
    next hv =>
      obtain ⟨hfault, hcause, hfaults, -⟩ := hon (by simp [hv]) (by simp [hv])
      have hbefore : (changed.link c).state = (s.link c).state := by rw [← hchanged h, hlink]
      exact ⟨hfault, hcause, hfaults, by rw [thermalFaults_link_state hv, hbefore]⟩
    next target hv =>
      obtain ⟨hfault, hcause, hfaults, htimer⟩ := hon (by simp [hv]) (by simp [hv])
      exact ⟨hfault, hcause, hfaults, htimer target hv⟩

end Sys2Proof.Machine
end

section
/-! PROOF of TierIsTheFirstThatFits (O34). The demand as a quotient rounded up, the choice as a chain of tests in the order
of R96, and the governing rate of R97. -/

namespace Sys2Proof.Machine

/-! ### Demand (R95) -/

/-- The demand rounds up: it is enough for the bits sent. -/
theorem bits_le_demand_mul {t : Timing} {n : Nat} (b : Nat) (h : 0 < n * t.hTotal) :
    t.pclk * (t.hActive * b + 64) ≤ demand t b n * (n * t.hTotal) := by
  have hquot : t.pclk * (t.hActive * b + 64) + (n * t.hTotal - 1) < demand t b n * (n * t.hTotal) + n * t.hTotal :=
    Nat.lt_div_mul_add h
  omega

/-- The demand rounds up once: one kbit/s less is not enough. -/
theorem demand_mul_lt {t : Timing} {n : Nat} (b : Nat) (h : 0 < n * t.hTotal) :
    demand t b n * (n * t.hTotal) < t.pclk * (t.hActive * b + 64) + n * t.hTotal := by
  have hquot : demand t b n * (n * t.hTotal) ≤ t.pclk * (t.hActive * b + 64) + (n * t.hTotal - 1) :=
    Nat.div_mul_le_self ..
  omega

/-! ### The choice of a tier (R96) -/

@[simp] theorem fits_iff {t : Timing} {rate : Rate} {bits pacing : Nat} :
    fits t rate bits pacing = true ↔ demand t bits pacing ≤ rate.capacity := decide_eq_true_iff

@[simp] theorem chooseTier_none (allow18 allowAlt : Bool) (rate : Rate) :
    chooseTier none allow18 allowAlt rate = .noTier := rfl

/-- The three tests of R96, in its order. -/
theorem chooseTier_some (t : Timing) (allow18 allowAlt : Bool) (rate : Rate) :
    chooseTier (some t) allow18 allowAlt rate =
      if demand t 24 1 ≤ rate.capacity then .t24
      else if allow18 = true ∧ demand t 18 1 ≤ rate.capacity then .t18
      else if allow18 = true ∧ allowAlt = true ∧ demand t 18 2 ≤ rate.capacity then .talt
      else .blocked := by
  simp only [chooseTier, fits_iff, Bool.and_eq_true, and_assoc]

/-! ### The rate of an evaluation (R97) -/

theorem bestRate_eq (v : Link) : v.bestRate =
    if v.policy.rate = .halfOnly ∨ (v.policy.rate = .auto ∧ v.demoted = true) then .half else .full := by
  unfold Link.bestRate
  cases hpolicy : v.policy.rate with
  | halfOnly => rfl
  | fullOnly => rfl
  | auto => simp

theorem governingRate_of_up {v : Link} (h : v.state = .up) : v.governingRate = v.rate := by
  simp only [Link.governingRate, h]

theorem governingRate_of_not_up {v : Link} (h : v.state ≠ .up) : v.governingRate = v.bestRate := by
  unfold Link.governingRate
  cases hstate : v.state with
  | up => exact absurd hstate h
  | disabled | waitPower | training | retrain | failed => rfl

/-- Settles O34. The demand is bounded on both sides by its rounding; each tier is the outcome of exactly one path through
the tests of R96; and the governing rate is the current rate while the link is UP, the best allowed rate otherwise. -/
theorem tierIsTheFirstThatFits : Obligations.TierIsTheFirstThatFits := by
  unfold Obligations.TierIsTheFirstThatFits
  refine ⟨rfl, rfl, fun t b n h => ⟨bits_le_demand_mul b h, demand_mul_lt b h⟩, chooseTier_none, ?choice, ?rate,
    fun s o => rfl⟩
  case choice =>
    intro t allow18 allowAlt rate tier t24 t18 talt
    have htier : tier = if t24 then .t24 else if t18 then .t18 else if talt then .talt else .blocked :=
      chooseTier_some t allow18 allowAlt rate
    by_cases h24 : t24
    · simp [htier, h24]
    by_cases h18 : t18
    · simp [htier, h24, h18]
    by_cases halt : talt <;> simp [htier, h24, h18, halt]
  case rate =>
    intro v
    split
    next hup => exact governingRate_of_up hup
    next hup => rw [governingRate_of_not_up hup, bestRate_eq]

end Sys2Proof.Machine
end

section
/-! PROOF of PassOrder (O39). A pass is its first candidate, then the settings at distance 1, 2, ... 15 from it, cut to
the allowed range; each such group lies nearer than the next and begins with its higher setting. -/

namespace Sys2Proof.Machine

/-- How far setting d lies from the first candidate c of a pass. -/
def settingDistance (c d : Nat) : Nat := d - c + (c - d)

/-- Setting a comes before setting b in a pass that begins at c (R115). -/
def TriedBefore (c a b : Nat) : Prop :=
  settingDistance c a < settingDistance c b ∨ (settingDistance c a = settingDistance c b ∧ b < a)

/-- The settings at distance k from c, the higher one first; there is no lower one below setting 0. -/
def settingsAt (c k : Nat) : List Nat := (c + k) :: (if k ≤ c then [c - k] else [])

/-- The order around c before the range is applied: c, c + 1, c - 1, ... up to distance 15. -/
def alternatingOrder (c : Nat) : List Nat := c :: ((List.range 15).map (fun k => settingsAt c (k + 1))).flatten

theorem passOrder_eq_filter (lo hi c : Nat) :
    passOrder lo hi c = (alternatingOrder c).filter (fun d => decide (lo ≤ d ∧ d ≤ hi)) := rfl

/-! ### The settings at one distance -/

theorem mem_settingsAt {c k d : Nat} : d ∈ settingsAt c k ↔ settingDistance c d = k := by
  unfold settingsAt settingDistance
  split
  next hlow => simp only [List.mem_cons, List.not_mem_nil, or_false]; omega
  next hlow => simp only [List.mem_singleton]; omega

theorem settingsAt_pairwise {c k : Nat} (h : 0 < k) : (settingsAt c k).Pairwise (TriedBefore c) := by
  unfold settingsAt
  split
  next hlow =>
    have hhigher : TriedBefore c (c + k) (c - k) := by unfold TriedBefore settingDistance; omega
    exact List.pairwise_pair.mpr hhigher
  next hlow => exact List.pairwise_singleton ..

/-! ### The order without a range -/

theorem not_triedBefore_self (c d : Nat) : ¬ TriedBefore c d d := by
  unfold TriedBefore
  omega

theorem mem_alternatingOrder {c d : Nat} : d ∈ alternatingOrder c ↔ settingDistance c d ≤ 15 := by
  have hfirst : d = c ↔ settingDistance c d = 0 := by unfold settingDistance; omega
  simp only [alternatingOrder, List.mem_cons, List.mem_flatten, List.mem_map, List.mem_range, exists_exists_and_eq_and,
    mem_settingsAt, hfirst]
  constructor
  · rintro (hzero | ⟨k, hk, hd⟩) <;> omega
  · intro hd
    cases hdist : settingDistance c d with
    | zero => exact .inl rfl
    | succ k => exact .inr ⟨k, by omega, rfl⟩

theorem alternatingOrder_pairwise (c : Nat) : (alternatingOrder c).Pairwise (TriedBefore c) := by
  have hself : settingDistance c c = 0 := by simp [settingDistance]
  refine List.pairwise_cons.mpr ⟨fun d hd => ?first, List.pairwise_flatten.mpr ⟨fun l hl => ?within, ?between⟩⟩
  case first =>
    obtain ⟨l, hl, hd⟩ := List.mem_flatten.mp hd
    obtain ⟨k, -, rfl⟩ := List.mem_map.mp hl
    have hfar : settingDistance c d = k + 1 := mem_settingsAt.mp hd
    exact .inl (by omega)
  case within =>
    obtain ⟨k, -, rfl⟩ := List.mem_map.mp hl
    exact settingsAt_pairwise k.succ_pos
  case between =>
    refine List.pairwise_map.mpr (List.pairwise_lt_range.imp fun {j k} hjk a ha b hb => ?_)
    have hnear : settingDistance c a = j + 1 := mem_settingsAt.mp ha
    have hfar : settingDistance c b = k + 1 := mem_settingsAt.mp hb
    exact .inl (by omega)

/-! ### The pass -/

theorem passOrder_head {lo hi c : Nat} (hlo : lo ≤ c) (hhi : c ≤ hi) : (passOrder lo hi c).head? = some c := by
  rw [passOrder_eq_filter, alternatingOrder, List.filter_cons_of_pos (by simp [hlo, hhi])]
  rfl

/-- Every allowed setting is tried: with settings and first candidate at most 15, none lies further than 15 from it. -/
theorem mem_passOrder {lo hi c d : Nat} (hhi : c ≤ hi) (h15 : hi ≤ 15) :
    d ∈ passOrder lo hi c ↔ lo ≤ d ∧ d ≤ hi := by
  rw [passOrder_eq_filter, List.mem_filter, mem_alternatingOrder, decide_eq_true_iff, and_iff_right_iff_imp]
  unfold settingDistance
  omega

theorem passOrder_pairwise (lo hi c : Nat) : (passOrder lo hi c).Pairwise (TriedBefore c) :=
  (alternatingOrder_pairwise c).filter _

/-- No setting is tried twice, since none comes before itself. -/
theorem passOrder_nodup (lo hi c : Nat) : (passOrder lo hi c).Nodup := by
  refine (passOrder_pairwise lo hi c).imp fun {a b} hbefore => ?_
  rintro rfl
  exact not_triedBefore_self c a hbefore

/-- Settles O39. The order is sorted before the range is applied, group by group, and the range takes settings out of it
without moving any. -/
theorem passOrder_each_once_nearest_first : Obligations.PassOrder := by
  unfold Obligations.PassOrder
  intro lo hi first hlo hhi h15
  exact ⟨passOrder_head hlo hhi, passOrder_nodup lo hi first, fun d => mem_passOrder hhi h15,
    passOrder_pairwise lo hi first⟩

end Sys2Proof.Machine
end

section
/-! PROOF of TouchAndMirrorRules (O47). First the two operations on a touch queue, merging a MOVE and dropping the
oldest MOVE; then the queue after a record, in the cases of R150; then the mirror and the requests. -/

namespace Sys2Proof.Machine

open Sys2Proof.Claims

/-! ### Merging a MOVE (R150 case 1) -/

/-- A queued record with the position and time of an arriving one. -/
def TouchRecord.movedTo (q t : TouchRecord) : TouchRecord := { q with x := t.x, y := t.y, time := t.time }

/-- In a queue, oldest first, q is the newest record of contact n: `older` stands before it and `newer` behind it. -/
def NewestOfContact (n : Nat) (queue older newer : List TouchRecord) (q : TouchRecord) : Prop :=
  queue = older ++ q :: newer ∧ q.contact = n ∧ ∀ x ∈ newer, x.contact ≠ n

/-- Record t is a MOVE and so is the newest queued record of its contact. -/
def Merges (t : TouchRecord) (queue : List TouchRecord) : Prop :=
  t.kind = .move ∧ ∃ older newer q, NewestOfContact t.contact queue older newer q ∧ q.kind = .move

theorem coalesceNewest_cons (t q : TouchRecord) (rest : List TouchRecord) : coalesceNewest t (q :: rest) =
    if q.contact = t.contact then if q.kind = .move then some (q.movedTo t :: rest) else none
    else (coalesceNewest t rest).map (q :: ·) := by
  cases hkind : q.kind <;> simp [coalesceNewest, TouchRecord.movedTo, hkind]

theorem coalesceNewest_eq_some {t : TouchRecord} {queue r : List TouchRecord} : coalesceNewest t queue = some r ↔
    ∃ newer q older, queue = newer ++ q :: older ∧ (∀ x ∈ newer, x.contact ≠ t.contact) ∧ q.contact = t.contact ∧
      q.kind = .move ∧ r = newer ++ q.movedTo t :: older := by
  induction queue generalizing r with
  | nil => simp [coalesceNewest]
  | cons a rest ih =>
    rw [coalesceNewest_cons]
    by_cases hcontact : a.contact = t.contact
    · simp only [hcontact, if_true, Option.ite_none_right_eq_some, Option.some.injEq]
      constructor
      · rintro ⟨hmove, rfl⟩
        exact ⟨[], a, rest, rfl, by simp, hcontact, hmove, rfl⟩
      · rintro ⟨_ | ⟨b, newer⟩, q, older, hqueue, hother, -, hmove, rfl⟩
        · obtain ⟨rfl, rfl⟩ := List.cons.inj hqueue
          exact ⟨hmove, rfl⟩
        · obtain ⟨rfl, -⟩ := List.cons.inj hqueue
          exact absurd hcontact (hother _ (List.mem_cons_self ..))
    · simp only [hcontact, if_false, Option.map_eq_some_iff, ih]
      constructor
      · rintro ⟨_, ⟨newer, q, older, rfl, hother, hq, hmove, rfl⟩, rfl⟩
        exact ⟨a :: newer, q, older, rfl, List.forall_mem_cons.mpr ⟨hcontact, hother⟩, hq, hmove, rfl⟩
      · rintro ⟨_ | ⟨b, newer⟩, q, older, hqueue, hother, hq, hmove, rfl⟩
        · obtain ⟨rfl, -⟩ := List.cons.inj hqueue
          exact absurd hq hcontact
        · obtain ⟨rfl, hrest⟩ := List.cons.inj hqueue
          exact ⟨_, ⟨newer, q, older, hrest, (List.forall_mem_cons.mp hother).2, hq, hmove, rfl⟩, rfl⟩

theorem coalesce_of_not_move {t : TouchRecord} (h : t.kind ≠ .move) (queue : List TouchRecord) :
    coalesce t queue = none := by
  unfold coalesce
  cases hkind : t.kind with
  | move => exact absurd hkind h
  | down | up => rfl

theorem coalesce_of_move {t : TouchRecord} (h : t.kind = .move) (queue : List TouchRecord) :
    coalesce t queue = (coalesceNewest t queue.reverse).map List.reverse := by
  simp only [coalesce, h]

/-- The merged record keeps its place in the queue. -/
theorem coalesce_of_newest {t q : TouchRecord} {queue older newer : List TouchRecord} (ht : t.kind = .move)
    (hnewest : NewestOfContact t.contact queue older newer q) (hq : q.kind = .move) :
    coalesce t queue = some (older ++ q.movedTo t :: newer) := by
  obtain ⟨rfl, hcontact, hother⟩ := hnewest
  have hmerged : coalesceNewest t (older ++ q :: newer).reverse =
      some (newer.reverse ++ q.movedTo t :: older.reverse) :=
    coalesceNewest_eq_some.mpr ⟨newer.reverse, q, older.reverse, by simp, by simpa using hother, hcontact, hq, rfl⟩
  rw [coalesce_of_move ht, hmerged]
  simp

theorem coalesce_of_not_merges {t : TouchRecord} {queue : List TouchRecord} (h : ¬ Merges t queue) :
    coalesce t queue = none := by
  by_cases ht : t.kind = .move
  · have hnone : coalesceNewest t queue.reverse = none := by
      refine Option.eq_none_iff_forall_ne_some.mpr fun r hr => h ?_
      obtain ⟨newer, q, older, hqueue, hother, hcontact, hq, -⟩ := coalesceNewest_eq_some.mp hr
      exact ⟨ht, older.reverse, newer.reverse, q,
        ⟨by rw [← queue.reverse_reverse, hqueue]; simp, hcontact, by simpa using hother⟩, hq⟩
    rw [coalesce_of_move ht, hnone, Option.map_none]
  · exact coalesce_of_not_move ht queue

/-! ### Dropping the oldest MOVE (R150 case 3) -/

theorem dropOldestMove_cons (q : TouchRecord) (rest : List TouchRecord) : dropOldestMove (q :: rest) =
    if q.kind = .move then some rest else (dropOldestMove rest).map (q :: ·) := by
  cases hkind : q.kind <;> simp [dropOldestMove, hkind]

theorem dropOldestMove_of_no_move {queue : List TouchRecord} (h : ∀ x ∈ queue, x.kind ≠ .move) :
    dropOldestMove queue = none := by
  induction queue with
  | nil => rfl
  | cons a rest ih =>
    obtain ⟨ha, hrest⟩ := List.forall_mem_cons.mp h
    rw [dropOldestMove_cons, if_neg ha, ih hrest, Option.map_none]

theorem dropOldestMove_of_oldest {q : TouchRecord} {older newer : List TouchRecord} (hq : q.kind = .move)
    (h : ∀ x ∈ older, x.kind ≠ .move) : dropOldestMove (older ++ q :: newer) = some (older ++ newer) := by
  induction older with
  | nil => simp [dropOldestMove_cons, hq]
  | cons a older ih =>
    obtain ⟨ha, holder⟩ := List.forall_mem_cons.mp h
    simp [dropOldestMove_cons, ha, ih holder]

/-! ### The queue after a record (R150) -/

section Queue
variable {t : TouchRecord} {queue : List TouchRecord}

theorem touchQueueAfter_of_newest {q : TouchRecord} {older newer : List TouchRecord} (ht : t.kind = .move)
    (hnewest : NewestOfContact t.contact queue older newer q) (hq : q.kind = .move) :
    touchQueueAfter t queue = (older ++ q.movedTo t :: newer, false) := by
  simp only [touchQueueAfter, coalesce_of_newest ht hnewest hq]

theorem touchQueueAfter_of_room (h : ¬ Merges t queue) (hroom : queue.length < 16) :
    touchQueueAfter t queue = (queue ++ [t], false) := by
  simp only [touchQueueAfter, coalesce_of_not_merges h, if_pos hroom]

/-- A full queue discards a MOVE that cannot be merged. -/
theorem touchQueueAfter_of_full_move (h : ¬ Merges t queue) (hfull : 16 ≤ queue.length) (ht : t.kind = .move) :
    touchQueueAfter t queue = (queue, true) := by
  simp only [touchQueueAfter, coalesce_of_not_merges h, if_neg (Nat.not_lt.mpr hfull), ht]

/-- A DOWN or UP at a full queue turns on whether a MOVE can be dropped for it. -/
theorem touchQueueAfter_of_full_not_move (hfull : 16 ≤ queue.length) (ht : t.kind ≠ .move) :
    touchQueueAfter t queue = ((dropOldestMove queue).elim queue (· ++ [t]), true) := by
  simp only [touchQueueAfter, coalesce_of_not_move ht, if_neg (Nat.not_lt.mpr hfull)]
  cases hkind : t.kind with
  | move => exact absurd hkind ht
  | down | up => cases dropOldestMove queue <;> rfl

theorem touchQueueAfter_of_no_place (h : ¬ Merges t queue) (hfull : 16 ≤ queue.length)
    (hnone : t.kind = .move ∨ ∀ x ∈ queue, x.kind ≠ .move) : touchQueueAfter t queue = (queue, true) := by
  by_cases ht : t.kind = .move
  · exact touchQueueAfter_of_full_move h hfull ht
  · rw [touchQueueAfter_of_full_not_move hfull ht, dropOldestMove_of_no_move (hnone.resolve_left ht), Option.elim_none]

theorem touchQueueAfter_of_oldest {q : TouchRecord} {older newer : List TouchRecord} (hfull : 16 ≤ queue.length)
    (ht : t.kind ≠ .move) (hqueue : queue = older ++ q :: newer) (hq : q.kind = .move)
    (holder : ∀ x ∈ older, x.kind ≠ .move) : touchQueueAfter t queue = (older ++ newer ++ [t], true) := by
  rw [touchQueueAfter_of_full_not_move hfull ht, hqueue, dropOldestMove_of_oldest hq holder, Option.elim_some]

end Queue

/-! ### A touch record and the status bytes of a status record (R135, R149 to R151) -/

theorem takeTouch_of_invalid {t : TouchRecord} (h : 9 < t.contact) (s : State) (l : Fin 4) :
    s.takeTouch l t = s.modLink l (fun v => { v with touchInvalid := bump v.touchInvalid }) := if_pos h

/-- Link l with queue q, an overflow counted or not, and TOUCH posted if the queue was empty before. -/
def State.withTouchQueue (s : State) (l : Fin 4) (q : List TouchRecord) (overflow : Bool) : State :=
  let after := s.modLink l (fun v => { v with
    touch := q, touchOverflow := if overflow then bump v.touchOverflow else v.touchOverflow })
  if (s.link l).touch = [] then after.post .touch l.val else after

theorem takeTouch_of_queueAfter {s : State} {l : Fin 4} {t : TouchRecord} {q : List TouchRecord} {overflow : Bool}
    (hcontact : t.contact ≤ 9) (h : touchQueueAfter t (s.link l).touch = (q, overflow)) :
    s.takeTouch l t = s.withTouchQueue l q overflow := by
  simp only [State.takeTouch, if_neg (Nat.not_lt.mpr hcontact), h, List.isEmpty_iff, State.withTouchQueue]

theorem takeMirror_same {s : State} {l : Fin 4} {bytes : Four Byte} (h : (s.link l).mirror = bytes) :
    s.takeMirror l bytes = s := if_pos h

theorem takeMirror_changed {s : State} {l : Fin 4} {bytes : Four Byte} (h : (s.link l).mirror ≠ bytes) :
    s.takeMirror l bytes =
      (s.modLink l (fun v => { v with mirror := bytes, mirrorChanged := true })).post .screenStatus l.val := if_neg h

/-! ### The requests (R136, R151) -/

theorem four?_of_gt {b : Byte} (h : 3 < b.toNat) : four? b = none := dif_neg (by omega)

theorem four?_of_val {b : Byte} {i : Fin 4} (h : i.val = b.toNat) : four? b = some i := by
  have hlt : b.toNat < 4 := by omega
  rw [four?, dif_pos hlt]
  exact congrArg some (Fin.ext h.symm)

theorem touchFetchHandler_of_none {body : List Byte} (h : four? (byteAt body 0) = none) (s : State) :
    touchFetchHandler body s = s.refuse .badArg := by
  simp only [touchFetchHandler, h]

theorem touchFetchHandler_of_some {body : List Byte} {l : Fin 4} (h : four? (byteAt body 0) = some l) (s : State) :
    touchFetchHandler body s =
      (s.modLink l (fun v => { v with touch := [], touchOverflow := 0, touchLost := 0, touchInvalid := 0 })).done
        ([byteOf (s.link l).touch.length] ++ halfBytes (s.link l).touchOverflow ++ halfBytes (s.link l).touchLost ++
          halfBytes (s.link l).touchInvalid ++ ((s.link l).touch.map TouchRecord.bytes).flatten) := by
  simp only [touchFetchHandler, h]

theorem screenStatusHandler_of_none {body : List Byte} (h : four? (byteAt body 0) = none) (s : State) :
    screenStatusHandler body s = s.refuse .badArg := by
  simp only [screenStatusHandler, h]

theorem screenStatusHandler_of_some {body : List Byte} {l : Fin 4} (h : four? (byteAt body 0) = some l) (s : State) :
    screenStatusHandler body s = (s.modLink l (fun v => { v with mirrorChanged := false })).done
      ((s.link l).mirror.toList ++ [flagByte (s.link l).mirrorChanged]) := by
  simp only [screenStatusHandler, h]

/-- What the owner's handler answers is the outcome of the request row. -/
theorem exec_of_handler {i : Instr} {k : RequestKind} {dt : Nat} {tag : Byte} {body : List Byte} {s : State}
    {a : Answer} (h : requestOf i = some (k, dt, tag, body)) (hs : Awake s) (hl : k.lengthOk body = true)
    (ha : handlerOf k body (arrived s dt body) = a) : exec i s = .next (replied a.after k tag a.status a.body) :=
  ha ▸ exec_owner h hs hl

/-- Settles O47. The requests answer by their handlers; a touch record has its effect through the queue it leaves, and
the cases of R150 are the outcomes of merging and of dropping the oldest MOVE. -/
theorem touchAndMirrorRules : Obligations.TouchAndMirrorRules := by
  unfold Obligations.TouchAndMirrorRules
  refine ⟨fun s dt tag n hs => ⟨fun hn => ?refused, fun l hl => ?answered⟩,
    fun s l bytes => ⟨takeMirror_same, takeMirror_changed⟩,
    fun s l t => ⟨fun hcontact => takeTouch_of_invalid hcontact s l, fun hcontact => ?queue⟩⟩
  case refused =>
    have hnone : four? (byteAt [n] 0) = none := four?_of_gt hn
    exact ⟨exec_of_handler (k := .touchFetch) rfl hs rfl (touchFetchHandler_of_none hnone _),
      exec_of_handler (k := .screenStatus) rfl hs rfl (screenStatusHandler_of_none hnone _)⟩
  case answered =>
    have hsome : four? (byteAt [n] 0) = some l := four?_of_val hl
    exact ⟨exec_of_handler (k := .touchFetch) rfl hs rfl (touchFetchHandler_of_some hsome _),
      exec_of_handler (k := .screenStatus) rfl hs rfl (screenStatusHandler_of_some hsome _)⟩
  case queue =>
    refine ⟨?merged, ?room, ?noPlace, ?dropped⟩
    case merged =>
      exact fun older newer q ht hnewest hq =>
        takeTouch_of_queueAfter hcontact (touchQueueAfter_of_newest ht hnewest hq)
    case room =>
      exact fun hmerges hroom => takeTouch_of_queueAfter hcontact (touchQueueAfter_of_room hmerges hroom)
    case noPlace =>
      exact fun hmerges hfull hnone =>
        takeTouch_of_queueAfter hcontact (touchQueueAfter_of_no_place hmerges hfull hnone)
    case dropped =>
      exact fun older q newer hfull ht hqueue hq holder =>
        takeTouch_of_queueAfter hcontact (touchQueueAfter_of_oldest hfull ht hqueue hq holder)

end Sys2Proof.Machine
end

section
/-! PROOF of IntegrityRequestRules (O35). What each handler of R188 to R190 answers for an output that does not exist, for
one without a context and for one with a context; then the bytes of INTEGRITY_STATUS; then the three requests. -/

namespace Sys2Proof.Machine

open Sys2Proof.Claims

/-! ### What the handlers answer (R188 to R190) -/

section Handlers

variable {body : List Byte} {s : State} {o : Fin 4} {c : Context}

theorem crcInjectHandler_of_none (h : four? (byteAt body 0) = none) (s : State) :
    crcInjectHandler body s = s.refuse .badArg := by
  simp only [crcInjectHandler, h]

theorem crcInjectHandler_of_no_context (h : four? (byteAt body 0) = some o) (hc : (s.output o).context = none) :
    crcInjectHandler body s = s.refuse .wrongState := by
  simp only [crcInjectHandler, h, hc]

theorem crcInjectHandler_of_context (h : four? (byteAt body 0) = some o) (hc : (s.output o).context = some c) :
    crcInjectHandler body s =
      (s.modOutput o (fun v => { v with
        context := some { c with inject := min 8 (max 1 (byteAt body 1).toNat) } })).done
        [byteOf (min 8 (max 1 (byteAt body 1).toNat))] := by
  simp only [crcInjectHandler, h, hc]

theorem integrityClearHandler_of_none (h : four? (byteAt body 0) = none) (s : State) :
    integrityClearHandler body s = s.refuse .badArg := by
  simp only [integrityClearHandler, h]

theorem integrityClearHandler_of_no_context (h : four? (byteAt body 0) = some o)
    (hc : (s.output o).context = none) : integrityClearHandler body s = s.refuse .wrongState := by
  simp only [integrityClearHandler, h, hc]

theorem integrityClearHandler_of_context (h : four? (byteAt body 0) = some o) (hc : (s.output o).context = some c) :
    integrityClearHandler body s =
      (s.modOutput o (fun v => { v with
        context := some { c with integrity := .clean, blanked := false, bad := 0, good := 0 } })).done [] := by
  simp only [integrityClearHandler, h, hc]

theorem integrityStatusHandler_of_none (h : four? (byteAt body 0) = none) (s : State) :
    integrityStatusHandler body s = s.refuse .badArg := by
  simp only [integrityStatusHandler, h]

/-- INTEGRITY_STATUS never refuses an output that exists: it reads whatever stands there and zeroes the comparisons. -/
theorem integrityStatusHandler_of_some (h : four? (byteAt body 0) = some o) (s : State) :
    integrityStatusHandler body s =
      (s.modOutput o (fun v => { v with comparisons := ⟨0, 0, 0, 0, 0, 0⟩ })).done (s.output o).integrityBody := by
  simp only [integrityStatusHandler, h]

end Handlers

/-! ### The clamped count (R188) -/

/-- The handler clamps from both sides at once; R188 treats 0 apart. -/
theorem injectCount_eq (n : Nat) : min 8 (max 1 n) = if n = 0 then 1 else min 8 n := by
  split <;> omega

/-! ### The bytes of INTEGRITY_STATUS (R190) -/

theorem Comparisons.bytes_eq_flatten (k : Comparisons) : k.bytes =
    ([k.good, k.mismatch, k.missing, k.late, k.injected, k.noContext].map halfBytes).flatten := rfl

theorem Output.integrityBody_of_no_context {v : Output} (h : v.context = none) :
    v.integrityBody = List.replicate 17 0 ++ v.comparisons.bytes := by
  simp only [Output.integrityBody, h]

theorem flagByte_isSome (age : Option Word) : flagByte age.isSome = if age = none then 0 else 1 := by
  cases age with
  | none => rfl
  | some a => rfl

theorem wordOr0_eq_getD (age : Option Word) : wordOr0 age = wordBytes (age.getD 0) := by
  cases age with
  | none => rfl
  | some a => rfl

theorem Output.integrityBody_of_context {v : Output} {c : Context} {p : SafetyPart} (hc : v.context = some c)
    (hp : v.route.safety = some p) : v.integrityBody =
      [1, byteOf p.action.code, byteOf p.threshold, byteOf c.freshness.code, if c.age = none then 0 else 1] ++
      wordBytes (c.age.getD 0) ++ [byteOf c.integrity.code, flagByte c.blanked] ++ halfBytes c.bad ++ halfBytes c.good ++
      [byteOf c.queue.length, byteOf c.inject] ++ v.comparisons.bytes := by
  simp only [Output.integrityBody, hc, hp, flagByte_isSome, wordOr0_eq_getD]

/-! ### The requests -/

/-- Settles O35. Each request is answered by its handler (exec_of_handler); the cases of the statement are those of the
handlers: the output does not exist, it has no context, it has one. -/
theorem integrityRequestRules : Obligations.IntegrityRequestRules := by
  unfold Obligations.IntegrityRequestRules
  refine ⟨fun s dt tag n count hs => ⟨fun hn => ?injectRefused, fun o ho => ⟨fun hc => ?injectWrong, fun c hc => ?inject⟩⟩,
    fun s dt tag n hs => ⟨fun hn => ?refused, fun o ho =>
      ⟨fun hc => ?withoutContext, fun c hc => ?cleared, fun c p hc hp => ?status⟩⟩⟩
  case injectRefused =>
    have hnone : four? (byteAt [n, count] 0) = none := four?_of_gt hn
    exact exec_of_handler (k := .crcInject) rfl hs rfl (crcInjectHandler_of_none hnone _)
  case injectWrong =>
    have hsome : four? (byteAt [n, count] 0) = some o := four?_of_val ho
    exact exec_of_handler (k := .crcInject) rfl hs rfl (crcInjectHandler_of_no_context hsome hc)
  case inject =>
    have hsome : four? (byteAt [n, count] 0) = some o := four?_of_val ho
    rw [← injectCount_eq]
    exact exec_of_handler (k := .crcInject) rfl hs rfl (crcInjectHandler_of_context hsome hc)
  case refused =>
    have hnone : four? (byteAt [n] 0) = none := four?_of_gt hn
    exact ⟨exec_of_handler (k := .integrityClear) rfl hs rfl (integrityClearHandler_of_none hnone _),
      exec_of_handler (k := .integrityStatus) rfl hs rfl (integrityStatusHandler_of_none hnone _)⟩
  case withoutContext =>
    have hsome : four? (byteAt [n] 0) = some o := four?_of_val ho
    have hread := integrityStatusHandler_of_some hsome (arrived s dt [n])
    rw [Output.integrityBody_of_no_context hc, Comparisons.bytes_eq_flatten] at hread
    exact ⟨exec_of_handler (k := .integrityClear) rfl hs rfl (integrityClearHandler_of_no_context hsome hc),
      exec_of_handler (k := .integrityStatus) rfl hs rfl hread⟩
  case cleared =>
    have hsome : four? (byteAt [n] 0) = some o := four?_of_val ho
    exact exec_of_handler (k := .integrityClear) rfl hs rfl (integrityClearHandler_of_context hsome hc)
  case status =>
    have hsome : four? (byteAt [n] 0) = some o := four?_of_val ho
    have hread := integrityStatusHandler_of_some hsome (arrived s dt [n])
    rw [Output.integrityBody_of_context hc hp, Comparisons.bytes_eq_flatten] at hread
    exact exec_of_handler (k := .integrityStatus) rfl hs rfl hread

end Sys2Proof.Machine
end

section
/-! PROOF of PostingRules (O9). What a posting does to the occurrence counts: entry by entry for the counts it leaves
alone, and by the order of the table for the one it raises. -/

namespace Sys2Proof.Machine

open Sys2Proof.Claims

/-! ### The count of a kind and object -/

theorem countOf_cons (n : Notice) (ns : List Notice) (k : NoticeKind) (o : Nat) :
    countOf (n :: ns) k o = if n.kind = k ∧ n.object = o then n.count else countOf ns k o := by
  unfold countOf
  split
  next hfound => rw [List.find?_cons_of_pos (by simpa using hfound)]; rfl
  next hother => rw [List.find?_cons_of_neg (by simpa using hother)]

theorem countOf_eq_zero {ns : List Notice} {k : NoticeKind} {o : Nat}
    (h : ∀ n ∈ ns, ¬(n.kind = k ∧ n.object = o)) : countOf ns k o = 0 := by
  have hnone : ns.find? (fun n => n.kind == k && n.object == o) = none :=
    List.find?_eq_none.mpr fun n hn => by simpa using h n hn
  rw [countOf, hnone]
  rfl

/-! ### The order of the table (R198) -/

theorem NoticeKind.before_iff {k : NoticeKind} {o c : Nat} {n : Notice} :
    k.before o n = true ↔ noticeLt ⟨k, o, c⟩ n := by
  simp [NoticeKind.before, noticeLt]

/-- An entry that comes after (k, o) is not the entry of (k, o). -/
theorem not_same_of_noticeLt {k : NoticeKind} {o c : Nat} {n : Notice} (h : noticeLt ⟨k, o, c⟩ n) :
    ¬(n.kind = k ∧ n.object = o) := by
  rintro ⟨rfl, rfl⟩
  simp [noticeLt] at h

/-- In an ordered table nothing is pending for a kind and object that come before the first entry. -/
theorem countOf_eq_zero_of_before {k : NoticeKind} {o : Nat} {m : Notice} {rest : List Notice}
    (hsorted : (m :: rest).Pairwise noticeLt) (hbefore : k.before o m = true) : countOf (m :: rest) k o = 0 := by
  have hfirst : noticeLt ⟨k, o, 1⟩ m := NoticeKind.before_iff.mp hbefore
  refine countOf_eq_zero fun n hn => not_same_of_noticeLt (c := 1) ?_
  rcases List.mem_cons.mp hn with rfl | hrest
  · exact hfirst
  · exact noticeLt_trans hfirst (List.rel_of_pairwise_cons hsorted hrest)

/-! ### The counts after a posting (R197) -/

/-- The counts of all other kinds and objects stay, in whatever order the table is. -/
theorem countOf_raiseNotice_other {k k' : NoticeKind} {o o' : Nat} (h : k' ≠ k ∨ o' ≠ o) (ns : List Notice) :
    countOf (raiseNotice k o ns) k' o' = countOf ns k' o' := by
  have hnot : ¬(k = k' ∧ o = o') := by
    rintro ⟨rfl, rfl⟩
    simp at h
  induction ns with
  | nil => rw [raiseNotice, countOf_cons, if_neg hnot]
  | cons m rest ih =>
    rw [raiseNotice]
    split
    next hsame =>
      obtain ⟨rfl, rfl⟩ := hsame
      rw [countOf_cons, countOf_cons, if_neg hnot, if_neg hnot]
    next hdiff =>
      split
      next => rw [countOf_cons, if_neg hnot]
      next => rw [countOf_cons, countOf_cons, ih]

/-- The count of the kind and object posted rises by 1 and stays at 255. The order of the table is what makes a new entry
the only one of its kind and object. -/
theorem countOf_raiseNotice_same (k : NoticeKind) (o : Nat) {ns : List Notice} (hsorted : ns.Pairwise noticeLt) :
    countOf (raiseNotice k o ns) k o = min 255 (countOf ns k o + 1) := by
  induction ns with
  | nil => rw [raiseNotice, countOf_cons, if_pos ⟨rfl, rfl⟩]; rfl
  | cons m rest ih =>
    rw [raiseNotice]
    split
    next hsame => rw [countOf_cons, countOf_cons, if_pos hsame, if_pos hsame]
    next hdiff =>
      split
      next hbefore => rw [countOf_cons, if_pos ⟨rfl, rfl⟩, countOf_eq_zero_of_before hsorted hbefore]; rfl
      next => rw [countOf_cons, countOf_cons, if_neg hdiff, if_neg hdiff, ih (List.Pairwise.of_cons hsorted)]

/-! ### A posting -/

theorem post_of_blocked {s : State} {k : NoticeKind} (h : s.mode = .init ∨ s.masked k = true) (o : Nat) :
    s.post k o = s := if_pos h

theorem post_of_not_blocked {s : State} {k : NoticeKind} (hmode : s.mode ≠ .init) (hmask : s.masked k = false) (o : Nat) :
    s.post k o = { s with notices := raiseNotice k o s.notices } :=
  if_neg (not_or.mpr ⟨hmode, by simp [hmask]⟩)

/-- Settles O9. A posting that INIT or the mask does not stop raises its notice in the table; the order of the table,
which posting keeps, decides the counts. -/
theorem postingRules : Obligations.PostingRules := by
  unfold Obligations.PostingRules
  refine fun s k o hok => ⟨fun hblocked => post_of_blocked hblocked o, fun hmode hmask => ?raised⟩
  case raised =>
    have hpost := post_of_not_blocked hmode hmask o
    exact ⟨raiseNotice k o s.notices, hpost, hpost ▸ post_noticesOk s k o hok, countOf_raiseNotice_same k o hok.1,
      fun k' o' hother => countOf_raiseNotice_other hother s.notices⟩

end Sys2Proof.Machine
end

section
/-! PROOF of FetchAndMask (O10). What the two handlers answer and what SOFT_RESET leaves in the mask; the requests then
answer by their handlers (exec_of_handler). -/

namespace Sys2Proof.Machine

open Sys2Proof.Claims

@[simp] theorem post_mask (s : State) (k : NoticeKind) (o : Nat) : (s.post k o).mask = s.mask := by
  obtain ⟨_, h⟩ := post_eq s k o
  rw [h]

/-- The handler lists each entry in the bytes of 11.3. -/
theorem noticeFetchHandler_eq (body : List Byte) (s : State) : noticeFetchHandler body s =
    ({ s with notices := [] } : State).done ((s.notices.map noticeEntry).flatten) := rfl

theorem noticeMaskHandler_eq (body : List Byte) (s : State) : noticeMaskHandler body s =
    ({ s with
      mask := effectiveMask (word body 0)
      notices := s.notices.filter (fun n => !(effectiveMask (word body 0)).getLsbD n.kind.code) } : State).done
      (wordBytes (effectiveMask (word body 0))) := rfl

theorem attn_of_no_notices {s : State} (h : s.notices = []) : s.attn = false := by simp [State.attn, h]

/-- SOFT_RESET clears the mask, and the RESET_DONE it posts leaves it clear. -/
theorem softReset_mask (s : State) : s.softReset.mask = 0 := post_mask ..

/-- Settles O10. -/
theorem fetchAndMask : Obligations.FetchAndMask := by
  unfold Obligations.FetchAndMask
  refine ⟨fun s dt tag hs => ⟨fun hok => hok.1, _, ?fetch, ?attn, rfl⟩, fun s dt tag body hs hlength => ?mask, rfl,
    softReset_mask⟩
  case fetch => exact exec_of_handler (k := .noticeFetch) rfl hs rfl (noticeFetchHandler_eq [] _)
  case attn => exact attn_of_no_notices rfl
  case mask =>
    have hl : RequestKind.noticeMask.lengthOk body = true := by simp [RequestKind.lengthOk, hlength]
    exact exec_of_handler (k := .noticeMask) rfl hs hl (noticeMaskHandler_eq body _)

end Sys2Proof.Machine
end

section
/-! PROOF of IdentityAndStatus (O11). The reply bytes of the two handlers, read off the state as it stood before the
request; IDENTIFY is the one request that INIT answers. -/

namespace Sys2Proof.Machine

open Sys2Proof.Claims

/-! ### What a request finds unchanged as it arrives -/

@[simp] theorem Channel.elapse_cap (v : Channel) (dt : Nat) : (v.elapse dt).cap = v.cap := rfl

@[simp] theorem channel_arrived (s : State) (dt : Nat) (body : List Byte) (c : Fin 4) :
    (arrived s dt body).channel c = (s.channel c).elapse dt := channel_elapse s dt c

/-! ### The handlers -/

theorem Four.toList_eq_map_get {α : Type} (v : Four α) : v.toList = allFour.map v.get := rfl

/-- R205: codes, revision, number of segments and the caps in channel order. -/
theorem identifyHandler_eq (body : List Byte) (s : State) : identifyHandler body s =
    s.done ([0x4E, 0x20, 0x41, 1, 32] ++ (allFour.map (fun c => halfOf (s.channel c).cap.milliamps)).flatten) := by
  have hpart : halfOf 0x4120 = [0x20, 0x41] := by decide
  have hcaps : s.channels.toList.map capBytes = allFour.map (fun c => halfOf (s.channel c).cap.milliamps) := by
    rw [Four.toList_eq_map_get, List.map_map]
    rfl
  rw [identifyHandler, hpart, hcaps]
  rfl

theorem byteOf_initResult (r : InitResult) : byteOf r.code = if r = .ok then 0 else 1 := by
  cases r with
  | ok => rfl
  | storeFault => rfl

/-- R206: the body of DEVICE_STATUS, field by field. -/
theorem State.deviceBody_eq (s : State) : s.deviceBody =
    [BitVec.ofNat 8 s.mode.code, if s.initResult = .ok then 0 else 1, BitVec.ofNat 8 s.thermal.code] ++
      halfBytes (BitVec.ofInt 16 s.temperature) ++
      [if s.thermalChanged then 1 else 0, BitVec.ofNat 8 (s.segments.filter (fun e => e == none)).length] ++
      halfBytes s.stray ++ wordBytes s.timeBase := by
  rw [State.deviceBody, byteOf_initResult]
  rfl

theorem deviceStatusHandler_eq (body : List Byte) (s : State) : deviceStatusHandler body s =
    ({ s with thermalChanged := false, stray := 0 } : State).done s.deviceBody := rfl

/-! ### The requests -/

/-- INIT too answers IDENTIFY (R195). -/
theorem exec_identify {s : State} (dt : Nat) (tag : Byte) (h : s.mode ≠ .sleep) : exec (.identify dt tag []) s =
    .next (replied (identifyHandler [] (arrived s dt [])).after .identify tag
      (identifyHandler [] (arrived s dt [])).status (identifyHandler [] (arrived s dt [])).body) := by
  rw [exec_request (i := .identify dt tag []) rfl, request_awake dt .identify tag [] h,
    handle_owner tag (.inr rfl) rfl]
  rfl

/-- Settles O11. The bytes of each reply are those of its handler, and the fields read are as they stood before the
request but for the time base. -/
theorem identityAndStatus : Obligations.IdentityAndStatus := by
  unfold Obligations.IdentityAndStatus
  refine ⟨fun s dt tag hawake => ?identify, fun s dt tag hs => ?status⟩
  case identify =>
    rw [exec_identify dt tag hawake, identifyHandler_eq]
    simp only [channel_arrived, Channel.elapse_cap]
    rfl
  case status =>
    have hread := deviceStatusHandler_eq [] (arrived s dt [])
    rw [State.deviceBody_eq] at hread
    exact exec_of_handler (k := .deviceStatus) rfl hs rfl hread

end Sys2Proof.Machine
end

section
/-! What a change of the state keeps: the properties of Safety.lean taken apart, object by object, and what a change of one
object needs so that it keeps them. The statements O55 to O59 put them together. -/

namespace Sys2Proof.Machine

/-! ### The laws -/

/-- The slot a RECEIVING stream writes to. -/
def Stream.writing (r : Stream) : Option (Fin 4) :=
  match r.state with
  | .receiving f => some f.slot
  | .idle | .fixed => none

/-- The write slot of a stream is FILLING (R7). -/
def Stream.WritesFilling (r : Stream) : Prop := ∀ j, r.writing = some j → r.slot j = .filling

/-- A stream that is open and whose slot j is READY. -/
def State.ReadyAt (s : State) (ref : SlotRef) : Prop :=
  ∃ r q, s.stream ref.stream = some r ∧ r.slot ref.index = .ready q

/-- What an output shows: nothing unless it runs, and then a READY slot of a stream that its route names (R13, R14). -/
def State.ShowsReady (s : State) (v : Output) : Prop :=
  (v.state.running = false → v.current = none) ∧
  ∀ ref, v.current = some ref → v.route.names ref.stream = true ∧ s.ReadyAt ref

/-- The link part of the power and custody rules: outside UP nothing awaits and no half is pending (R112, R139). -/
def Link.Quiet (v : Link) : Prop := v.state = .up ∨ (v.awaiting = [] ∧ v.halfPending = false)

/-- A link that does not need its channel in ACTIVE (R111). -/
def LinkState.needsNoPower (a : LinkState) : Prop := a = .disabled ∨ a = .waitPower

/-- Nothing of number n is powered or runs. -/
def State.DarkAt (s : State) (n : Fin 4) : Prop :=
  (s.link n).state = .disabled ∧ (s.channel n).state = .off ∧ (s.channel n).waiting = false ∧
    (s.output n).state.running = false

/-- One property of the state that every command keeps, for one object where it speaks of several. -/
inductive Law where
  | store
  | notices
  | mask
  | aliases
  | queues (l : Fin 4)
  | limit (c : Fin 4)
  | context (o : Fin 4)
  | powered (l : Fin 4)
  | tier (o : Fin 4)
  | custody (o : Fin 4)
  | timers
  | held (o : Fin 4)
  | dark (n : Fin 4)
  | noWindow
deriving DecidableEq

def Law.Holds : Law → State → Prop
  | .store, s => StoreOk s
  | .notices, s => NoticesOk s
  | .mask, s => MaskOk s
  | .aliases, s => s.aliases.length ≤ 16
  | .queues l, s => (s.link l).touch.length ≤ 16 ∧ (s.link l).awaiting.length ≤ 2
  | .limit c, s => (s.channel c).policy.limit ≤ (s.channel c).cap.milliamps
  | .context o, s => (s.output o).context.isSome = (s.output o).route.safety.isSome
  | .powered l, s => ((s.link l).state.needsNoPower ∨ (s.channel l).state = .active) ∧ (s.link l).Quiet
  | .tier o, s => (s.output o).tier = s.tierNow o
  | .custody o, s => (∀ i r, s.stream i = some r → r.WritesFilling) ∧ s.ShowsReady (s.output o)
  | .timers, s => ModeTimersOk s
  | .held o, s => ModeTimersOk s ∧ (s.mode = .run ∨ ((s.output o).state ≠ .scanning ∧ (s.output o).state ≠ .paused))
  | .dark n, s => s.mode = .sleep → s.DarkAt n
  | .noWindow, s => s.wakeWindow = none

/-- A change keeps every law but those listed, takes no time and leaves the queue of commands. -/
structure KeepsBut (x : List Law) (s t : State) : Prop where
  law : ∀ law, law ∉ x → law.Holds s → law.Holds t
  pending : t.pending = s.pending
  time : t.timeBase = s.timeBase

/-- A change keeps every law. -/
abbrev Keeps (s t : State) : Prop := KeepsBut [] s t

theorem KeepsBut.refl (x : List Law) (s : State) : KeepsBut x s s := ⟨fun _ _ h => h, rfl, rfl⟩

theorem KeepsBut.trans {x : List Law} {s t u : State} (h : KeepsBut x s t) (g : KeepsBut x t u) : KeepsBut x s u :=
  ⟨fun law hx hs => g.law law hx (h.law law hx hs), g.pending.trans h.pending, g.time.trans h.time⟩

/-- The last of two changes first: its own states tell which state the other one leaves. -/
theorem KeepsBut.after {x : List Law} {s t u : State} (g : KeepsBut x t u) (h : KeepsBut x s t) : KeepsBut x s u :=
  h.trans g

theorem Keeps.but {s t : State} (h : Keeps s t) (x : List Law) : KeepsBut x s t :=
  ⟨fun law _ => h.law law (by simp), h.pending, h.time⟩

/-- A change that keeps all laws but some keeps those too when they hold of what it leaves. -/
theorem KeepsBut.all {x : List Law} {s t : State} (h : KeepsBut x s t) (hx : ∀ law ∈ x, law.Holds s → law.Holds t) :
    Keeps s t :=
  ⟨fun law _ hs => if hl : law ∈ x then hx law hl hs else h.law law hl hs, h.pending, h.time⟩

/-! ### Changes that no law sees -/

/-- Two states that agree in time, in the queue of commands and in all the laws speak of. -/
structure SameParts (s t : State) : Prop where
  pending : t.pending = s.pending
  time : t.timeBase = s.timeBase
  mode : t.mode = s.mode
  initTimer : t.initTimer.isSome = true → s.initTimer.isSome = true
  wakeWindow : t.wakeWindow.isSome = true → s.wakeWindow.isSome = true
  store : t.store = s.store
  notices : t.notices = s.notices
  mask : t.mask = s.mask
  aliases : t.aliases = s.aliases
  streams : t.streams = s.streams
  outputs : t.outputs = s.outputs
  links : t.links = s.links
  channels : t.channels = s.channels

theorem SameParts.keeps {s t : State} (h : SameParts s t) : Keeps s t := by
  obtain ⟨hpending, htime, hmode, hinit, hwake, hstore, hnotices, hmask, haliases, hstreams, houtputs, hlinks, hchannels⟩ := h
  have hstream (i : Fin 8) : t.stream i = s.stream i := by rw [State.stream, State.stream, hstreams]
  have houtput (o : Fin 4) : t.output o = s.output o := by rw [State.output, State.output, houtputs]
  have hlink (l : Fin 4) : t.link l = s.link l := by rw [State.link, State.link, hlinks]
  have hchannel (c : Fin 4) : t.channel c = s.channel c := by rw [State.channel, State.channel, hchannels]
  have htimers : ModeTimersOk s → ModeTimersOk t := fun hs =>
    ⟨fun hi => hmode.trans (hs.1 (hinit hi)), fun hw => hmode.trans (hs.2 (hwake hw))⟩
  refine ⟨fun law _ hs => ?_, hpending, htime⟩
  cases law with
  | store => rwa [Law.Holds, StoreOk, hstore]
  | notices => rwa [Law.Holds, NoticesOk, hnotices]
  | mask => rwa [Law.Holds, MaskOk, hmask]
  | aliases => rwa [Law.Holds, haliases]
  | queues l => rwa [Law.Holds, hlink]
  | limit c => rwa [Law.Holds, hchannel]
  | context o => rwa [Law.Holds, houtput]
  | powered l => rwa [Law.Holds, hlink, hchannel]
  | tier o => rwa [Law.Holds, State.tierNow, houtput, hlink]
  | custody o => simpa only [Law.Holds, State.ShowsReady, State.ReadyAt, hstream, houtput] using hs
  | timers => exact htimers hs
  | held o => exact ⟨htimers hs.1, by rw [hmode, houtput]; exact hs.2⟩
  | dark n => simpa only [Law.Holds, State.DarkAt, hmode, hlink, hchannel, houtput] using hs
  | noWindow =>
    rw [Law.Holds, ← Option.not_isSome_iff_eq_none] at hs ⊢
    exact fun ht => hs (hwake ht)

/-- Changes of the Notice Table. -/
theorem Keeps.ofNotices {s : State} {ns : List Notice} (h : NoticesOk s → NoticesOk { s with notices := ns }) :
    Keeps s { s with notices := ns } := by
  refine ⟨fun law _ hs => ?_, rfl, rfl⟩
  cases law with
  | notices => exact h hs
  | _ => exact hs

theorem post_keeps (s : State) (k : NoticeKind) (o : Nat) : Keeps s (s.post k o) := by
  obtain ⟨ns, hpost⟩ := post_eq s k o
  have hok := post_noticesOk s k o
  rw [hpost] at hok ⊢
  exact Keeps.ofNotices hok

/-- Changes of the store's contents. -/
theorem Keeps.ofStore {s : State} {m : List Host.Cell} (h : storeWf s.store = true → storeWf m = true) :
    Keeps s { s with store := m } := by
  refine ⟨fun law _ hs => ?_, rfl, rfl⟩
  cases law with
  | store => exact h hs
  | _ => exact hs

/-! ### Changes of one object -/

/-- What two values of a link must agree in, for the laws not listed. -/
structure LinkKept (x : List Law) (s : State) (l : Fin 4) (w : Link) : Prop where
  touch : .queues l ∉ x → (s.link l).touch.length ≤ 16 → w.touch.length ≤ 16
  awaiting : .queues l ∉ x → (s.link l).awaiting.length ≤ 2 → w.awaiting.length ≤ 2
  power : .powered l ∉ x → ((s.link l).state.needsNoPower ∨ (s.channel l).state = .active) →
    w.state.needsNoPower ∨ (s.channel l).state = .active
  quiet : .powered l ∉ x → (s.link l).Quiet → w.Quiet
  rate : .tier l ∉ x → w.governingRate = (s.link l).governingRate
  dark : .dark l ∉ x → s.mode = .sleep → s.DarkAt l → w.state = .disabled

theorem setLink_keeps {x : List Law} {s : State} {l : Fin 4} {w : Link} (h : LinkKept x s l w) :
    KeepsBut x s (s.setLink l w) := by
  have hother (m : Fin 4) (hm : m ≠ l) : (s.setLink l w).link m = s.link m := link_setLink_ne s l m w hm
  refine ⟨fun law hx hs => ?_, rfl, rfl⟩
  cases law with
  | queues m =>
    by_cases hm : m = l
    · subst hm; exact ⟨by simpa using h.touch hx hs.1, by simpa using h.awaiting hx hs.2⟩
    · rwa [Law.Holds, hother m hm]
  | powered m =>
    by_cases hm : m = l
    · subst hm; exact ⟨by simpa using h.power hx hs.1, by simpa using h.quiet hx hs.2⟩
    · rwa [Law.Holds, hother m hm]
  | tier m =>
    by_cases hm : m = l
    · subst hm; simpa [Law.Holds, State.tierNow, h.rate hx] using hs
    · rwa [Law.Holds, State.tierNow, hother m hm]
  | dark m =>
    by_cases hm : m = l
    · subst hm
      exact fun hsleep => ⟨by simpa using h.dark hx hsleep (hs hsleep), (hs hsleep).2⟩
    · rw [Law.Holds, State.DarkAt, hother m hm]; exact hs
  | _ => exact hs

theorem modLink_keeps {x : List Law} {s : State} {l : Fin 4} {f : Link → Link} (h : LinkKept x s l (f (s.link l))) :
    KeepsBut x s (s.modLink l f) := setLink_keeps h

/-- A link that keeps its state, what awaits on it, its half frame and its governing rate. -/
theorem LinkKept.ofSame {x : List Law} {s : State} {l : Fin 4} {w : Link} (hstate : w.state = (s.link l).state)
    (hrate : w.governingRate = (s.link l).governingRate) (hhalf : w.halfPending = (s.link l).halfPending)
    (hawaiting : w.awaiting = (s.link l).awaiting) (htouch : w.touch = (s.link l).touch) : LinkKept x s l w where
  touch _ h := by rwa [htouch]
  awaiting _ h := by rwa [hawaiting]
  power _ h := by rwa [hstate]
  quiet _ h := by rwa [Link.Quiet, hstate, hawaiting, hhalf]
  rate _ := hrate
  dark _ _ h := by rw [hstate]; exact h.1

/-- What two values of a channel must agree in, for the laws not listed. -/
structure ChannelKept (x : List Law) (s : State) (c : Fin 4) (w : Channel) : Prop where
  limit : .limit c ∉ x → (s.channel c).policy.limit ≤ (s.channel c).cap.milliamps → w.policy.limit ≤ w.cap.milliamps
  power : .powered c ∉ x → ((s.link c).state.needsNoPower ∨ (s.channel c).state = .active) →
    (s.link c).state.needsNoPower ∨ w.state = .active
  dark : .dark c ∉ x → s.mode = .sleep → s.DarkAt c → w.state = .off ∧ w.waiting = false

theorem modChannel_keeps {x : List Law} {s : State} {c : Fin 4} {f : Channel → Channel}
    (h : ChannelKept x s c (f (s.channel c))) : KeepsBut x s (s.modChannel c f) := by
  have hother (d : Fin 4) (hd : d ≠ c) : (s.modChannel c f).channel d = s.channel d := channel_modChannel_ne s c d f hd
  refine ⟨fun law hx hs => ?_, rfl, rfl⟩
  cases law with
  | limit d =>
    by_cases hd : d = c
    · subst hd; simpa [Law.Holds] using h.limit hx hs
    · rwa [Law.Holds, hother d hd]
  | powered d =>
    by_cases hd : d = c
    · subst hd; exact ⟨by simpa using h.power hx hs.1, hs.2⟩
    · rwa [Law.Holds, hother d hd]
  | dark d =>
    by_cases hd : d = c
    · subst hd
      intro hsleep
      obtain ⟨hoff, hwait⟩ := h.dark hx hsleep (hs hsleep)
      exact ⟨(hs hsleep).1, by simpa using hoff, by simpa using hwait, (hs hsleep).2.2.2⟩
    · rw [Law.Holds, State.DarkAt, hother d hd]; exact hs
  | _ => exact hs

/-- A channel that keeps its state, its waiting flag, its policy and its cap. -/
theorem ChannelKept.ofSame {x : List Law} {s : State} {c : Fin 4} {w : Channel} (hstate : w.state = (s.channel c).state)
    (hwaiting : w.waiting = (s.channel c).waiting) (hpolicy : w.policy = (s.channel c).policy)
    (hcap : w.cap = (s.channel c).cap) : ChannelKept x s c w where
  limit _ h := by rwa [hpolicy, hcap]
  power _ h := by rwa [hstate]
  dark _ _ h := ⟨hstate.trans h.2.1, hwaiting.trans h.2.2.1⟩

/-- What two values of an output must agree in, for the laws not listed. -/
structure OutputKept (x : List Law) (s : State) (o : Fin 4) (w : Output) : Prop where
  context : .context o ∉ x → (s.output o).context.isSome = (s.output o).route.safety.isSome →
    w.context.isSome = w.route.safety.isSome
  tier : .tier o ∉ x → (s.output o).tier = s.tierNow o →
    w.tier = chooseTier w.timing w.route.allow18 w.route.allowAlt (s.link o).governingRate
  shown : .custody o ∉ x → s.ShowsReady (s.output o) → s.ShowsReady w
  held : .held o ∉ x → s.mode ≠ .run → (s.output o).state ≠ .scanning ∧ (s.output o).state ≠ .paused →
    w.state ≠ .scanning ∧ w.state ≠ .paused
  dark : .dark o ∉ x → s.mode = .sleep → s.DarkAt o → w.state.running = false

theorem setOutput_keeps {x : List Law} {s : State} {o : Fin 4} {w : Output} (h : OutputKept x s o w) :
    KeepsBut x s (s.setOutput o w) := by
  have hother (p : Fin 4) (hp : p ≠ o) : (s.setOutput o w).output p = s.output p := output_setOutput_ne s o p w hp
  refine ⟨fun law hx hs => ?_, rfl, rfl⟩
  cases law with
  | context p =>
    by_cases hp : p = o
    · subst hp; simpa [Law.Holds] using h.context hx hs
    · rwa [Law.Holds, hother p hp]
  | tier p =>
    by_cases hp : p = o
    · subst hp; simpa [Law.Holds, State.tierNow] using h.tier hx hs
    · rwa [Law.Holds, State.tierNow, hother p hp]
  | custody p =>
    by_cases hp : p = o
    · subst hp; exact ⟨hs.1, by rw [output_setOutput]; exact h.shown hx hs.2⟩
    · rw [Law.Holds, hother p hp]; exact hs
  | held p =>
    by_cases hp : p = o
    · subst hp
      refine ⟨hs.1, ?_⟩
      by_cases hrun : s.mode = .run
      · exact .inl hrun
      · exact .inr (by rw [output_setOutput]; exact h.held hx hrun (hs.2.resolve_left hrun))
    · rw [Law.Holds, hother p hp]; exact hs
  | dark p =>
    by_cases hp : p = o
    · subst hp
      intro hsleep
      obtain ⟨hlink, hoff, hwait, -⟩ := hs hsleep
      exact ⟨hlink, hoff, hwait, by rw [output_setOutput]; exact h.dark hx hsleep (hs hsleep)⟩
    · rw [Law.Holds, State.DarkAt, hother p hp]; exact hs
  | _ => exact hs

theorem modOutput_keeps {x : List Law} {s : State} {o : Fin 4} {f : Output → Output}
    (h : OutputKept x s o (f (s.output o))) : KeepsBut x s (s.modOutput o f) := setOutput_keeps h

/-- An output that keeps its state, timing, route, tier, current frame, and whether it has a context. -/
theorem OutputKept.ofSame {x : List Law} {s : State} {o : Fin 4} {w : Output} (hstate : w.state = (s.output o).state)
    (htiming : w.timing = (s.output o).timing) (hroute : w.route = (s.output o).route)
    (htier : w.tier = (s.output o).tier) (hcurrent : w.current = (s.output o).current)
    (hcontext : w.context.isSome = (s.output o).context.isSome) : OutputKept x s o w where
  context _ h := by rw [hcontext, hroute, h]
  tier _ h := by rw [htier, h, htiming, hroute, State.tierNow]
  shown _ h := by rwa [State.ShowsReady, hstate, hcurrent, hroute]
  held _ _ h := by rwa [hstate]
  dark _ _ h := by rw [hstate]; exact h.2.2.2

/-- What a changed stream needs: it writes to a FILLING slot, and what an output shows of it stays READY. -/
theorem setStream_keeps {s : State} {i : Fin 8} {b : Option Stream}
    (hwrites : (∀ r, s.stream i = some r → r.WritesFilling) → ∀ r, b = some r → r.WritesFilling)
    (hready : ∀ o j, (∀ r, s.stream i = some r → r.WritesFilling) → (s.output o).current = some ⟨i, j⟩ →
      (s.output o).route.names i = true → s.ReadyAt ⟨i, j⟩ → ∃ r q, b = some r ∧ r.slot j = .ready q) :
    Keeps s (s.setStream i b) := by
  refine ⟨fun law _ hs => ?_, rfl, rfl⟩
  cases law with
  | custody o =>
    obtain ⟨hwriting, hdown, hshown⟩ := hs
    refine ⟨fun k r hr => ?_, hdown, fun ref href => ?_⟩
    · by_cases hk : k = i
      · subst hk
        rw [stream_setStream] at hr
        exact hwrites (hwriting k) r hr
      · rw [stream_setStream_ne s i k b hk] at hr
        exact hwriting k r hr
    · obtain ⟨hnames, hshows⟩ := hshown ref href
      refine ⟨hnames, ?_⟩
      by_cases hi : ref.stream = i
      · obtain ⟨k, j⟩ := ref
        obtain rfl : k = i := hi
        obtain ⟨r, q, hb, hq⟩ := hready o j (hwriting k) href hnames hshows
        exact ⟨r, q, by rw [stream_setStream]; exact hb, hq⟩
      · obtain ⟨r, q, hr, hq⟩ := hshows
        exact ⟨r, q, by rw [stream_setStream_ne s i ref.stream b hi]; exact hr, hq⟩
  | _ => exact hs

/-- A stream that keeps its slots and its write slot. -/
theorem setStream_same_keeps {s : State} {i : Fin 8} {a b : Stream} (ha : s.stream i = some a)
    (hslots : b.slots = a.slots) (hwriting : b.writing = a.writing) : Keeps s (s.setStream i (some b)) := by
  have hslot (j : Fin 4) : b.slot j = a.slot j := by rw [Stream.slot, Stream.slot, hslots]
  refine setStream_keeps (fun h r hr => ?_) (fun o j _ _ _ hready => ?_)
  · obtain rfl := Option.some.inj hr
    intro j hj
    rw [hslot]
    exact h a ha j (hwriting ▸ hj)
  · obtain ⟨r, q, hr, hq⟩ := hready
    obtain rfl := Option.some.inj (ha.symm.trans hr)
    exact ⟨b, q, rfl, by rw [hslot]; exact hq⟩

/-! ### The passing of time -/

theorem Link.elapse_governingRate (v : Link) (dt : Nat) : (v.elapse dt).governingRate = v.governingRate := rfl

theorem Stream.elapse_slots (r : Stream) (dt : Nat) : (r.elapse dt).slots = r.slots := by
  unfold Stream.elapse
  split <;> rfl

theorem Stream.elapse_writing (r : Stream) (dt : Nat) : (r.elapse dt).writing = r.writing := by
  cases hstate : r.state <;> simp [Stream.elapse, Stream.writing, hstate]

theorem stream_elapse (s : State) (dt : Nat) (i : Fin 8) :
    (s.elapse dt).stream i = (s.stream i).map (Stream.elapse dt) := by
  simp [State.stream, State.elapse]

theorem output_elapse (s : State) (dt : Nat) (o : Fin 4) : (s.elapse dt).output o = (s.output o).elapse dt := by
  simp [State.output, State.elapse]

theorem Stream.elapse_slot (r : Stream) (dt : Nat) (j : Fin 4) : (r.elapse dt).slot j = r.slot j := by
  rw [Stream.slot, Stream.elapse_slots, Stream.slot]

theorem runDown_isSome (dt : Nat) (t : Timer) : (runDown dt t).isSome = t.isSome := by
  simp [runDown]

theorem ReadyAt_elapse {s : State} {ref : SlotRef} (dt : Nat) (h : s.ReadyAt ref) : (s.elapse dt).ReadyAt ref := by
  obtain ⟨r, q, hr, hq⟩ := h
  exact ⟨r.elapse dt, q, by rw [stream_elapse, hr]; rfl, by rw [Stream.elapse_slot]; exact hq⟩

/-- The passing of time keeps every law. -/
theorem elapse_holds {s : State} (dt : Nat) (law : Law) (hs : law.Holds s) : law.Holds (s.elapse dt) := by
  have hmode : (s.elapse dt).mode = s.mode := rfl
  have htimers (h : ModeTimersOk s) : ModeTimersOk (s.elapse dt) := by
    simpa [ModeTimersOk, State.elapse, runDown_isSome] using h
  cases law with
  | queues l => simpa [Law.Holds, Link.elapse] using hs
  | limit c => simpa [Law.Holds, Channel.elapse] using hs
  | context o => simpa [Law.Holds, output_elapse, Output.elapse] using hs
  | powered l => simpa [Law.Holds, Link.Quiet, Link.elapse, Channel.elapse] using hs
  | tier o => simpa [Law.Holds, State.tierNow, output_elapse, Output.elapse, Link.elapse_governingRate] using hs
  | custody o =>
    obtain ⟨hwriting, hdown, hshown⟩ := hs
    refine ⟨fun i r hr => ?_, by simpa [output_elapse, Output.elapse] using hdown, fun ref href => ?_⟩
    · rw [stream_elapse, Option.map_eq_some_iff] at hr
      obtain ⟨a, ha, rfl⟩ := hr
      intro j hj
      rw [Stream.elapse_slot]
      exact hwriting i a ha j (by rwa [Stream.elapse_writing] at hj)
    · rw [output_elapse] at href ⊢
      obtain ⟨hnames, hready⟩ := hshown ref href
      exact ⟨hnames, ReadyAt_elapse dt hready⟩
  | timers => exact htimers hs
  | held o => exact ⟨htimers hs.1, by rw [hmode, output_elapse]; exact hs.2⟩
  | dark n =>
    simpa [Law.Holds, State.DarkAt, hmode, output_elapse, Output.elapse, Link.elapse, Channel.elapse] using hs
  | noWindow => simpa [Law.Holds, State.elapse, runDown] using hs
  | _ => exact hs

/-- A change that keeps every law, at once or after some time. -/
def KeepsLater (s t : State) : Prop := Keeps s t ∨ ∃ dt, Keeps (s.elapse dt) t

theorem KeepsLater.holds {s t : State} (h : KeepsLater s t) (law : Law) (hs : law.Holds s) : law.Holds t := by
  obtain h | ⟨dt, h⟩ := h
  · exact h.law law List.not_mem_nil hs
  · exact h.law law List.not_mem_nil (elapse_holds dt law hs)

theorem KeepsLater.pending {s t : State} (h : KeepsLater s t) : t.pending = s.pending := by
  obtain h | ⟨dt, h⟩ := h
  · exact h.pending
  · exact h.pending

/-- A timer expires: what its effect keeps from the moment it takes place. -/
theorem onExpiry_keeps {s : State} {t : Timer} {effect : State → State}
    (h : ∀ left, t = some left → Keeps (s.elapse left) (effect (s.elapse left))) :
    KeepsLater s (s.onExpiry t effect) := by
  unfold State.onExpiry
  split
  · exact .inl (.refl _ s)
  · next left => exact .inr ⟨left, h left rfl⟩

/-- Visits to several objects keep what each keeps. -/
theorem forEach_keepsBut {α : Type} {x : List Law} {f : α → State → State} (h : ∀ a s, KeepsBut x s (f a s))
    (l : List α) (s : State) : KeepsBut x s (forEach l f s) := by
  induction l generalizing s with
  | nil => exact .refl x s
  | cons a l ih => exact (h a s).trans (ih (f a s))

/-! ### Admission -/

/-- An evaluation keeps the laws and brings its output to the tier it chooses. -/
theorem evaluate_keeps (s : State) (o : Fin 4) : Keeps s (s.evaluate o) := by
  unfold State.evaluate
  dsimp only
  split
  · exact .refl _ s
  · refine (post_keeps ..).after (modOutput_keeps ?_)
    exact {
      context := fun _ h => h
      tier := fun _ _ => rfl
      shown := fun _ h => h
      held := fun _ _ h => h
      dark := fun _ _ h => h.2.2.2 }

theorem tierNow_congr {s t : State} {o : Fin 4} (htiming : (t.output o).timing = (s.output o).timing)
    (hroute : (t.output o).route = (s.output o).route) (hlink : t.link o = s.link o) : t.tierNow o = s.tierNow o := by
  rw [State.tierNow, State.tierNow, htiming, hroute, hlink]

theorem evaluate_tier (s : State) (o : Fin 4) : (Law.tier o).Holds (s.evaluate o) := by
  obtain ⟨ns, h⟩ := evaluate_eq s o
  rw [h]
  simp [Law.Holds, State.tierNow, State.output, State.modOutput, State.setOutput, State.link]

end Sys2Proof.Machine
end

section
/-! What remote transactions, touch records and integrity steps keep of the laws (spec/07, spec/09). None of them changes
the state of a link or a channel, so no law is left open. -/

namespace Sys2Proof.Machine

/-! ### Remote transactions -/

theorem splitAtToggle_eq_some {toggle : Bool} {l older newer : List Awaiting} {e : Awaiting}
    (h : splitAtToggle toggle l = some (older, e, newer)) :
    l = older ++ e :: newer ∧ e.toggle = toggle ∧ ∀ x ∈ older, x.toggle ≠ toggle := by
  induction l generalizing older with
  | nil => simp [splitAtToggle] at h
  | cons a rest ih =>
    simp only [splitAtToggle] at h
    split at h
    next htoggle =>
      obtain ⟨rfl, rfl, rfl⟩ : [] = older ∧ a = e ∧ rest = newer := by simpa using h
      exact ⟨rfl, htoggle, by simp⟩
    next htoggle =>
      obtain ⟨⟨older', e', newer'⟩, hrest, heq⟩ := Option.map_eq_some_iff.mp h
      obtain ⟨rfl, rfl, rfl⟩ : a :: older' = older ∧ e' = e ∧ newer' = newer := by simpa using heq
      obtain ⟨rfl, he, holder⟩ := ih hrest
      exact ⟨rfl, he, List.forall_mem_cons.mpr ⟨htoggle, holder⟩⟩

theorem Link.room_awaiting {v : Link} (h : v.room = true) : v.awaiting.length < 2 := by
  simp only [Link.room, Bool.and_eq_true, decide_eq_true_eq] at h
  exact h.2

theorem rationOutcome_keeps (s : State) (l : Fin 4) (ok : Bool) : Keeps s (s.rationOutcome l ok) := by
  unfold State.rationOutcome
  split
  · exact .refl _ s
  · exact modChannel_keeps (.ofSame rfl rfl rfl rfl)

/-- A request is sent only on an UP link with room (R139). -/
theorem sendRequest_keeps {s : State} {l : Fin 4} (hup : (s.link l).state = .up) (hroom : (s.link l).room = true)
    (r : RemoteRequest) (origin : Origin) (address offset : Byte) :
    Keeps s (s.sendRequest l r origin address offset) := by
  have hlength := Link.room_awaiting hroom
  refine modLink_keeps {
    touch := fun _ h => h
    awaiting := fun _ _ => ?_
    power := fun _ h => h
    quiet := fun _ _ => .inl hup
    rate := fun _ => rfl
    dark := fun _ _ h => h.1 }
  rw [List.length_append, List.length_singleton]
  omega

theorem askRation_keeps (s : State) (l : Fin 4) : Keeps s (s.askRation l) := by
  unfold State.askRation
  dsimp only
  split
  · split
    · exact (rationOutcome_keeps _ l false).after (modChannel_keeps (.ofSame rfl rfl rfl rfl))
    · split
      next hready =>
        exact (sendRequest_keeps (s := s.modChannel l _) hready.1 hready.2 ..).after
          (modChannel_keeps (.ofSame rfl rfl rfl rfl))
      next => exact .refl _ s
  · exact .refl _ s

theorem offerRoom_keeps (s : State) (l : Fin 4) : Keeps s (s.offerRoom l) := by
  unfold State.offerRoom
  split
  · exact askRation_keeps s l
  · exact .refl _ s

theorem deliver_keeps (s : State) (l : Fin 4) (e : Awaiting) (outcome : ResultStatus) (data : List Byte) :
    Keeps s (s.deliver l e outcome data) := by
  unfold State.deliver
  split
  · exact (post_keeps ..).after (modLink_keeps (.ofSame rfl rfl rfl rfl rfl))
  · split
    · exact .refl _ s
    · exact modLink_keeps (.ofSame rfl rfl rfl rfl rfl)
  · exact rationOutcome_keeps s l _

/-- The awaiting list gets shorter. -/
theorem shorterAwaiting_keeps {s : State} {l : Fin 4} {es : List Awaiting} (h : es.Sublist (s.link l).awaiting) :
    Keeps s (s.modLink l (fun v => { v with awaiting := es })) := by
  refine modLink_keeps {
    touch := fun _ h => h
    awaiting := fun _ hle => h.length_le.trans hle
    power := fun _ h => h
    quiet := fun _ hquiet => ?_
    rate := fun _ => rfl
    dark := fun _ _ h => h.1 }
  rcases hquiet with hup | ⟨hnone, hhalf⟩
  · exact .inl hup
  · exact .inr ⟨List.sublist_nil.mp (hnone ▸ h), hhalf⟩

theorem takeResponse_keeps (s : State) (l : Fin 4) (r : Response) : Keeps s (s.takeResponse l r) := by
  unfold State.takeResponse
  split
  next => exact modLink_keeps (.ofSame rfl rfl rfl rfl rfl)
  next older e newer hsplit =>
    have hsub : newer.Sublist (s.link l).awaiting := by
      rw [(splitAtToggle_eq_some hsplit).1]
      exact (List.sublist_cons_self e newer).trans (List.sublist_append_right older _)
    have hdrop : Keeps s (s.dropOlder l older) := modLink_keeps (.ofSame rfl rfl rfl rfl rfl)
    have hshort := shorterAwaiting_keeps (s := s.dropOlder l older) (l := l) (es := newer)
      (by simpa [State.dropOlder] using hsub)
    exact ((hdrop.trans hshort).trans (deliver_keeps ..)).trans (offerRoom_keeps _ l)

theorem watchdogExpired_keeps (s : State) (l : Fin 4) (toggle : Bool) : Keeps s (s.watchdogExpired l toggle) := by
  unfold State.watchdogExpired
  split
  next => exact .refl _ s
  next older e newer hsplit =>
    have hsub : (older ++ newer).Sublist (s.link l).awaiting := by
      rw [(splitAtToggle_eq_some hsplit).1]
      exact (List.Sublist.refl older).append (List.sublist_cons_self e newer)
    exact ((shorterAwaiting_keeps hsub).trans (deliver_keeps ..)).trans (offerRoom_keeps _ l)

theorem deliver_each_keeps (l : Fin 4) (es : List Awaiting) (s : State) :
    Keeps s (es.foldl (fun t e => t.deliver l e .linkDown []) s) := by
  induction es generalizing s with
  | nil => exact .refl _ s
  | cons e rest ih => exact (deliver_keeps s l e .linkDown []).trans (ih _)

theorem remoteLinkLoss_keeps (s : State) (l : Fin 4) : Keeps s (s.remoteLinkLoss l) :=
  (shorterAwaiting_keeps (List.nil_sublist _)).trans (deliver_each_keeps l _ _)

theorem hostRequest_keeps (s : State) (e : AliasEntry) (request : RemoteRequest) (offset : Byte) :
    Keeps s (s.hostRequest e request offset).after := by
  unfold State.hostRequest
  extract_lets kind posted withResult
  have hresult (t : State) (status : ResultStatus) : Keeps t (withResult t status) :=
    modLink_keeps (.ofSame rfl rfl rfl rfl rfl)
  split
  next => exact .refl _ s
  next hroom =>
    split
    next => exact hresult s .linkDown
    next hup =>
      have hsend := sendRequest_keeps (not_not.mp hup) (by simpa using hroom) request
      split
      · exact (hsend ..).trans (hresult _ .ok)
      · exact (hsend ..).trans (hresult _ .pending)

/-! ### Touch records and the mirror -/

theorem length_coalesceNewest {t : TouchRecord} {queue r : List TouchRecord} (h : coalesceNewest t queue = some r) :
    r.length = queue.length := by
  obtain ⟨newer, q, older, rfl, -, -, -, rfl⟩ := coalesceNewest_eq_some.mp h
  simp

theorem length_coalesce {t : TouchRecord} {queue r : List TouchRecord} (h : coalesce t queue = some r) :
    r.length = queue.length := by
  by_cases ht : t.kind = .move
  · rw [coalesce_of_move ht, Option.map_eq_some_iff] at h
    obtain ⟨q, hq, rfl⟩ := h
    rw [List.length_reverse, length_coalesceNewest hq, List.length_reverse]
  · rw [coalesce_of_not_move ht] at h
    cases h

theorem length_dropOldestMove {queue r : List TouchRecord} (h : dropOldestMove queue = some r) :
    r.length + 1 = queue.length := by
  induction queue generalizing r with
  | nil => cases h
  | cons a rest ih =>
    rw [dropOldestMove_cons] at h
    split at h
    · cases h; rfl
    · obtain ⟨q, hq, rfl⟩ := Option.map_eq_some_iff.mp h
      rw [List.length_cons, List.length_cons, ih hq]

/-- A touch queue never holds more than 16 records (R149). -/
theorem touchQueueAfter_length (t : TouchRecord) {queue : List TouchRecord} (h : queue.length ≤ 16) :
    (touchQueueAfter t queue).1.length ≤ 16 := by
  unfold touchQueueAfter
  split
  next q hq => rw [length_coalesce hq]; exact h
  next =>
    split
    next hroom => simpa using hroom
    next =>
      split
      · exact h
      all_goals
        split
        next q hq =>
          have := length_dropOldestMove hq
          simp only [List.length_append, List.length_singleton]
          omega
        next => exact h

theorem takeTouch_keeps (s : State) (l : Fin 4) (t : TouchRecord) : Keeps s (s.takeTouch l t) := by
  unfold State.takeTouch
  split
  · exact modLink_keeps (.ofSame rfl rfl rfl rfl rfl)
  · extract_lets before out s'
    have hqueue : Keeps s s' := modLink_keeps {
      touch := fun _ h => touchQueueAfter_length t h
      awaiting := fun _ h => h
      power := fun _ h => h
      quiet := fun _ h => h
      rate := fun _ => rfl
      dark := fun _ _ h => h.1 }
    split
    · exact hqueue.trans (post_keeps ..)
    · exact hqueue

theorem takeTouches_keeps (l : Fin 4) (ts : List TouchRecord) (s : State) :
    Keeps s (ts.foldl (fun t x => t.takeTouch l x) s) := by
  induction ts generalizing s with
  | nil => exact .refl _ s
  | cons t rest ih => exact (takeTouch_keeps s l t).trans (ih _)

theorem takeMirror_keeps (s : State) (l : Fin 4) (bytes : Four Byte) : Keeps s (s.takeMirror l bytes) := by
  unfold State.takeMirror
  split
  · exact .refl _ s
  · exact (post_keeps ..).after (modLink_keeps (.ofSame rfl rfl rfl rfl rfl))

/-! ### Integrity -/

theorem setQueue_keeps (s : State) (o : Fin 4) (q : List CrcRecord) : Keeps s (s.setQueue o q) :=
  modOutput_keeps (.ofSame rfl rfl rfl rfl rfl (Option.isSome_map ..))

theorem integrityStep_keeps (s : State) (o : Fin 4) (e : IntegrityStep) : Keeps s (s.integrityStep o e) := by
  unfold State.integrityStep
  dsimp only
  split
  next c p hc hp =>
    have hset := setOutput_keeps (x := []) (s := s) (o := o) (w := { s.output o with
      context := some (c.step p e).1, comparisons := (s.output o).comparisons.count e })
      (.ofSame rfl rfl rfl rfl rfl (by rw [hc]; rfl))
    split
    · exact hset.trans (post_keeps ..)
    · exact hset
  next => exact .refl _ s

theorem missingSteps_keeps (o : Fin 4) (n : Nat) (s : State) : Keeps s (s.missingSteps o n) := by
  induction n generalizing s with
  | zero => exact .refl _ s
  | succ n ih => exact (integrityStep_keeps s o .missing).trans (ih _)

theorem pushCrc_keeps (s : State) (o : Fin 4) (seq : Half) (crc : Word) : Keeps s (s.pushCrc o seq crc) := by
  unfold State.pushCrc
  split
  next => exact .refl _ s
  next c hc =>
    extract_lets injected record full queue s'
    have hpush : Keeps s s' := modOutput_keeps (.ofSame rfl rfl rfl rfl rfl (Option.isSome_map ..))
    split
    · exact hpush.trans (integrityStep_keeps ..)
    · exact hpush

theorem takeReport_keeps (s : State) (o : Fin 4) (seq : Half) (crc : Word) : Keeps s (s.takeReport o seq crc) := by
  unfold State.takeReport
  split
  · exact modOutput_keeps (.ofSame rfl rfl rfl rfl rfl rfl)
  · split
    · exact modOutput_keeps (.ofSame rfl rfl rfl rfl rfl rfl)
    · exact ((setQueue_keeps ..).trans (missingSteps_keeps ..)).trans (integrityStep_keeps ..)

theorem freshenOutput_keeps (s : State) (o : Fin 4) : Keeps s (s.freshenOutput o) := by
  unfold State.freshenOutput
  dsimp only
  split
  next c p src hc hp hsrc =>
    split
    next => exact .refl _ s
    next r hr =>
      have hset (fr : Freshness) (age : Option Word) := setOutput_keeps (x := []) (s := s) (o := o)
        (w := { s.output o with context := some { c with freshness := fr, age := age } })
        (.ofSame rfl rfl rfl rfl rfl (by rw [hc]; rfl))
      split
      · exact hset ..
      · exact (hset ..).trans (post_keeps ..)
  next => exact .refl _ s

end Sys2Proof.Machine
end

section
/-! What links keep of the laws (spec/06). A link that goes down, retrains or comes UP changes its state and its governing
rate first and has its tier evaluated at the end, so the laws on power and on the tier are left open in between. -/

namespace Sys2Proof.Machine

theorem KeepsBut.mono {x y : List Law} {s t : State} (h : KeepsBut x s t) (hxy : x ⊆ y) : KeepsBut y s t :=
  ⟨fun law hy => h.law law (fun hx => hy (hxy hx)), h.pending, h.time⟩

/-- Number n does not lie dark in SLEEP, so the law on SLEEP says nothing of it. -/
def State.Lit (s : State) (n : Fin 4) : Prop := s.mode = .sleep → ¬ s.DarkAt n

theorem lit_of_awake {s : State} (h : s.mode ≠ .sleep) (n : Fin 4) : s.Lit n := fun hsleep => absurd hsleep h

theorem lit_of_link {s : State} {n : Fin 4} (h : (s.link n).state ≠ .disabled) : s.Lit n := fun _ hdark => h hdark.1

theorem lit_of_channel {s : State} {n : Fin 4} (h : (s.channel n).state ≠ .off) : s.Lit n := fun _ hdark => h hdark.2.1

theorem lit_of_waiting {s : State} {n : Fin 4} (h : (s.channel n).waiting = true) : s.Lit n :=
  fun _ hdark => by simp [hdark.2.2.1] at h

/-! ### What the outcomes of remote requests change -/

/-- A change of the result record and the posted-write errors of link l, of the failed ration writes of channel l, and of
the Notice Table. -/
def OutcomeOnly (l : Fin 4) (s t : State) : Prop :=
  ∃ rs pe fl ns, t = { (s.modLink l (fun v => { v with result := rs, postedErrors := pe })).modChannel l
    (fun c => { c with failedWrites := fl }) with notices := ns }

theorem OutcomeOnly.refl (l : Fin 4) (s : State) : OutcomeOnly l s s :=
  ⟨(s.link l).result, (s.link l).postedErrors, (s.channel l).failedWrites, s.notices, by
    rw [modLink_self s l _ rfl, modChannel_self s l _ rfl]⟩

theorem OutcomeOnly.trans {l : Fin 4} {s t u : State} (h : OutcomeOnly l s t) (g : OutcomeOnly l t u) :
    OutcomeOnly l s u := by
  obtain ⟨rs, pe, fl, ns, rfl⟩ := h
  obtain ⟨rs', pe', fl', ns', rfl⟩ := g
  refine ⟨rs', pe', fl', ns', ?_⟩
  simp [State.modLink, State.setLink, State.link, State.modChannel, State.setChannel, State.channel, Four.set_set]

theorem OutcomeOnly.ofPost (l : Fin 4) (s : State) (k : NoticeKind) (o : Nat) : OutcomeOnly l s (s.post k o) := by
  obtain ⟨ns, hpost⟩ := post_eq s k o
  obtain ⟨rs, pe, fl, _, h⟩ := OutcomeOnly.refl l s
  rw [hpost]
  exact ⟨rs, pe, fl, ns, congrArg (fun t : State => { t with notices := ns }) h⟩

theorem OutcomeOnly.ofLink (l : Fin 4) (s : State) (rs : Result) (pe : Half) :
    OutcomeOnly l s (s.modLink l (fun v => { v with result := rs, postedErrors := pe })) :=
  ⟨rs, pe, (s.channel l).failedWrites, s.notices, by rw [modChannel_self _ l _ rfl]; rfl⟩

theorem rationOutcome_outcomeOnly (s : State) (l : Fin 4) (ok : Bool) : OutcomeOnly l s (s.rationOutcome l ok) := by
  unfold State.rationOutcome
  split
  · exact .refl l s
  · exact ⟨(s.link l).result, (s.link l).postedErrors, _, s.notices, by rw [modLink_self s l _ rfl]; rfl⟩

theorem deliver_outcomeOnly (s : State) (l : Fin 4) (e : Awaiting) (outcome : ResultStatus) (data : List Byte) :
    OutcomeOnly l s (s.deliver l e outcome data) := by
  unfold State.deliver
  split
  · exact (OutcomeOnly.ofLink l s _ (s.link l).postedErrors).trans (.ofPost ..)
  · split
    · exact .refl l s
    · exact .ofLink l s (s.link l).result _
  · exact rationOutcome_outcomeOnly s l _

theorem remoteLinkLoss_outcomeOnly (s : State) (l : Fin 4) :
    OutcomeOnly l (s.modLink l (fun v => { v with awaiting := [] })) (s.remoteLinkLoss l) := by
  unfold State.remoteLinkLoss
  generalize s.modLink l (fun v => { v with awaiting := [] }) = t
  induction (s.link l).awaiting generalizing t with
  | nil => exact .refl l t
  | cons e rest ih => exact (deliver_outcomeOnly t l e .linkDown []).trans (ih _)

/-! ### Leaving UP (R112) -/

/-- What a link is left with as it leaves UP. -/
theorem leaveUp_link (s : State) (l : Fin 4) : ∃ rs pe, (s.leaveUp l).link l = { s.link l with
    errorWindow := none, windowSum := 0, sending := none, halfPending := false, lastConfig := none, awaiting := []
    result := rs, postedErrors := pe, lockChanged := true } := by
  obtain ⟨rs, pe, fl, ns, h⟩ := remoteLinkLoss_outcomeOnly (s.modLink l (fun v => { v with
    errorWindow := none, windowSum := 0, sending := none, halfPending := false, lastConfig := none })) l
  refine ⟨rs, pe, ?_⟩
  rw [State.leaveUp, link_modLink, State.emptyQueue, State.setQueue, link_modOutput, h]
  simp [State.link, State.modLink, State.setLink, State.modChannel, State.setChannel]

theorem emptyQueue_keeps (s : State) (o : Fin 4) : Keeps s (s.emptyQueue o) := setQueue_keeps s o []

theorem leaveUp_keeps (s : State) (l : Fin 4) : Keeps s (s.leaveUp l) := by
  have hwind : Keeps s (s.modLink l (fun v => { v with
      errorWindow := none, windowSum := 0, sending := none, halfPending := false, lastConfig := none })) :=
    modLink_keeps {
      touch := fun _ h => h
      awaiting := fun _ h => h
      power := fun _ h => h
      quiet := fun _ h => h.imp id (fun h => ⟨h.1, rfl⟩)
      rate := fun _ => rfl
      dark := fun _ _ h => h.1 }
  exact (modLink_keeps (.ofSame rfl rfl rfl rfl rfl)).after
    ((emptyQueue_keeps ..).after ((remoteLinkLoss_keeps ..).after hwind))

/-! ### Going down (R110, R111) -/

/-- What is left of a link as its search, timers, touch queue, lock and demotion end (R110 items 2 to 6). -/
theorem wound_fields (v : Link) : (v.stopTimers.clearTouch.unlock.endDemotion).state = v.state ∧
    (v.stopTimers.clearTouch.unlock.endDemotion).touch = [] ∧
    (v.stopTimers.clearTouch.unlock.endDemotion).awaiting = v.awaiting ∧
    (v.stopTimers.clearTouch.unlock.endDemotion).halfPending = v.halfPending := ⟨rfl, rfl, rfl, rfl⟩

/-- Outside UP nothing awaits; winding down an UP link leaves it so. -/
theorem windDown_link (s : State) (l : Fin 4) : ((s.windDown l).link l).state = (s.link l).state ∧
    ((s.windDown l).link l).touch = [] ∧
    ((s.link l).Quiet → ((s.windDown l).link l).awaiting = [] ∧ ((s.windDown l).link l).halfPending = false) := by
  unfold State.windDown
  rw [link_modLink]
  obtain ⟨hstate, htouch, hawaiting, hhalf⟩ :=
    wound_fields ((if (s.link l).state = .up then s.leaveUp l else s).link l)
  rw [hstate, htouch, hawaiting, hhalf]
  split
  next hup =>
    obtain ⟨rs, pe, hleft⟩ := leaveUp_link s l
    rw [hleft]
    exact ⟨rfl, rfl, fun _ => ⟨rfl, rfl⟩⟩
  next hup => exact ⟨rfl, rfl, fun hquiet => hquiet.resolve_left hup⟩

theorem windDown_keeps (s : State) (l : Fin 4) : KeepsBut [.tier l] s (s.windDown l) := by
  have hlast (u : State) : KeepsBut [.tier l] u
      (u.modLink l (fun v => v.stopTimers.clearTouch.unlock.endDemotion)) := by
    obtain ⟨hstate, htouch, hawaiting, hhalf⟩ := wound_fields (u.link l)
    exact modLink_keeps {
      touch := fun _ _ => by rw [htouch]; exact Nat.zero_le 16
      awaiting := fun _ h => by rwa [hawaiting]
      power := fun _ h => by rwa [hstate]
      quiet := fun _ h => by rwa [Link.Quiet, hstate, hawaiting, hhalf]
      rate := fun h => absurd (List.mem_singleton.mpr rfl) h
      dark := fun _ _ h => hstate.trans h.1 }
  unfold State.windDown
  split
  · exact (leaveUp_keeps s l).but _ |>.trans (hlast _)
  · exact hlast s

theorem goDown_link (s : State) (l : Fin 4) (target : LinkState) :
    (s.goDown l target).link l = { (s.windDown l).link l with state := target } := by
  simp [State.goDown, State.postLink]

theorem goDown_keeps {s : State} {l : Fin 4} {target : LinkState} (htarget : target.needsNoPower)
    (hlit : target = .disabled ∨ (s.link l).state ≠ .disabled) : Keeps s (s.goDown l target) := by
  have hdown : KeepsBut [.tier l, .powered l] (s.windDown l) ((s.windDown l).modLink l fun v => { v with state := target }) :=
    modLink_keeps {
      touch := fun _ h => h
      awaiting := fun _ h => h
      power := fun h => absurd (by simp) h
      quiet := fun h => absurd (by simp) h
      rate := fun h => absurd (by simp) h
      dark := fun _ _ h => hlit.elim id fun hne => absurd ((windDown_link s l).1 ▸ h.1) hne }
  have hall : KeepsBut [.tier l, .powered l] s (s.goDown l target) :=
    ((evaluate_keeps ..).but _).after (((post_keeps ..).but _).after
      (hdown.after ((windDown_keeps s l).mono (by simp))))
  refine hall.all fun law hlaw hs => ?_
  obtain rfl | rfl : law = .tier l ∨ law = .powered l := by simpa using hlaw
  · exact evaluate_tier ..
  · have hquiet := (windDown_link s l).2.2 hs.2
    rw [Law.Holds, goDown_link]
    exact ⟨.inl htarget, .inr hquiet⟩

/-! ### The drive search and the states of a link -/

/-- A candidate or a pass changes the drive setting, the search and the silence timer. -/
theorem beginPass_eq (v : Link) (c : Nat) (rates : List Rate) : ∃ d search silence,
    v.beginPass c rates = { v with drive := d, search := search, silence := silence } := by
  unfold Link.beginPass
  split <;> exact ⟨_, _, _, rfl⟩

theorem beginPass_same {x : List Law} {s : State} {l : Fin 4} {w : Link} (c : Nat) (rates : List Rate)
    (h : LinkKept x s l w) : LinkKept x s l (w.beginPass c rates) := by
  obtain ⟨d, search, silence, heq⟩ := beginPass_eq w c rates
  rw [heq]
  exact ⟨h.touch, h.awaiting, h.power, h.quiet, h.rate, h.dark⟩

/-- A link outside UP moves on to another such state. -/
theorem LinkKept.ofState {s : State} {l : Fin 4} {w : Link} (hup : (s.link l).state ≠ .up) (hup' : w.state ≠ .up)
    (hpower : (s.link l).state.needsNoPower → w.state.needsNoPower ∨ (s.channel l).state = .active)
    (hlit : s.mode = .sleep → (s.link l).state ≠ .disabled) (hrate : w.bestRate = (s.link l).bestRate)
    (hhalf : w.halfPending = (s.link l).halfPending) (hawaiting : w.awaiting = (s.link l).awaiting)
    (htouch : w.touch = (s.link l).touch) : LinkKept [] s l w where
  touch _ h := by rwa [htouch]
  awaiting _ h := by rwa [hawaiting]
  power _ h := h.elim hpower .inr
  quiet _ h := .inr (by rw [hawaiting, hhalf]; exact h.resolve_left hup)
  rate _ := by rw [governingRate_of_not_up hup', governingRate_of_not_up hup, hrate]
  dark _ hsleep h := absurd h.1 (hlit hsleep)

theorem enterTraining_keeps {s : State} {l : Fin 4} (hup : (s.link l).state ≠ .up)
    (hpower : (s.link l).state.needsNoPower → (s.channel l).state = .active)
    (hlit : s.mode = .sleep → (s.link l).state ≠ .disabled) : Keeps s (s.enterTraining l) :=
  (post_keeps ..).after (modLink_keeps (.ofState hup (by simp) (fun h => .inr (hpower h)) hlit rfl rfl rfl rfl))

theorem not_needsNoPower {a : LinkState} (hd : a ≠ .disabled) (hw : a ≠ .waitPower) : ¬ a.needsNoPower :=
  not_or.mpr ⟨hd, hw⟩

/-- Is a link in a state in which candidates are tried? -/
def LinkState.Tries (a : LinkState) : Prop := a = .training ∨ a = .retrain

theorem LinkState.Tries.ne {a b : LinkState} (h : a.Tries) (ht : b ≠ .training) (hr : b ≠ .retrain) : a ≠ b := by
  rintro rfl
  exact h.elim ht hr

theorem LinkState.Tries.needsPower {a : LinkState} (h : a.Tries) : ¬ a.needsNoPower :=
  not_needsNoPower (h.ne (by simp) (by simp)) (h.ne (by simp) (by simp))

theorem enterFailed_keeps {s : State} {l : Fin 4} (cause : FailureCause) (h : (s.link l).state.Tries) :
    Keeps s (s.enterFailed l cause) :=
  (post_keeps ..).after (modLink_keeps (.ofState (h.ne (by simp) (by simp)) (by simp)
    (fun hno => absurd hno h.needsPower) (fun _ => h.ne (by simp) (by simp)) rfl rfl rfl rfl))

theorem candidateFails_keeps {s : State} {l : Fin 4} (h : (s.link l).state.Tries) : Keeps s (s.candidateFails l) := by
  have hup : (s.link l).state ≠ .up := h.ne (by simp) (by simp)
  unfold State.candidateFails
  split
  next => exact .refl _ s
  next =>
    split
    next => exact modLink_keeps (.ofSame rfl rfl rfl rfl rfl)
    next r rates hsettings hrates =>
      have hrate : ({ s.link l with rate := r } : Link).governingRate = (s.link l).governingRate := by
        rw [governingRate_of_not_up hup, governingRate_of_not_up (v := { s.link l with rate := r }) hup]
        rfl
      exact (post_keeps ..).after (modLink_keeps (beginPass_same _ _ (.ofSame rfl hrate rfl rfl rfl)))
    next => exact enterFailed_keeps .noSetting h

theorem candidatePasses_keeps {s : State} {l : Fin 4} (h : (s.link l).state.Tries) : Keeps s (s.candidatePasses l) := by
  refine (offerRoom_keeps ..).after (KeepsBut.all (x := [.tier l]) ?_ ?_)
  · refine ((evaluate_keeps ..).but _).after (((post_keeps ..).but _).after (modLink_keeps ?_))
    exact {
      touch := fun _ h => h
      awaiting := fun _ _ => Nat.zero_le 2
      power := fun _ hpower => .inr (hpower.resolve_left h.needsPower)
      quiet := fun _ _ => .inl rfl
      rate := fun h => absurd (List.mem_singleton.mpr rfl) h
      dark := fun _ _ hdark => absurd hdark.1 (h.ne (by simp) (by simp)) }
  · intro law hlaw _
    obtain rfl := List.mem_singleton.mp hlaw
    exact evaluate_tier ..

theorem tries_of_candidate {v : Link} {c : Search} (h : v.candidate = some c) : v.state.Tries := by
  unfold Link.candidate at h
  split at h
  next hstate => exact .inl hstate
  next hstate => exact .inr hstate
  all_goals cases h

theorem endBackWait_keeps (s : State) (l : Fin 4) : Keeps s (s.endBackWait l) :=
  modLink_keeps (beginPass_same _ _ (.ofSame rfl rfl rfl rfl rfl))

theorem backWaitExpired_keeps (s : State) (l : Fin 4) : Keeps s (s.backWaitExpired l) := by
  unfold State.backWaitExpired
  split
  next htraining => exact enterFailed_keeps .noBackchannel (.inl htraining)
  next => exact .refl _ s

theorem retryExpired_keeps (s : State) (l : Fin 4) : Keeps s (s.retryExpired l) := by
  unfold State.retryExpired
  split
  next hfailed =>
    exact enterTraining_keeps (by simp [hfailed]) (by simp [hfailed, LinkState.needsNoPower]) (by simp [hfailed])
  next => exact .refl _ s

theorem halfDwell_keeps (s : State) (l : Fin 4) : Keeps s (s.halfDwell l) := by
  unfold State.halfDwell
  split
  next => exact .refl _ s
  next c hc =>
    split
    · exact modLink_keeps (.ofSame rfl rfl rfl rfl rfl)
    · exact candidateFails_keeps (tries_of_candidate hc)

theorem dwellExpired_keeps (s : State) (l : Fin 4) : Keeps s (s.dwellExpired l) := by
  unfold State.dwellExpired
  split
  next => exact .refl _ s
  next c hc =>
    split
    · exact candidatePasses_keeps (tries_of_candidate hc)
    · exact candidateFails_keeps (tries_of_candidate hc)

theorem weigh_keeps {s : State} {l : Fin 4} (h : (s.link l).state.Tries) (lock : Bool) (errors : Nat) :
    Keeps s (s.weigh l lock errors) := by
  unfold State.weigh
  split
  next => exact .refl _ s
  next c hc =>
    extract_lets counted s'
    have hweighed : Keeps s s' := modLink_keeps (.ofSame rfl rfl rfl rfl rfl)
    split
    · exact hweighed
    · split
      · exact hweighed.trans (candidateFails_keeps (by simpa [s'] using h))
      · exact hweighed

/-! ### Retraining (R125) -/

theorem demotionCheck_eq (v : Link) (now : Word) : ∃ demoted history,
    v.demotionCheck now = { v with demoted := demoted, history := history } := by
  unfold Link.demotionCheck
  dsimp only
  split
  · split <;> exact ⟨_, _, rfl⟩
  · exact ⟨v.demoted, v.history, rfl⟩

theorem beginRetrain_eq (v : Link) : ∃ rate d search silence, v.beginRetrain =
    { v with state := .retrain, searchPolicy := v.policy, rate := rate, drive := d, search := search, silence := silence } := by
  obtain ⟨d, search, silence, h⟩ := beginPass_eq ({ v with
    state := .retrain, searchPolicy := v.policy
    rate := if (searchRates v.policy v.demoted).contains v.rate then v.rate
      else (searchRates v.policy v.demoted).headD v.rate } : Link)
    (if v.policy.driveMin ≤ v.drive ∧ v.drive ≤ v.policy.driveMax then v.drive else v.policy.startSetting)
    (((searchRates v.policy v.demoted).dropWhile (fun r => r !=
      if (searchRates v.policy v.demoted).contains v.rate then v.rate
      else (searchRates v.policy v.demoted).headD v.rate)).drop 1)
  exact ⟨_, d, search, silence, h⟩

/-- The link that a RETRAIN entry hands to the search. -/
def State.leftForRetrain (s : State) (l : Fin 4) : State :=
  (s.modLink l (fun v => { v with retrains := bump v.retrains }.demotionCheck s.timeBase)).leaveUp l

theorem enterRetrain_eq (s : State) (l : Fin 4) :
    s.enterRetrain l = (((s.leftForRetrain l).modLink l Link.beginRetrain).postLink l).evaluate l := rfl

theorem leftForRetrain_link (s : State) (l : Fin 4) : ((s.leftForRetrain l).link l).state = (s.link l).state ∧
    ((s.leftForRetrain l).link l).awaiting = [] ∧ ((s.leftForRetrain l).link l).halfPending = false := by
  obtain ⟨rs, pe, h⟩ := leaveUp_link
    (s.modLink l (fun v => { v with retrains := bump v.retrains }.demotionCheck s.timeBase)) l
  obtain ⟨demoted, history, hcheck⟩ := demotionCheck_eq { s.link l with retrains := bump (s.link l).retrains } s.timeBase
  rw [State.leftForRetrain, h, link_modLink, hcheck]
  exact ⟨rfl, rfl, rfl⟩

theorem leftForRetrain_keeps {s : State} {l : Fin 4} (hup : (s.link l).state = .up) : Keeps s (s.leftForRetrain l) := by
  obtain ⟨demoted, history, hcheck⟩ := demotionCheck_eq { s.link l with retrains := bump (s.link l).retrains } s.timeBase
  refine (leaveUp_keeps ..).after (modLink_keeps ?_)
  rw [hcheck]
  refine .ofSame rfl ?_ rfl rfl rfl
  rw [governingRate_of_up hup, governingRate_of_up (v := { s.link l with
    retrains := bump (s.link l).retrains, demoted := demoted, history := history }) hup]

theorem enterRetrain_keeps {s : State} {l : Fin 4} (hup : (s.link l).state = .up) : Keeps s (s.enterRetrain l) := by
  obtain ⟨hstate, hawaiting, hhalf⟩ := leftForRetrain_link s l
  rw [enterRetrain_eq]
  refine KeepsBut.trans (leftForRetrain_keeps hup) ?_
  generalize s.leftForRetrain l = u at hstate hawaiting hhalf ⊢
  obtain ⟨rate, d, search, silence, hbegin⟩ := beginRetrain_eq (u.link l)
  rw [hup] at hstate
  have hsearch : KeepsBut [.tier l] u (u.modLink l Link.beginRetrain) := modLink_keeps {
    touch := fun _ h => by rwa [hbegin]
    awaiting := fun _ h => by rwa [hbegin]
    power := fun _ h => .inr (h.resolve_left (by simp [hstate, LinkState.needsNoPower]))
    quiet := fun _ _ => .inr (by rw [hbegin]; exact ⟨hawaiting, hhalf⟩)
    rate := fun h => absurd (List.mem_singleton.mpr rfl) h
    dark := fun _ _ h => absurd h.1 (by simp [hstate]) }
  have hall := ((evaluate_keeps _ l).but _).after (((post_keeps _ .linkState l.val).but _).after hsearch)
  refine hall.all fun law hlaw _ => ?_
  obtain rfl := List.mem_singleton.mp hlaw
  exact evaluate_tier ..

theorem silenceExpired_keeps (s : State) (l : Fin 4) : Keeps s (s.silenceExpired l) := by
  unfold State.silenceExpired
  split
  next hup => exact enterRetrain_keeps hup
  next hstate => exact candidateFails_keeps (.inl hstate)
  next hstate => exact candidateFails_keeps (.inr hstate)
  all_goals exact .refl _ s

/-! ### Status records (R124, R134) -/

theorem monitor_keeps {s : State} {l : Fin 4} (hup : (s.link l).state = .up) (lock : Bool) (errors : Nat) :
    Keeps s (s.monitor l lock errors) := by
  unfold State.monitor
  extract_lets s'
  have hcounted : Keeps s s' := modLink_keeps (.ofSame rfl rfl rfl rfl rfl)
  split
  · exact hcounted.trans (enterRetrain_keeps (by simpa [s'] using hup))
  · exact hcounted

theorem takeLock_keeps (s : State) (l : Fin 4) (lock : Bool) (errors : Nat) : Keeps s (s.takeLock l lock errors) := by
  unfold State.takeLock
  extract_lets s'
  have hcounted : Keeps s s' := modLink_keeps (.ofSame rfl rfl rfl rfl rfl)
  have hsame : (s'.link l).state = (s.link l).state := by simp [s', Link.takeCounts]
  split
  next => exact .refl _ s
  next => exact hcounted
  next => exact hcounted
  next htraining =>
    split
    · exact hcounted.trans (endBackWait_keeps s' l)
    · exact hcounted.trans (weigh_keeps (.inl (hsame.trans htraining)) lock errors)
  next hretrain => exact hcounted.trans (weigh_keeps (.inr (hsame.trans hretrain)) lock errors)
  next hup => exact hcounted.trans (monitor_keeps (hsame.trans hup) lock errors)

theorem handOn_keeps (s : State) (l : Fin 4) (r : StatusRecord) : Keeps s (s.handOn l r) := by
  unfold State.handOn
  extract_lets mirrored touched answered compared
  have htouched : Keeps s touched := (takeTouches_keeps l r.touches mirrored).after (takeMirror_keeps s l r.status)
  have hanswered : Keeps s answered := by
    dsimp only [answered]
    split
    · exact htouched
    · exact htouched.trans (takeResponse_keeps ..)
  have hcompared : Keeps s compared := by
    dsimp only [compared]
    split
    · exact hanswered
    · exact hanswered.trans (takeReport_keeps ..)
  exact hcompared.trans (takeLock_keeps ..)

theorem takeRecord_keeps (s : State) (l : Fin 4) (bytes : List Byte) : Keeps s (s.takeRecord l bytes) := by
  unfold State.takeRecord
  split
  · exact .refl _ s
  · split
    · exact modLink_keeps (.ofSame rfl rfl rfl rfl rfl)
    · exact handOn_keeps ..

/-! ### Power, wake and the requests -/

theorem enableLink_keeps {s : State} {l : Fin 4} (hdisabled : (s.link l).state = .disabled) (hawake : s.mode ≠ .sleep) :
    Keeps s (s.enableLink l) := by
  unfold State.enableLink
  split
  next hactive => exact enterTraining_keeps (by simp [hdisabled]) (fun _ => hactive) (fun h => absurd h hawake)
  next =>
    exact (post_keeps ..).after (modLink_keeps (.ofState (by simp [hdisabled]) (by simp) (fun _ => .inl (.inr rfl))
      (fun h => absurd h hawake) rfl rfl rfl rfl))

theorem linkPowered_keeps {s : State} {l : Fin 4} (h : (s.channel l).state = .active) : Keeps s (s.linkPowered l) := by
  unfold State.linkPowered
  split
  next hwait => exact enterTraining_keeps (by simp [hwait]) (fun _ => h) (by simp [hwait])
  next => exact .refl _ s

theorem linkUnpowered_keeps (s : State) (l : Fin 4) : Keeps s (s.linkUnpowered l) := by
  unfold State.linkUnpowered
  split
  next => exact .refl _ s
  next hne => exact goDown_keeps (.inr rfl) (.inr hne)

theorem linkSleep_keeps (s : State) (l : Fin 4) : Keeps s (s.linkSleep l) := by
  unfold State.linkSleep
  split
  next => exact .refl _ s
  next => exact goDown_keeps (.inl rfl) (.inl rfl)

theorem linkWake_keeps {s : State} (l : Fin 4) (hawake : s.mode ≠ .sleep) : Keeps s (s.linkWake l) := by
  unfold State.linkWake
  split
  next hwake => exact enableLink_keeps hwake.2 hawake
  next => exact .refl _ s

theorem linkPolicyHandler_keeps (body : List Byte) (s : State) : Keeps s (linkPolicyHandler body s).after := by
  unfold linkPolicyHandler
  split
  next l p hl hp =>
    have hset : KeepsBut [.tier l] s (s.modLink l (fun v => { v with policy := p })) := modLink_keeps {
      touch := fun _ h => h
      awaiting := fun _ h => h
      power := fun _ h => h
      quiet := fun _ h => h
      rate := fun h => absurd (List.mem_singleton.mpr rfl) h
      dark := fun _ _ h => h.1 }
    refine (hset.trans ((evaluate_keeps _ l).but _)).all fun law hlaw _ => ?_
    obtain rfl := List.mem_singleton.mp hlaw
    exact evaluate_tier ..
  next => exact .refl _ s

theorem linkControlHandler_keeps (body : List Byte) {s : State} (hawake : s.mode ≠ .sleep) :
    Keeps s (linkControlHandler body s).after := by
  unfold linkControlHandler
  split
  next => exact .refl _ s
  next l hl =>
    split
    next hdisabled =>
      exact (enableLink_keeps (by simpa using hdisabled) (by exact hawake)).after (modLink_keeps (.ofSame rfl rfl rfl rfl rfl))
    next => exact .refl _ s
    next => exact .refl _ s
    next =>
      have hdown : Keeps s (s.goDown l .disabled) := goDown_keeps (.inl rfl) (.inl rfl)
      have hintent (u : State) : Keeps u (u.modLink l (fun v => { v with intent := false })) :=
        modLink_keeps (.ofSame rfl rfl rfl rfl rfl)
      exact hdown.trans (hintent _)
    next hup => exact enterRetrain_keeps hup
    next => exact .refl _ s
    next => exact .refl _ s
    next hfailed =>
      exact enterTraining_keeps (by simp [hfailed]) (by simp [hfailed, LinkState.needsNoPower]) (by simp [hfailed])
    all_goals exact .refl _ s

end Sys2Proof.Machine
end

section
/-! What power channels keep of the laws (spec/08). A channel that leaves ACTIVE hands the loss to its link, so the law on
power is left open until that is done. -/

namespace Sys2Proof.Machine

theorem lit_of_state {s : State} {n : Fin 4} {a : ChannelState} (h : (s.channel n).state = a) (ha : a ≠ .off) : s.Lit n :=
  lit_of_channel (by rwa [h])

/-! ### A channel enters a state (R160 to R162) -/

/-- A channel in a new state with its policy and cap; `hpower`: it is in ACTIVE if its link needs that. -/
theorem ChannelKept.ofState {x : List Law} {s : State} {c : Fin 4} {w : Channel}
    (hpolicy : w.policy = (s.channel c).policy) (hcap : w.cap = (s.channel c).cap)
    (hpower : .powered c ∉ x → (s.channel c).state = .active →
      (s.link c).state.needsNoPower ∨ w.state = .active)
    (hdark : s.Lit c ∨ (w.state = .off ∧ w.waiting = false)) : ChannelKept x s c w where
  limit _ h := by rwa [hpolicy, hcap]
  power hx h := h.elim .inl (hpower hx)
  dark _ hsleep h := hdark.elim (fun hlit => absurd h (hlit hsleep)) id

theorem enterActive_keeps {s : State} {c : Fin 4} (hlit : s.Lit c) : Keeps s (s.enterActive c) := by
  have hactive : Keeps s ((s.modChannel c (fun v => { v.settle .active with
      activeTimer := some (10000 * Config.ms) })).postPower c) :=
    (post_keeps ..).after (modChannel_keeps (.ofState rfl rfl (fun _ _ => .inr rfl) (.inl hlit)))
  exact hactive.trans (linkPowered_keeps (by simp [State.postPower, Channel.settle]))

theorem enterDetect_keeps {s : State} {c : Fin 4} (hlit : s.Lit c) (h : (s.channel c).state ≠ .active) :
    Keeps s (s.enterDetect c) :=
  (post_keeps ..).after (modChannel_keeps (.ofState rfl rfl (fun _ hactive => absurd hactive h) (.inl hlit)))

theorem enterOff_keeps {s : State} {c : Fin 4} {wait : Bool} (hlit : wait = true → s.Lit c)
    (h : (s.link c).state.needsNoPower ∨ (s.channel c).state ≠ .active) : Keeps s (s.enterOff c wait) := by
  refine (post_keeps ..).after (modChannel_keeps (.ofState rfl rfl
    (fun _ hactive => h.elim .inl (absurd hactive)) ?_))
  cases wait with
  | false => exact .inr ⟨rfl, rfl⟩
  | true => exact .inl (hlit rfl)

/-- A channel that has left ACTIVE takes its link down; any other leaves its link as it stands. -/
theorem handLoss_powered {s u : State} {c : Fin 4} (hlink : u.link c = s.link c)
    (h : (Law.powered c).Holds s) : (Law.powered c).Holds (u.handLoss c ((s.channel c).state == .active)) := by
  obtain ⟨hpower, hquiet⟩ := h
  unfold State.handLoss
  split
  next hactive =>
    unfold State.linkUnpowered
    split
    next hdisabled => exact ⟨.inl (.inl hdisabled), by rwa [hlink]⟩
    next =>
      have hwound := (windDown_link u c).2.2 (by rwa [hlink])
      rw [Law.Holds, goDown_link]
      exact ⟨.inl (.inr rfl), .inr hwound⟩
  next hactive =>
    have hnot : (s.channel c).state ≠ .active := by simpa using hactive
    rw [Law.Holds, hlink]
    exact ⟨.inl (hpower.resolve_right hnot), hquiet⟩

theorem handLoss_keeps (s : State) (c : Fin 4) (wasActive : Bool) : Keeps s (s.handLoss c wasActive) := by
  unfold State.handLoss
  split
  · exact linkUnpowered_keeps s c
  · exact .refl _ s

/-- A channel takes a state other than ACTIVE, posts, and hands the loss of ACTIVE to its link. -/
theorem leaveActive_keeps {s : State} {c : Fin 4} {f : Channel → Channel} (hlit : s.Lit c)
    (hpolicy : (f (s.channel c)).policy = (s.channel c).policy) (hcap : (f (s.channel c)).cap = (s.channel c).cap) :
    Keeps s (((s.modChannel c f).postPower c).handLoss c ((s.channel c).state == .active)) := by
  have hset : KeepsBut [.powered c] s (s.modChannel c f) :=
    modChannel_keeps (.ofState hpolicy hcap (fun h => absurd (List.mem_singleton.mpr rfl) h) (.inl hlit))
  have hall := ((handLoss_keeps _ c ((s.channel c).state == .active)).but _).after
    (((post_keeps _ .powerState c.val).but _).after hset)
  refine hall.all fun law hlaw hs => ?_
  obtain rfl := List.mem_singleton.mp hlaw
  exact handLoss_powered (by simp) hs

theorem enterDischarge_keeps {s : State} {c : Fin 4} (hlit : s.Lit c) (target : Target) :
    Keeps s (s.enterDischarge c target) := leaveActive_keeps hlit rfl rfl

theorem enterFault_keeps {s : State} {c : Fin 4} (hlit : s.Lit c) (cause : PowerCause) :
    Keeps s (s.enterFault c cause) := leaveActive_keeps hlit rfl rfl

/-! ### On and off (R157, R158) -/

theorem powerOn_keeps {s : State} (c : Fin 4) (hawake : s.mode ≠ .sleep) : Keeps s (s.powerOn c) := by
  have hintent : Keeps s (s.modChannel c (fun v => { v with intent := true })) :=
    modChannel_keeps (.ofSame rfl rfl rfl rfl)
  refine hintent.trans ?_
  unfold State.powerOn
  extract_lets u v
  have hlit : u.Lit c := lit_of_awake (s := u) hawake c
  change Keeps u _
  split
  next hoff =>
    have hnot : (u.channel c).state ≠ .active := by simp [show (u.channel c).state = .off from hoff]
    split
    · exact enterFault_keeps hlit .thermal
    · split
      · exact enterDetect_keeps hlit hnot
      · split
        · exact enterActive_keeps hlit
        · exact modChannel_keeps (.ofState rfl rfl (fun _ h => absurd h hnot) (.inl hlit))
  next hdischarge =>
    have hnot : (u.channel c).state ≠ .active := by simp [show (u.channel c).state = .discharge .off from hdischarge]
    exact modChannel_keeps (.ofState rfl rfl (fun _ h => absurd h hnot) (.inl hlit))
  all_goals exact .refl _ u

theorem powerOff_keeps {s : State} (c : Fin 4) (hawake : s.mode ≠ .sleep) : Keeps s (s.powerOff c) := by
  have hintent : Keeps s (s.modChannel c (fun v => { v with intent := false })) :=
    modChannel_keeps (.ofSame rfl rfl rfl rfl)
  refine hintent.trans ?_
  unfold State.powerOff
  extract_lets u
  have hlit : u.Lit c := lit_of_awake (s := u) hawake c
  change Keeps u _
  split
  next hoff => exact modChannel_keeps (.ofState rfl rfl (fun _ h => absurd h (by simp [hoff])) (.inl hlit))
  next => exact enterDischarge_keeps hlit .off
  next => exact enterDischarge_keeps hlit .off
  next hdischarge =>
    exact modChannel_keeps (.ofState rfl rfl (fun _ h => absurd h (by simp [hdischarge])) (.inl hlit))
  next hfault =>
    split
    · exact .refl _ u
    · exact enterOff_keeps (by simp) (.inr (by simp [hfault]))

theorem releaseAt_keeps (c : Fin 4) (s : State) : Keeps s (releaseAt c s) := by
  unfold releaseAt
  split
  next hwaits => exact enterActive_keeps (lit_of_waiting hwaits.1)
  next => exact .refl _ s

theorem releaseWaiting_keeps (s : State) : Keeps s s.releaseWaiting := by
  unfold State.releaseWaiting
  split
  · exact forEach_keepsBut releaseAt_keeps allFour s
  · exact .refl _ s

theorem setSupply_keeps (s : State) (level : Supply) : Keeps s (s.setSupply level) := by
  have hlevel : Keeps s { s with supply := level } :=
    SameParts.keeps ⟨rfl, rfl, rfl, id, id, rfl, rfl, rfl, rfl, rfl, rfl, rfl, rfl⟩
  exact hlevel.trans (releaseWaiting_keeps _)

/-! ### Rationing (R169 to R171) -/

theorem reration_keeps (s : State) (c : Fin 4) (fresh : Bool) : Keeps s (s.reration c fresh) := by
  unfold State.reration
  extract_lets want v write
  split
  · exact (askRation_keeps ..).after (modChannel_keeps (.ofSame rfl rfl rfl rfl))
  · split
    · exact .refl _ s
    · exact (askRation_keeps ..).after (modChannel_keeps (.ofSame rfl rfl rfl rfl))

theorem recompute_keeps (s : State) (changed : Option (Fin 4)) : Keeps s (s.recompute changed) :=
  forEach_keepsBut (fun c t => reration_keeps t c _) allFour s

/-- The level, the budget timers and SUPPLY_BOOST are no law's concern. -/
theorem budgetParts_keeps (s : State) (level : Nat) (overLeft underLeft hold : Timer) (boost : Bool) :
    Keeps s { s with level := level, overTimer := overLeft, underTimer := underLeft, boost := boost, boostHold := hold } :=
  SameParts.keeps ⟨rfl, rfl, rfl, id, id, rfl, rfl, rfl, rfl, rfl, rfl, rfl, rfl⟩

theorem setLevel_keeps (s : State) (level : Nat) (changed : Option (Fin 4)) : Keeps s (s.setLevel level changed) :=
  (recompute_keeps ..).after ((post_keeps ..).after
    (budgetParts_keeps s level s.overTimer s.underTimer s.boostHold s.boost))

theorem formTotal_keeps (s : State) : Keeps s s.formTotal := budgetParts_keeps s s.level _ _ _ _

theorem overExpired_keeps (s : State) : Keeps s s.overExpired := by
  unfold State.overExpired
  extract_lets raised timed
  split
  · exact (setLevel_keeps ..).after (budgetParts_keeps s s.level _ s.underTimer s.boostHold s.boost)
  · exact budgetParts_keeps s s.level none s.underTimer s.boostHold s.boost

theorem underExpired_keeps (s : State) : Keeps s s.underExpired := by
  unfold State.underExpired
  extract_lets lowered timed
  split
  · exact (setLevel_keeps ..).after (budgetParts_keeps s s.level s.overTimer _ s.boostHold s.boost)
  · exact budgetParts_keeps s s.level s.overTimer none s.boostHold s.boost

/-! ### Samples, voltage and temperature (R155, R159 to R164) -/

theorem judgeSample_keeps (s : State) (c : Fin 4) (mA : Nat) : Keeps s (s.judgeSample c mA) := by
  unfold State.judgeSample
  extract_lets v run exceeding gone
  split
  next => exact .refl _ s
  next => exact .refl _ s
  next => exact .refl _ s
  next hdetect =>
    have hlit : s.Lit c := lit_of_state hdetect (by simp)
    split
    · exact enterActive_keeps hlit
    · exact modChannel_keeps (.ofSame rfl rfl rfl rfl)
  next hactive =>
    have hlit : s.Lit c := lit_of_state hactive (by simp)
    split
    · exact enterFault_keeps hlit .short
    · split
      · exact enterFault_keeps hlit .overcurrent
      · split
        · exact enterDischarge_keeps hlit .detect
        · exact modChannel_keeps (.ofSame rfl rfl rfl rfl)

theorem measure_fields (v : Channel) (mA : Half) : (v.measure mA).state = v.state ∧
    (v.measure mA).waiting = v.waiting ∧ (v.measure mA).policy = v.policy ∧ (v.measure mA).cap = v.cap := by
  unfold Channel.measure
  split <;> simp

theorem takeSample_keeps (s : State) (c : Fin 4) (mA : Half) (supply : Supply) : Keeps s (s.takeSample c mA supply) := by
  have hmeasure (u : State) : Keeps u (u.modChannel c (fun v => v.measure mA)) := by
    obtain ⟨hstate, hwaiting, hpolicy, hcap⟩ := measure_fields (u.channel c) mA
    exact modChannel_keeps (.ofSame hstate hwaiting hpolicy hcap)
  exact (((setSupply_keeps s supply).trans (hmeasure _)).trans (formTotal_keeps _)).trans (judgeSample_keeps ..)

theorem undervoltage_keeps (s : State) (c : Fin 4) : Keeps s (s.undervoltage c) := by
  refine (setSupply_keeps s .low).trans ?_
  unfold State.undervoltage
  extract_lets u
  split
  next hactive => exact enterFault_keeps (lit_of_state hactive (by simp)) .undervoltage
  next => exact .refl _ u

theorem backdriveBegins_keeps (s : State) (c : Fin 4) : Keeps s (s.backdriveBegins c) := by
  unfold State.backdriveBegins
  extract_lets v
  split
  · exact .refl _ s
  · split <;> exact modChannel_keeps (.ofSame rfl rfl rfl rfl)

theorem backdriveEnds_keeps (s : State) (c : Fin 4) : Keeps s (s.backdriveEnds c) :=
  modChannel_keeps (.ofSame rfl rfl rfl rfl)

theorem backdriveHeld_keeps (s : State) (c : Fin 4) : KeepsLater s (s.backdriveHeld c) := by
  unfold State.backdriveHeld
  extract_lets v
  split
  next hheld =>
    refine .inr ⟨_, enterFault_keeps (lit_of_channel ?_) .backdrive⟩
    rw [channel_elapse, Channel.elapse_state]
    exact fun hoff => by simp [v, hoff] at hheld
  next => exact .inl (.refl _ s)

theorem tripAt_keeps (c : Fin 4) (s : State) : Keeps s (tripAt c s) := by
  unfold tripAt
  split
  next => exact .refl _ s
  next => exact modChannel_keeps (.ofSame rfl rfl rfl rfl)
  next hstate => exact enterFault_keeps (lit_of_state hstate (by simp)) .thermal
  next hstate => exact enterFault_keeps (lit_of_state hstate (by simp)) .thermal
  next hstate => exact enterFault_keeps (lit_of_state hstate (by simp)) .thermal

theorem powerFollowsThermal_keeps (s : State) (before : Thermal) : Keeps s (s.powerFollowsThermal before) := by
  unfold State.powerFollowsThermal
  split
  · split
    · exact .refl _ s
    · rw [thermalFaults_eq]
      exact forEach_keepsBut tripAt_keeps allFour s
  · exact releaseWaiting_keeps s

theorem takeTemperature_keeps (s : State) (reading : Int) : Keeps s (s.takeTemperature reading) := by
  unfold State.takeTemperature
  extract_lets t after
  split
  · exact SameParts.keeps ⟨rfl, rfl, rfl, id, id, rfl, rfl, rfl, rfl, rfl, rfl, rfl, rfl⟩
  · exact (post_keeps ..).after (SameParts.keeps ⟨rfl, rfl, rfl, id, id, rfl, rfl, rfl, rfl, rfl, rfl, rfl, rfl⟩)

theorem sampleTemperature_keeps (s : State) (reading : Int) : Keeps s (s.sampleTemperature reading) :=
  (takeTemperature_keeps s reading).trans (powerFollowsThermal_keeps ..)

/-! ### Timers (R160, R165, R166) -/

theorem dischargeExpired_keeps (s : State) (c : Fin 4) : Keeps s (s.dischargeExpired c) := by
  have hended : Keeps s (s.modChannel c (fun v => { v with dischargeTimer := none })) :=
    modChannel_keeps (.ofSame rfl rfl rfl rfl)
  refine hended.trans ?_
  unfold State.dischargeExpired
  extract_lets u v toActive
  change Keeps u _
  have hlit {target : Target} (h : v.state = .discharge target) : u.Lit c :=
    lit_of_state h (by simp)
  have hnot {target : Target} (h : v.state = .discharge target) : (u.channel c).state ≠ .active := by
    simp [show (u.channel c).state = .discharge target from h]
  have hto {target : Target} (h : v.state = .discharge target) : Keeps u toActive := by
    dsimp only [toActive]
    split
    · exact enterActive_keeps (hlit h)
    · exact enterOff_keeps (fun _ => hlit h) (.inr (hnot h))
  split
  next h => exact enterOff_keeps (by simp) (.inr (hnot h))
  next h =>
    split
    · split
      · exact enterFault_keeps (hlit h) .thermal
      · exact enterDetect_keeps (hlit h) (hnot h)
    · exact hto h
  next h => exact hto h
  all_goals exact .refl _ u

theorem coolDownExpired_keeps (s : State) (c : Fin 4) : Keeps s (s.coolDownExpired c) := by
  unfold State.coolDownExpired
  extract_lets v
  split
  next => exact .refl _ s
  next hfault =>
    have hstate : (s.channel c).state = .fault := not_not.mp hfault
    have hlit : s.Lit c := lit_of_state hstate (by simp)
    have hnot : (s.channel c).state ≠ .active := by simp [hstate]
    split
    · split
      · exact enterOff_keeps (by simp) (.inr hnot)
      · split
        · exact enterDetect_keeps hlit hnot
        · exact enterActive_keeps hlit
    · exact modChannel_keeps (.ofSame rfl rfl rfl rfl)

theorem activeHeld_keeps (s : State) (c : Fin 4) : Keeps s (s.activeHeld c) := modChannel_keeps (.ofSame rfl rfl rfl rfl)

/-! ### The requests (R156 to R158, R167, R168, R173) -/

theorem effectiveLimit_le (n : Nat) (cap : Cap) : effectiveLimit n cap ≤ cap.milliamps := Nat.min_le_left ..

theorem readPowerPolicy_limit {body : List Byte} {cap : Cap} {p : PowerPolicy} (h : readPowerPolicy body cap = some p) :
    p.limit ≤ cap.milliamps := by
  unfold readPowerPolicy at h
  dsimp only at h
  split at h
  · split at h
    · obtain rfl := Option.some.inj h
      exact effectiveLimit_le ..
    · cases h
  · cases h

theorem modeChanged_keeps (s : State) (c : Fin 4) (before : PowerMode) : Keeps s (s.modeChanged c before) := by
  unfold State.modeChanged
  extract_lets v
  split
  next =>
    split
    next hdetect =>
      have hstate : (s.channel c).state = .detect := hdetect
      have hlit : s.Lit c := lit_of_state hstate (by simp)
      split
      · exact enterActive_keeps hlit
      · exact enterOff_keeps (fun _ => hlit) (.inr (by simp [hstate]))
    next => exact .refl _ s
  next =>
    have hrun : Keeps s (s.modChannel c (fun v => { v with removalRun := 0 })) :=
      modChannel_keeps (.ofSame rfl rfl rfl rfl)
    split
    next hwaits =>
      have hlit : (s.modChannel c (fun v => { v with removalRun := 0 })).Lit c :=
        lit_of_waiting (by simpa using hwaits.2.1)
      split
      · exact hrun.trans (enterFault_keeps hlit .thermal)
      · exact hrun.trans (enterDetect_keeps hlit (by simp [show (s.channel c).state = .off from hwaits.1]))
    next => exact hrun
  all_goals exact .refl _ s

theorem policyRations_keeps (s : State) (c : Fin 4) (before : Nat) (fresh : Bool) :
    Keeps s (s.policyRations c before fresh) := by
  unfold State.policyRations
  extract_lets changed m
  split
  · exact (setLevel_keeps ..).after (budgetParts_keeps s s.level none _ s.boostHold s.boost)
  · exact (recompute_keeps ..).after (budgetParts_keeps s s.level _ s.underTimer s.boostHold s.boost)

theorem powerPolicyHandler_keeps (body : List Byte) (s : State) : Keeps s (powerPolicyHandler body s).after := by
  unfold powerPolicyHandler
  split
  next => exact .refl _ s
  next c hc =>
    split
    next => exact .refl _ s
    next p hp =>
      extract_lets old set
      have hset : Keeps s set := modChannel_keeps {
        limit := fun _ _ => readPowerPolicy_limit hp
        power := fun _ h => h
        dark := fun _ _ h => ⟨h.2.1, h.2.2.1⟩ }
      exact hset.trans ((modeChanged_keeps set c old.mode).trans (policyRations_keeps ..))

theorem powerControlHandler_keeps (body : List Byte) {s : State} (hawake : s.mode ≠ .sleep) :
    Keeps s (powerControlHandler body s).after := by
  unfold powerControlHandler
  split
  next => exact .refl _ s
  next c hc =>
    split
    · exact powerOn_keeps c hawake
    · exact powerOff_keeps c hawake
    · split
      next hfault =>
        have hcleared : Keeps s (s.modChannel c (fun v => { v with latched := false, faults := 0, intent := false })) :=
          modChannel_keeps (.ofSame rfl rfl rfl rfl)
        exact hcleared.trans (enterOff_keeps (by simp) (.inr (by simp [hfault])))
      next => exact .refl _ s
    · exact .refl _ s

theorem powerBudgetHandler_keeps (body : List Byte) (s : State) : Keeps s (powerBudgetHandler body s).after :=
  SameParts.keeps ⟨rfl, rfl, rfl, id, id, rfl, rfl, rfl, rfl, rfl, rfl, rfl, rfl⟩

theorem powerStatusHandler_keeps (body : List Byte) (s : State) : Keeps s (powerStatusHandler body s).after := by
  unfold powerStatusHandler
  split
  next => exact .refl _ s
  next c hc =>
    have hread : Keeps s (s.modChannel c (fun v => { v with failedWrites := 0 })) :=
      modChannel_keeps (.ofSame rfl rfl rfl rfl)
    exact hread

/-! ### Sleep and wake (R174) -/

theorem channelSleep_keeps {s : State} {c : Fin 4} (h : (s.link c).state.needsNoPower) : Keeps s (s.channelSleep c) := by
  unfold State.channelSleep
  split
  next hoff => exact modChannel_keeps (.ofState rfl rfl (fun _ _ => .inl h) (.inr ⟨hoff, rfl⟩))
  next => exact enterOff_keeps (by simp) (.inl h)

theorem channelWake_keeps {s : State} (c : Fin 4) (hawake : s.mode ≠ .sleep) : Keeps s (s.channelWake c) := by
  unfold State.channelWake
  extract_lets v
  split
  next => exact .refl _ s
  next hoff =>
    have hstate : (s.channel c).state = .off := not_not.mp hoff
    split
    · exact (post_keeps ..).after (modChannel_keeps (.ofState rfl rfl (fun _ h => absurd h (by simp [hstate]))
        (.inl (lit_of_awake hawake c))))
    · split
      · exact powerOn_keeps c hawake
      · exact .refl _ s

end Sys2Proof.Machine
end

section
/-! What streams keep of the laws (spec/01, spec/02): a slot that an output shows is never the one a frame is written to,
and it is emptied only where no route names its stream. -/

namespace Sys2Proof.Machine

/-! ### Slots -/

theorem Stream.slot_setSlot_same {r : Stream} {j : Fin 4} (h : j.val < r.slots.length) (v : Slot) :
    (r.setSlot j v).slot j = v := by
  simp [Stream.slot, Stream.setSlot, h]

theorem Stream.slot_setSlot_ne (r : Stream) {j k : Fin 4} (h : k ≠ j) (v : Slot) : (r.setSlot j v).slot k = r.slot k := by
  have hne : j.val ≠ k.val := fun e => h (Fin.ext e.symm)
  simp [Stream.slot, Stream.setSlot, List.getElem?_set_ne hne]

/-- A slot that is not EMPTY exists. -/
theorem Stream.lt_of_slot_ne {r : Stream} {j : Fin 4} (h : r.slot j ≠ .empty) : j.val < r.slots.length := by
  by_contra hge
  exact h (by simp [Stream.slot, List.getElem?_eq_none (not_lt.mp hge)])

theorem mem_slotIndices {n : Nat} {j : Fin 4} : j ∈ slotIndices n ↔ j.val < n := by
  obtain h | rfl | rfl | rfl | rfl : 4 ≤ n ∨ n = 0 ∨ n = 1 ∨ n = 2 ∨ n = 3 := by omega
  · have hall : slotIndices n = [0, 1, 2, 3] := List.take_of_length_le (by simpa using h)
    rw [hall]
    fin_cases j <;> simp <;> omega
  all_goals fin_cases j <;> simp [slotIndices]

/-- A slot that some output shows has a reference (R13). -/
theorem refs_pos {s : State} {o : Fin 4} {ref : SlotRef} (h : (s.output o).current = some ref) : 0 < s.refs ref := by
  refine List.length_pos_of_mem (a := o) (List.mem_filter.mpr ⟨?_, by simp [h]⟩)
  fin_cases o <;> simp [allFour]

/-- The slots R7 lets a frame be written to: they exist, nothing shows them, and they are not the latest. -/
theorem mem_candidates {s : State} {i : Fin 8} {r : Stream} {j : Fin 4} : j ∈ s.candidates i r ↔
    j.val < r.slots.length ∧ s.refs ⟨i, j⟩ = 0 ∧ r.latest ≠ some j := by
  simp [State.candidates, mem_slotIndices]

theorem oldestReady_mem {r : Stream} {l : List (Fin 4)} {j : Fin 4} {q : Word} (h : oldestReady r l = some (j, q)) :
    j ∈ l ∧ r.slot j = .ready q := by
  induction l generalizing j q with
  | nil => cases h
  | cons k rest ih =>
    have hself {p : Word} (hp : (r.slot k).seq? = some p) : r.slot k = .ready p := by
      cases hslot : r.slot k <;> simp_all [Slot.seq?]
    rw [oldestReady] at h
    split at h
    next hk best =>
      obtain ⟨hmem, hready⟩ := ih h
      exact ⟨List.mem_cons_of_mem _ hmem, hready⟩
    next p hk hrest =>
      obtain ⟨rfl, rfl⟩ : k = j ∧ p = q := by simpa using h
      exact ⟨List.mem_cons_self .., hself hk⟩
    next p m b hk hrest =>
      split at h
      next =>
        obtain ⟨rfl, rfl⟩ : m = j ∧ b = q := by simpa using h
        obtain ⟨hmem, hready⟩ := ih hrest
        exact ⟨List.mem_cons_of_mem _ hmem, hready⟩
      next =>
        obtain ⟨rfl, rfl⟩ : k = j ∧ p = q := by simpa using h
        exact ⟨List.mem_cons_self .., hself hk⟩

theorem writeSlot?_mem {s : State} {i : Fin 8} {r : Stream} {j : Fin 4} (h : s.writeSlot? i r = some j) :
    j ∈ s.candidates i r := by
  unfold State.writeSlot? at h
  split at h
  next k hk =>
    obtain rfl := Option.some.inj h
    exact List.mem_of_find?_eq_some hk
  next =>
    obtain ⟨⟨k, q⟩, hk, rfl⟩ := Option.map_eq_some_iff.mp h
    exact (oldestReady_mem hk).1

/-! ### Changes of a stream -/

/-- A change of an open stream's record that keeps its slots and its write slot. -/
theorem modStream_keeps {s : State} {i : Fin 8} {f : Stream → Stream} (hslots : ∀ r, (f r).slots = r.slots)
    (hwriting : ∀ r, (f r).writing = r.writing) : Keeps s (s.modStream i f) := by
  unfold State.modStream
  cases hstream : s.stream i with
  | none =>
    refine setStream_keeps (fun _ r hr => by cases hr) (fun o j _ _ _ hready => ?_)
    obtain ⟨r, q, hr, -⟩ := hready
    simp [hstream] at hr
  | some r => exact setStream_same_keeps hstream (hslots r) (hwriting r)

/-- A stream that no route names may be changed at will, as long as it writes to a FILLING slot. -/
theorem setStream_unnamed_keeps {s : State} {i : Fin 8} {b : Option Stream} (hnamed : s.named i = false)
    (hwrites : ∀ r, b = some r → r.WritesFilling) : Keeps s (s.setStream i b) := by
  refine setStream_keeps (fun _ => hwrites) (fun o j _ _ hnames _ => ?_)
  have hall : ∀ p ∈ allFour, (s.output p).route.names i = false := by
    simp only [State.named, List.any_eq_false, Bool.or_eq_true, not_or, Bool.not_eq_true] at hnamed
    exact fun p hp => (hnamed p hp).1
  rw [hall o (by fin_cases o <;> simp [allFour])] at hnames
  cases hnames

theorem writesFilling_of_not_receiving {r : Stream} (h : r.writing = none) : r.WritesFilling :=
  fun j hj => by rw [h] at hj; cases hj

/-! ### How a frame ends (R34) -/

/-- The FILLING slot of a frame that ends is not one that an output shows. -/
theorem setStream_ended_keeps {s : State} {i : Fin 8} {r b : Stream} {f : Incoming} (hr : s.stream i = some r)
    (hf : r.state = .receiving f) (hwriting : b.writing = none) (hslot : ∀ k, k ≠ f.slot → b.slot k = r.slot k) :
    Keeps s (s.setStream i (some b)) := by
  refine setStream_keeps (fun _ r' hr' => ?_) (fun o j hfilling _ _ hready => ?_)
  · obtain rfl := Option.some.inj hr'
    exact writesFilling_of_not_receiving hwriting
  · obtain ⟨r', q, hr', hq⟩ := hready
    obtain rfl := Option.some.inj (hr.symm.trans hr')
    have hne : j ≠ f.slot := by
      rintro rfl
      have hfill : r.slot f.slot = .filling := hfilling r hr f.slot (by simp [Stream.writing, hf])
      simp [hfill] at hq
    exact ⟨b, q, rfl, by rw [hslot j hne, hq]⟩

/-- The record of a stream whose frame is damaged counts it (R34). -/
def Stream.countDamaged (r : Stream) (damaged : Bool) : Stream :=
  if damaged then { r with counts := { r.counts with damaged := bump r.counts.damaged } } else r

/-- The record after a frame in slot j is dropped (R34). -/
def Stream.dropFrame (r : Stream) (j : Fin 4) : Stream := { r.setSlot j .empty with state := .idle }

/-- The record after a frame in slot j is published at a time (R34, R10). -/
def Stream.showFrame (r : Stream) (j : Fin 4) (time : Word) : Stream :=
  { r.publish j time with
    counts := { r.counts with published := bump r.counts.published }
    state := match r.config.kind with
      | .still => .fixed
      | .video => .idle }

theorem endFrame_of_receiving {s : State} {i : Fin 8} {r : Stream} {f : Incoming} (hr : s.stream i = some r)
    (hf : r.state = .receiving f) (late : Bool) : s.endFrame i late =
      if (f.damaged || late) = true ∧ r.config.damagedPolicy = .dropDamaged then
        s.setStream i (some ((r.countDamaged (f.damaged || late)).dropFrame f.slot))
      else { s with
          store := fillLines s.store (s.slotSegments ⟨i, f.slot⟩) r.config.lineBytes f.expected
            (r.config.height - f.expected) }.setStream i
        (some ((r.countDamaged (f.damaged || late)).showFrame f.slot s.timeBase)) := by
  unfold State.endFrame
  simp only [hr, hf]
  cases hdamaged : f.damaged || late <;> rfl

theorem endFrame_of_not_receiving {s : State} {i : Fin 8} (h : ∀ r f, s.stream i = some r → r.state ≠ .receiving f)
    (late : Bool) : s.endFrame i late = s := by
  unfold State.endFrame
  split
  next => rfl
  next r hr =>
    split
    next => rfl
    next => rfl
    next f hf => exact absurd hf (h r f hr)

theorem countDamaged_slot (r : Stream) (damaged : Bool) (j : Fin 4) : (r.countDamaged damaged).slot j = r.slot j := by
  cases damaged <;> rfl

theorem showFrame_writing (r : Stream) (j : Fin 4) (time : Word) : (r.showFrame j time).writing = none := by
  cases hkind : r.config.kind <;> simp [Stream.writing, Stream.showFrame, hkind]

theorem endFrame_keeps (s : State) (i : Fin 8) (late : Bool) : Keeps s (s.endFrame i late) := by
  by_cases hreceiving : ∃ r f, s.stream i = some r ∧ r.state = .receiving f
  · obtain ⟨r, f, hr, hf⟩ := hreceiving
    have hslot (v : Slot) (k : Fin 4) (hk : k ≠ f.slot) :
        ((r.countDamaged (f.damaged || late)).setSlot f.slot v).slot k = r.slot k := by
      rw [Stream.slot_setSlot_ne _ hk, countDamaged_slot]
    rw [endFrame_of_receiving hr hf]
    split
    · exact setStream_ended_keeps hr hf rfl fun k hk => hslot .empty k hk
    · have hstore := Keeps.ofStore (s := s) (fillLines_wf s.store (s.slotSegments ⟨i, f.slot⟩) r.config.lineBytes
        f.expected (r.config.height - f.expected))
      exact hstore.trans (setStream_ended_keeps hr hf (showFrame_writing ..) fun k hk => hslot _ k hk)
  · rw [endFrame_of_not_receiving fun r f hr hf => hreceiving ⟨r, f, hr, hf⟩]
    exact .refl _ s

/-! ### FRAME_START (R35 to R39) -/

theorem capture_slots (r : Stream) (now : Word) (number : Half) : (r.capture now number).slots = r.slots := by
  unfold Stream.capture
  cases r.lastStart <;> rfl

theorem capture_state (r : Stream) (now : Word) (number : Half) : (r.capture now number).state = r.state := by
  unfold Stream.capture
  cases r.lastStart <;> rfl

theorem writing_congr {a b : Stream} (h : a.state = b.state) : a.writing = b.writing := by
  rw [Stream.writing, Stream.writing, h]

/-- A frame begins on a slot that no output shows. -/
theorem beginFrame_keeps {s : State} {i : Fin 8} {a r : Stream} (ha : s.stream i = some a) (hslots : r.slots = a.slots)
    (hstate : r.state = a.state) : Keeps s (s.beginFrame i r) := by
  have hslot (k : Fin 4) : r.slot k = a.slot k := by rw [Stream.slot, hslots, Stream.slot]
  unfold State.beginFrame
  split
  next j hj =>
    obtain ⟨hlt, hrefs, -⟩ := mem_candidates.mp (writeSlot?_mem hj)
    refine setStream_keeps (fun _ r' hr' => ?_) (fun o k _ hcurrent _ hready => ?_)
    · obtain rfl := Option.some.inj hr'
      intro k hk
      obtain rfl : j = k := by simpa [Stream.writing] using hk
      exact Stream.slot_setSlot_same hlt .filling
    · obtain ⟨r', q, hr', hq⟩ := hready
      obtain rfl := Option.some.inj (ha.symm.trans hr')
      have hne : k ≠ j := by
        rintro rfl
        exact absurd hrefs (refs_pos hcurrent).ne'
      exact ⟨_, q, rfl, by rw [← hq, ← hslot]; exact Stream.slot_setSlot_ne r hne .filling⟩
  next => exact (post_keeps ..).after (setStream_same_keeps ha hslots (writing_congr hstate))

theorem decimateOrBegin_keeps {s : State} {i : Fin 8} {r : Stream} (hr : s.stream i = some r) :
    Keeps s (s.decimateOrBegin i r) := by
  unfold State.decimateOrBegin
  split
  · exact beginFrame_keeps hr rfl rfl
  · split
    · split
      · exact beginFrame_keeps hr rfl rfl
      · exact setStream_same_keeps hr rfl rfl
    · exact beginFrame_keeps hr rfl rfl

theorem startFrame_keeps (s : State) (i : Fin 8) (number : Half) : Keeps s (s.startFrame i number) := by
  have hcapture : Keeps s (s.modStream i (fun r => r.capture s.timeBase number)) :=
    modStream_keeps (fun r => capture_slots r ..) (fun r => writing_congr (capture_state r ..))
  refine (hcapture.trans (endFrame_keeps _ i true)).trans ?_
  unfold State.startFrame
  extract_lets captured
  split
  next => exact .refl _ _
  next r hr =>
    split
    · exact .refl _ _
    · split
      · exact setStream_same_keeps hr rfl rfl
      · exact decimateOrBegin_keeps hr

/-! ### The other packets (R33, R40 to R44) -/

theorem countLineError_keeps (s : State) (i : Fin 8) : Keeps s (s.countLineError i) := by
  unfold State.countLineError
  split
  next => exact .refl _ s
  next r hr =>
    have hcount := setStream_same_keeps (b := { r with
      counts := { r.counts with lineErrors := bump r.counts.lineErrors } }) hr rfl rfl
    dsimp only
    split
    · exact hcount.trans (post_keeps ..)
    · exact hcount

/-- A frame in progress goes on with the same slot. -/
theorem writing_of_receiving {r b : Stream} {f g : Incoming} (hr : r.state = .receiving f) (hb : b.state = .receiving g)
    (h : g.slot = f.slot) : b.writing = r.writing := by
  simp [Stream.writing, hr, hb, h]

theorem takeLine_keeps {s : State} {i : Fin 8} {r : Stream} {f : Incoming} (hr : s.stream i = some r)
    (hf : r.state = .receiving f) (index count : Half) (pixels : List Byte) (crc : Half) :
    Keeps s (s.takeLine i r f index count pixels crc) := by
  unfold State.takeLine
  extract_lets k bad short fault segs filled written
  split
  · exact (countLineError_keeps ..).after (setStream_same_keeps hr rfl (writing_of_receiving hf rfl rfl))
  · have hfilled (h : storeWf s.store = true) : storeWf filled = true := by
      dsimp only [filled]
      split
      · exact h
      · exact fillLines_wf _ _ _ _ _ h
    have hstore := Keeps.ofStore (s := s) (m := writeSlot filled segs (k * r.config.lineBytes)
      (adjustLine r.config.width r.config.format.bytes pixels)) (fun h => writeSlot_wf _ _ _ _ (hfilled h))
    have hwritten : Keeps s written :=
      hstore.trans (setStream_same_keeps (a := r) hr rfl (writing_of_receiving hf rfl rfl))
    split
    · exact hwritten.trans (countLineError_keeps ..)
    · exact hwritten

theorem takeFrameEnd_keeps {s : State} {i : Fin 8} {r : Stream} {f : Incoming} (hr : s.stream i = some r)
    (hf : r.state = .receiving f) (count : Half) : Keeps s (s.takeFrameEnd i r f count) :=
  (endFrame_keeps ..).after (setStream_same_keeps hr rfl (writing_of_receiving hf rfl rfl))

theorem strayPacket_keeps (s : State) : Keeps s s.strayPacket := by
  unfold State.strayPacket
  split
  · exact .refl _ s
  · exact SameParts.keeps ⟨rfl, rfl, rfl, id, id, rfl, rfl, rfl, rfl, rfl, rfl, rfl, rfl⟩

theorem takePacket_keeps (s : State) (p : Packet) : Keeps s (s.takePacket p) := by
  unfold State.takePacket
  split
  next => exact .refl _ s
  next =>
    cases p with
    | stray => exact strayPacket_keeps s
    | frameStart stream number =>
      dsimp only
      split
      · exact strayPacket_keeps s
      · split
        · exact strayPacket_keeps s
        · exact startFrame_keeps ..
    | line stream index count pixels crc =>
      dsimp only
      split
      next => exact strayPacket_keeps s
      next =>
        split
        next => exact strayPacket_keeps s
        next r hr =>
          split
          next f hf => exact takeLine_keeps hr hf ..
          next => exact .refl _ s
          next => exact .refl _ s
    | frameEnd stream count =>
      dsimp only
      split
      next => exact strayPacket_keeps s
      next =>
        split
        next => exact strayPacket_keeps s
        next r hr =>
          split
          next f hf => exact takeFrameEnd_keeps hr hf ..
          next => exact .refl _ s
          next => exact .refl _ s

theorem frameTimedOut_keeps (s : State) (i : Fin 8) : Keeps s (s.frameTimedOut i) := by
  have hcount : Keeps s (s.modStream i (fun r => { r with
      counts := { r.counts with timeouts := bump r.counts.timeouts } })) := modStream_keeps (fun _ => rfl) (fun _ => rfl)
  exact (endFrame_keeps ..).after ((post_keeps ..).after hcount)

theorem endStoreTest_keeps (s : State) (failing : Word) : Keeps s (s.endStoreTest failing) := by
  unfold State.endStoreTest
  split
  · exact SameParts.keeps ⟨rfl, rfl, rfl, id, id, rfl, rfl, rfl, rfl, rfl, rfl, rfl, rfl⟩
  · exact .refl _ s

/-! ### The requests (R28 to R32) -/

theorem segments_keeps (s : State) (m : List (Option SlotRef)) : Keeps s { s with segments := m } :=
  SameParts.keeps ⟨rfl, rfl, rfl, id, id, rfl, rfl, rfl, rfl, rfl, rfl, rfl, rfl⟩

theorem streamOpenHandler_keeps (body : List Byte) (s : State) : Keeps s (streamOpenHandler body s).after := by
  unfold streamOpenHandler
  split
  next i c hi hc =>
    split
    next => exact .refl _ s
    next hclosed =>
      split
      · exact .refl _ s
      · split
        · exact .refl _ s
        · have hnone : s.stream i = none := by simpa using hclosed
          refine (segments_keeps s _).trans (setStream_keeps (fun _ r hr => ?_) (fun o j _ _ _ hready => ?_))
          · obtain rfl := Option.some.inj hr
            exact writesFilling_of_not_receiving rfl
          · obtain ⟨r, q, hr, -⟩ := hready
            cases hnone.symm.trans hr
  next => exact .refl _ s

theorem streamCloseHandler_keeps (body : List Byte) (s : State) : Keeps s (streamCloseHandler body s).after := by
  unfold streamCloseHandler
  split
  next => exact .refl _ s
  next i hi =>
    split
    next => exact .refl _ s
    next hopen =>
      have hnamed : s.named i = false := by simpa using (not_or.mp hopen).2
      exact (segments_keeps s _).trans (setStream_unnamed_keeps hnamed (fun r hr => by cases hr))

theorem rearm_writing {r : Stream} : r.rearm.writing = none := by
  unfold Stream.rearm Stream.abandon Stream.writing
  cases hstate : r.state <;> simp [hstate]

theorem streamRearmHandler_keeps (body : List Byte) (s : State) : Keeps s (streamRearmHandler body s).after := by
  unfold streamRearmHandler
  split
  next => exact .refl _ s
  next i hi =>
    split
    next => exact .refl _ s
    next r hr =>
      split
      next => exact .refl _ s
      next hfree =>
        have hnamed : s.named i = false := by simpa using (not_or.mp (not_or.mp hfree).2).1
        refine setStream_unnamed_keeps hnamed fun r' hr' => ?_
        obtain rfl := Option.some.inj hr'
        exact writesFilling_of_not_receiving rearm_writing

theorem streamStatusHandler_keeps (body : List Byte) (s : State) : Keeps s (streamStatusHandler body s).after := by
  unfold streamStatusHandler
  split
  next => exact .refl _ s
  next i hi =>
    split
    next => exact .refl _ s
    next r hr => exact setStream_same_keeps hr rfl rfl

end Sys2Proof.Machine
end

section
/-! What outputs keep of the laws (spec/03, spec/04). Between applying a route and selecting content an output still holds
the frame of the old route, so the law of custody is left open there. -/

namespace Sys2Proof.Machine

/-! ### What a vertical start can change -/

/-- A change of output o, of link o and of the Notice Table. -/
def StartOnly (o : Fin 4) (s t : State) : Prop :=
  ∃ v w ns, t = { s with outputs := s.outputs.set o v, links := s.links.set o w, notices := ns }

theorem StartOnly.refl (o : Fin 4) (s : State) : StartOnly o s s :=
  ⟨s.output o, s.link o, s.notices, by rw [State.output, State.link, Four.set_get, Four.set_get]⟩

theorem StartOnly.trans {o : Fin 4} {s t u : State} (h : StartOnly o s t) (g : StartOnly o t u) : StartOnly o s u := by
  obtain ⟨v, w, ns, rfl⟩ := h
  obtain ⟨v', w', ns', rfl⟩ := g
  exact ⟨v', w', ns', by simp [Four.set_set]⟩

theorem StartOnly.after {o : Fin 4} {s t u : State} (g : StartOnly o t u) (h : StartOnly o s t) : StartOnly o s u :=
  h.trans g

theorem StartOnly.ofPost (o : Fin 4) (s : State) (k : NoticeKind) (n : Nat) : StartOnly o s (s.post k n) := by
  obtain ⟨ns, hpost⟩ := post_eq s k n
  rw [hpost]
  exact ⟨s.output o, s.link o, ns, by rw [State.output, State.link, Four.set_get, Four.set_get]⟩

theorem StartOnly.ofSet (o : Fin 4) (s : State) (v : Output) : StartOnly o s (s.setOutput o v) :=
  ⟨v, s.link o, s.notices, by rw [State.link, Four.set_get]; rfl⟩

theorem StartOnly.ofOutput (o : Fin 4) (s : State) (f : Output → Output) : StartOnly o s (s.modOutput o f) := .ofSet ..

theorem StartOnly.ofLink (o : Fin 4) (s : State) (f : Link → Link) : StartOnly o s (s.modLink o f) :=
  ⟨s.output o, f (s.link o), s.notices, by rw [State.output, Four.set_get]; rfl⟩

theorem StartOnly.streams {o : Fin 4} {s t : State} (h : StartOnly o s t) : t.streams = s.streams := by
  obtain ⟨v, w, ns, rfl⟩ := h
  rfl

theorem StartOnly.mode {o : Fin 4} {s t : State} (h : StartOnly o s t) : t.mode = s.mode := by
  obtain ⟨v, w, ns, rfl⟩ := h
  rfl

@[simp] theorem output_post (s : State) (k : NoticeKind) (n : Nat) (o : Fin 4) : (s.post k n).output o = s.output o := by
  obtain ⟨ns, hpost⟩ := post_eq s k n
  rw [hpost]
  rfl

@[simp] theorem stream_post (s : State) (k : NoticeKind) (n : Nat) (i : Fin 8) : (s.post k n).stream i = s.stream i := by
  obtain ⟨ns, hpost⟩ := post_eq s k n
  rw [hpost]
  rfl

@[simp] theorem post_mode (s : State) (k : NoticeKind) (n : Nat) : (s.post k n).mode = s.mode := by
  obtain ⟨ns, hpost⟩ := post_eq s k n
  rw [hpost]

/-- A change of output o that every law allows and that keeps its state, applied route and timing, and current frame. -/
structure RasterOnly (o : Fin 4) (s t : State) : Prop where
  only : StartOnly o s t
  keeps : Keeps s t
  state : (t.output o).state = (s.output o).state
  route : (t.output o).route = (s.output o).route
  timing : (t.output o).timing = (s.output o).timing
  current : (t.output o).current = (s.output o).current

theorem RasterOnly.refl (o : Fin 4) (s : State) : RasterOnly o s s := ⟨.refl o s, .refl _ s, rfl, rfl, rfl, rfl⟩

theorem RasterOnly.trans {o : Fin 4} {s t u : State} (h : RasterOnly o s t) (g : RasterOnly o t u) : RasterOnly o s u :=
  ⟨h.only.trans g.only, h.keeps.trans g.keeps, g.state.trans h.state, g.route.trans h.route, g.timing.trans h.timing,
    g.current.trans h.current⟩

theorem RasterOnly.ofPost (o : Fin 4) (s : State) (k : NoticeKind) (n : Nat) : RasterOnly o s (s.post k n) :=
  ⟨.ofPost .., post_keeps .., by simp, by simp, by simp, by simp⟩

theorem RasterOnly.ofSet {o : Fin 4} {s : State} {v : Output} (hstate : v.state = (s.output o).state)
    (htiming : v.timing = (s.output o).timing) (hroute : v.route = (s.output o).route)
    (htier : v.tier = (s.output o).tier) (hcurrent : v.current = (s.output o).current)
    (hcontext : v.context.isSome = (s.output o).context.isSome) : RasterOnly o s (s.setOutput o v) :=
  ⟨.ofSet .., setOutput_keeps (.ofSame hstate htiming hroute htier hcurrent hcontext), by simpa using hstate,
    by simpa using hroute, by simpa using htiming, by simpa using hcurrent⟩

theorem RasterOnly.ofOutput {o : Fin 4} {s : State} {f : Output → Output}
    (hstate : (f (s.output o)).state = (s.output o).state) (htiming : (f (s.output o)).timing = (s.output o).timing)
    (hroute : (f (s.output o)).route = (s.output o).route) (htier : (f (s.output o)).tier = (s.output o).tier)
    (hcurrent : (f (s.output o)).current = (s.output o).current)
    (hcontext : (f (s.output o)).context.isSome = (s.output o).context.isSome) : RasterOnly o s (s.modOutput o f) :=
  .ofSet hstate htiming hroute htier hcurrent hcontext

/-! ### Frame lock and freshness -/

theorem seekLock_raster (s : State) (o : Fin 4) : RasterOnly o s (s.seekLock o) := by
  have hseek : RasterOnly o s (s.modOutput o Output.seek) := .ofOutput rfl rfl rfl rfl rfl rfl
  unfold State.seekLock
  dsimp only
  split
  · exact hseek.trans (.ofPost ..)
  · exact hseek

/-- The lock update decides on the lock state and its counts. -/
theorem lockUpdate_eq (v : Output) (e : Int) : ∃ lock good bad,
    (v.lockUpdate e).1 = { v with lock := lock, goodLocks := good, badLocks := bad } := by
  unfold Output.lockUpdate
  split
  next => exact ⟨v.lock, v.goodLocks, v.badLocks, rfl⟩
  next =>
    split
    · split <;> exact ⟨_, _, _, rfl⟩
    · exact ⟨_, _, _, rfl⟩
  next =>
    split
    · split <;> exact ⟨_, _, _, rfl⟩
    · exact ⟨_, _, _, rfl⟩

theorem lockFrame_raster (s : State) (o : Fin 4) (moved : Bool) : RasterOnly o s (s.lockFrame o moved) := by
  have hraster (u : State) (t : Timing) (n : Nat) : RasterOnly o u (u.modOutput o (fun v => v.beginFrame t n)) :=
    .ofOutput rfl rfl rfl rfl rfl rfl
  have hupdate (u : State) (t : Timing) (n : Nat) (e : Int) : RasterOnly o u
      (u.setOutput o (({ (u.output o).beginFrame t n with phaseError := e } : Output).lockUpdate e).1) := by
    obtain ⟨lock, good, bad, h⟩ := lockUpdate_eq { (u.output o).beginFrame t n with phaseError := e } e
    rw [h]
    exact .ofSet rfl rfl rfl rfl rfl rfl
  unfold State.lockFrame
  split
  next => exact .refl o s
  next t ht =>
    split
    next => exact hraster s t _
    next =>
      have hsought : RasterOnly o s (if moved then s.seekLock o else s) := by
        split
        · exact seekLock_raster s o
        · exact .refl o s
      refine hsought.trans ?_
      generalize (if moved then s.seekLock o else s) = sought
      dsimp only
      split
      · exact (seekLock_raster sought o).trans (hraster _ t _)
      · split
        · exact (hupdate sought t _ _).trans (.ofPost ..)
        · exact hupdate sought t _ _

theorem freshenOutput_raster (s : State) (o : Fin 4) : RasterOnly o s (s.freshenOutput o) := by
  unfold State.freshenOutput
  dsimp only
  split
  next c p src hc hp hsrc =>
    split
    next => exact .refl o s
    next r hr =>
      have hset (fr : Freshness) (age : Option Word) : RasterOnly o s (s.setOutput o { s.output o with
          context := some { c with freshness := fr, age := age } }) := .ofSet rfl rfl rfl rfl rfl (by rw [hc]; rfl)
      split
      · exact hset ..
      · exact (hset ..).trans (.ofPost ..)
  next => exact .refl o s

/-! ### Routes and timing are applied (R58, R77) -/

/-- A change of output o that leaves open its tier and its custody. -/
structure ApplyOnly (o : Fin 4) (s t : State) : Prop where
  only : StartOnly o s t
  keeps : KeepsBut [.tier o, .custody o] s t
  current : (t.output o).current = (s.output o).current

theorem ApplyOnly.trans {o : Fin 4} {s t u : State} (h : ApplyOnly o s t) (g : ApplyOnly o t u) : ApplyOnly o s u :=
  ⟨h.only.trans g.only, h.keeps.trans g.keeps, g.current.trans h.current⟩

theorem ApplyOnly.refl (o : Fin 4) (s : State) : ApplyOnly o s s := ⟨.refl o s, .refl _ s, rfl⟩

theorem RasterOnly.apply {o : Fin 4} {s t : State} (h : RasterOnly o s t) : ApplyOnly o s t :=
  ⟨h.only, h.keeps.but _, h.current⟩

theorem ApplyOnly.ofOutput {o : Fin 4} {s : State} {f : Output → Output}
    (h : OutputKept [.tier o, .custody o] s o (f (s.output o)))
    (hcurrent : (f (s.output o)).current = (s.output o).current) : ApplyOnly o s (s.modOutput o f) :=
  ⟨.ofOutput .., modOutput_keeps h, by simpa using hcurrent⟩

theorem contextFor_isSome (r : Route) : (contextFor r).isSome = r.safety.isSome := by
  unfold contextFor
  split <;> simp [*]

theorem applyStagedTiming_apply (s : State) (o : Fin 4) : ApplyOnly o s (s.applyStagedTiming o) := by
  unfold State.applyStagedTiming
  dsimp only
  split
  next => exact .refl o s
  next t ht =>
    have hset : ApplyOnly o s (s.modOutput o (fun v => { v with timing := some t, stagedTiming := none })) := by
      refine .ofOutput ?_ rfl
      exact {
        context := fun _ h => h
        tier := fun h => absurd (by simp) h
        shown := fun h => absurd (by simp) h
        held := fun _ _ h => h
        dark := fun _ _ h => h.2.2.2 }
    split
    · exact hset.trans (seekLock_raster _ o).apply
    · exact hset

theorem applyRoute_apply (s : State) (o : Fin 4) (r : Route) : ApplyOnly o s (s.modOutput o (fun v => v.applyRoute r)) := by
  refine .ofOutput ?_ rfl
  exact {
    context := fun _ _ => contextFor_isSome r
    tier := fun h => absurd (by simp) h
    shown := fun h => absurd (by simp) h
    held := fun _ _ h => h
    dark := fun _ _ h => h.2.2.2 }

theorem applyStagedRoute_apply (s : State) (o : Fin 4) : ApplyOnly o s (s.applyStagedRoute o) := by
  unfold State.applyStagedRoute
  split
  · exact .refl o s
  · exact applyRoute_apply ..

/-- PAUSED ends only where an output may be SCANNING. -/
theorem endPause_apply (s : State) (o : Fin 4) : ApplyOnly o s (s.endPause o) := by
  unfold State.endPause
  split
  next hpaused =>
    refine .ofOutput ?_ rfl
    exact {
      context := fun _ h => h
      tier := fun h => absurd (by simp) h
      shown := fun h => absurd (by simp) h
      held := fun _ _ h => absurd hpaused h.2
      dark := fun _ _ h => absurd h.2.2.2 (by simp [hpaused, OutputState.running]) }
  next => exact .refl o s

/-- The states on the way of applying what is staged: the timing, the end of PAUSED, the route. -/
def State.stagedParts (s : State) (o : Fin 4) (atStart : Bool) : State :=
  let timed := s.applyStagedTiming o
  (if atStart && (s.output o).stagedRoute.isSome then timed.endPause o else timed).applyStagedRoute o

theorem applyStaged_eq (s : State) (o : Fin 4) (atStart : Bool) : s.applyStaged o atStart =
    if (s.output o).stagedTiming.isNone && (s.output o).stagedRoute.isNone then s
    else ((s.stagedParts o atStart).evaluate o).post .routeApplied o.val := rfl

theorem stagedParts_apply (s : State) (o : Fin 4) (atStart : Bool) : ApplyOnly o s (s.stagedParts o atStart) := by
  unfold State.stagedParts
  extract_lets timed
  have htimed : ApplyOnly o s timed := applyStagedTiming_apply s o
  split
  · exact (htimed.trans (endPause_apply ..)).trans (applyStagedRoute_apply ..)
  · exact htimed.trans (applyStagedRoute_apply ..)

theorem evaluate_only (s : State) (o : Fin 4) : StartOnly o s (s.evaluate o) := by
  unfold State.evaluate
  dsimp only
  split
  · exact .refl o s
  · exact (StartOnly.ofPost ..).after (.ofOutput ..)

/-- An evaluation changes the tier of its output alone. -/
theorem output_evaluate (s : State) (o : Fin 4) :
    (s.evaluate o).output o = { s.output o with tier := s.tierNow o } := by
  obtain ⟨ns, h⟩ := evaluate_eq s o
  rw [h]
  exact output_modOutput s o (fun v => { v with tier := s.tierNow o })

theorem applyStaged_only (s : State) (o : Fin 4) (atStart : Bool) : StartOnly o s (s.applyStaged o atStart) := by
  rw [applyStaged_eq]
  split
  · exact .refl o s
  · exact ((stagedParts_apply s o atStart).only.trans (evaluate_only ..)).trans (.ofPost ..)

theorem applyStaged_current (s : State) (o : Fin 4) (atStart : Bool) :
    ((s.applyStaged o atStart).output o).current = (s.output o).current := by
  rw [applyStaged_eq]
  split
  · rfl
  · rw [output_post, output_evaluate]
    exact (stagedParts_apply s o atStart).current

theorem applyStaged_keeps (s : State) (o : Fin 4) (atStart : Bool) :
    KeepsBut [.custody o] s (s.applyStaged o atStart) := by
  rw [applyStaged_eq]
  split
  · exact .refl _ s
  · have hparts := (stagedParts_apply s o atStart).keeps
    have hall := hparts.trans ((evaluate_keeps _ o).but _)
    have htier : KeepsBut [.custody o] s ((s.stagedParts o atStart).evaluate o) := by
      refine ⟨fun law hlaw hs => ?_, hall.pending, hall.time⟩
      by_cases ht : law = .tier o
      · subst ht
        exact evaluate_tier ..
      · exact hall.law law (by simp_all) hs
    exact htier.trans ((post_keeps ..).but _)

/-! ### Content selection (R64, R65) -/

/-- What a selection shows of a stream is READY. -/
theorem latest?_ready {s : State} {i : Fin 8} {ref : SlotRef} {q : Word} (h : s.latest? i = some (ref, q)) :
    ref.stream = i ∧ s.ReadyAt ref := by
  unfold State.latest? at h
  split at h
  next => cases h
  next r hr =>
    split at h
    next => cases h
    next j hj =>
      obtain ⟨p, hp, heq⟩ := Option.map_eq_some_iff.mp h
      obtain ⟨rfl, rfl⟩ : ⟨i, j⟩ = ref ∧ p = q := by simpa using heq
      refine ⟨rfl, r, p, hr, ?_⟩
      cases hslot : r.slot j with
      | ready q' => rw [hslot] at hp; exact congrArg Slot.ready (Option.some.inj hp)
      | empty | filling => rw [hslot] at hp; cases hp

/-- A picture is the frozen one of a PAUSED output or the latest of the source. -/
theorem selectPicture_slot {s : State} {v : Output} {i : Fin 8} {ref : SlotRef}
    (h : (s.selectPicture v i).slot = some ref) :
    (v.state = .paused ∧ v.current = some ref) ∨ (ref.stream = i ∧ s.ReadyAt ref) := by
  unfold State.selectPicture at h
  split at h
  next hpaused =>
    split at h
    next slot hslot => exact .inl ⟨hpaused, hslot.trans h⟩
    next => cases h
  next =>
    split at h
    next slot q hlatest =>
      obtain rfl := Option.some.inj h
      exact .inr (latest?_ready hlatest)
    next => cases h

theorem Route.names_source {r : Route} {p : Placement} (h : r.source = some p) : r.names p.stream = true := by
  simp [Route.names, h]

theorem Route.names_fallback {r : Route} {p : SafetyPart} {i : Fin 8} (h : r.safety = some p)
    (hi : p.fallback = some i) : r.names i = true := by
  simp [Route.names, h, hi]

/-- What a selection shows is the frozen frame of a PAUSED output, or a READY slot of a stream that the route names. -/
theorem select_slot {s : State} {o : Fin 4} {ref : SlotRef} (h : (s.select o).slot = some ref) :
    ((s.output o).state = .paused ∧ (s.output o).current = some ref) ∨
      ((s.output o).route.names ref.stream = true ∧ s.ReadyAt ref) := by
  have hpicture {p : Placement} (hp : (s.output o).route.source = some p)
      (h : (s.selectPicture (s.output o) p.stream).slot = some ref) :
      ((s.output o).state = .paused ∧ (s.output o).current = some ref) ∨
        ((s.output o).route.names ref.stream = true ∧ s.ReadyAt ref) :=
    (selectPicture_slot h).imp id fun ⟨hstream, hready⟩ => ⟨hstream ▸ Route.names_source hp, hready⟩
  unfold State.select at h
  dsimp only at h
  split at h
  next => cases h
  next p hp =>
    split at h
    next part c hpart hc =>
      split at h
      next => cases h
      next =>
        split at h
        next =>
          split at h
          next slot q hlatest =>
            obtain rfl := Option.some.inj h
            obtain ⟨i, hi, hlatest⟩ := Option.bind_eq_some_iff.mp hlatest
            obtain ⟨rfl, hready⟩ := latest?_ready hlatest
            exact .inr ⟨Route.names_fallback hpart hi, hready⟩
          next => cases h
        next => exact hpicture hp h
    next => exact hpicture hp h

theorem selectContent_output (s : State) (o : Fin 4) : (s.selectContent o).output o = { s.output o with
    current := (s.select o).slot, content := (s.select o).content, lastShown := (s.select o).lastShown } := by
  unfold State.selectContent
  dsimp only
  split <;> simp

theorem selectContent_only (s : State) (o : Fin 4) : StartOnly o s (s.selectContent o) := by
  unfold State.selectContent
  dsimp only
  split
  · exact (StartOnly.ofPost ..).after (.ofOutput ..)
  · exact .ofOutput ..

theorem selectContent_keeps (s : State) (o : Fin 4) : KeepsBut [.custody o] s (s.selectContent o) := by
  have hset : KeepsBut [.custody o] s (s.modOutput o (fun v => { v with
      current := (s.select o).slot, content := (s.select o).content, lastShown := (s.select o).lastShown })) :=
    modOutput_keeps {
      context := fun _ h => h
      tier := fun _ h => h
      shown := fun h => absurd (List.mem_singleton.mpr rfl) h
      held := fun _ _ h => h
      dark := fun _ _ h => h.2.2.2 }
  unfold State.selectContent
  dsimp only
  split
  · exact hset.trans ((post_keeps ..).but _)
  · exact hset

/-! ### The frame is sent (R127) -/

theorem sendMarked_keeps {s : State} {o : Fin 4} {mark : HalfMark} (hup : (s.link o).state = .up) (t : Timing) :
    Keeps s (s.sendMarked o t mark) := by
  unfold State.sendMarked
  extract_lets v w config seq due frame sent
  have hsent : Keeps s sent := modLink_keeps {
    touch := fun _ h => h
    awaiting := fun _ h => h
    power := fun _ h => h
    quiet := fun _ _ => .inl hup
    rate := fun _ => rfl
    dark := fun _ _ h => h.1 }
  split
  · split
    · exact hsent
    · exact hsent.trans (pushCrc_keeps ..)
  · exact hsent

/-- A frame is sent only on an UP link. -/
theorem sendMark_up {s : State} {o : Fin 4} {odd : Bool} {mark : HalfMark} (h : s.sendMark o odd = some mark) :
    (s.link o).state = .up := by
  unfold State.sendMark at h
  dsimp only at h
  split at h
  next hsends => exact hsends.1
  next => cases h

theorem sendFrame_keeps (s : State) (o : Fin 4) (odd : Bool) : Keeps s (s.sendFrame o odd) := by
  unfold State.sendFrame
  split
  next mark t hmark ht => exact sendMarked_keeps (sendMark_up hmark) t
  next =>
    exact modLink_keeps {
      touch := fun _ h => h
      awaiting := fun _ h => h
      power := fun _ h => h
      quiet := fun _ h => h.imp id fun h => ⟨h.1, rfl⟩
      rate := fun _ => rfl
      dark := fun _ _ h => h.1 }

theorem integrityStep_only (s : State) (o : Fin 4) (e : IntegrityStep) : StartOnly o s (s.integrityStep o e) := by
  unfold State.integrityStep
  dsimp only
  split
  · split
    · exact (StartOnly.ofPost ..).after (.ofSet ..)
    · exact .ofSet ..
  · exact .refl o s

theorem pushCrc_only (s : State) (o : Fin 4) (seq : Half) (crc : Word) : StartOnly o s (s.pushCrc o seq crc) := by
  unfold State.pushCrc
  split
  next => exact .refl o s
  next =>
    extract_lets injected record full queue s'
    have hpush : StartOnly o s s' := .ofOutput ..
    split
    · exact hpush.trans (integrityStep_only ..)
    · exact hpush

theorem sendFrame_only (s : State) (o : Fin 4) (odd : Bool) : StartOnly o s (s.sendFrame o odd) := by
  unfold State.sendFrame
  split
  next mark t hmark ht =>
    unfold State.sendMarked
    extract_lets v w config seq due frame sent
    have hsent : StartOnly o s sent := .ofLink ..
    split
    · split
      · exact hsent
      · exact hsent.trans (pushCrc_only ..)
    · exact hsent
  next => exact .ofLink ..

/-! ### The vertical start (R63, R82, R83) -/

theorem holdOnStatic_fields (v : Output) (applied : Bool) : (v.holdOnStatic applied).timing = v.timing ∧
    (v.holdOnStatic applied).route = v.route ∧ (v.holdOnStatic applied).tier = v.tier ∧
    (v.holdOnStatic applied).current = v.current ∧ (v.holdOnStatic applied).context = v.context ∧
    (v.holdOnStatic applied).state.running = v.state.running := by
  unfold Output.holdOnStatic
  cases hstate : v.state <;> simp [hstate, OutputState.running] <;> split_ifs <;> simp

/-- Hold-on-static is for RUN alone. -/
theorem holdOnStatic_keeps {s : State} (hrun : s.mode = .run) (o : Fin 4) (applied : Bool) :
    Keeps s (s.modOutput o (fun v => v.holdOnStatic applied)) := by
  obtain ⟨htiming, hroute, htier, hcurrent, hcontext, hrunning⟩ := holdOnStatic_fields (s.output o) applied
  exact modOutput_keeps {
    context := fun _ h => by rw [hcontext, hroute, h]
    tier := fun _ h => by rw [htier, htiming, hroute]; exact h
    shown := fun _ h => by rw [State.ShowsReady, hrunning, hcurrent, hroute]; exact h
    held := fun _ h _ => absurd hrun h
    dark := fun _ _ h => by rw [hrunning]; exact h.2.2.2 }

/-- A staged route that is applied at a start ends PAUSED; without one the route stays. -/
theorem applyStaged_paused {s : State} {o : Fin 4} (h : ((s.applyStaged o true).output o).state = .paused) :
    ((s.applyStaged o true).output o).route = (s.output o).route := by
  have htiming (u : State) : RasterOnly o u (u.seekLock o) := seekLock_raster u o
  rw [applyStaged_eq] at h ⊢
  split at h
  next hnone => rw [if_pos hnone]
  next hsome =>
    rw [if_neg hsome]
    rw [output_post, output_evaluate] at h ⊢
    have htimed : ((s.applyStagedTiming o).output o).route = (s.output o).route ∧
        ((s.applyStagedTiming o).output o).stagedRoute = (s.output o).stagedRoute := by
      unfold State.applyStagedTiming State.seekLock
      dsimp only
      split
      · exact ⟨rfl, rfl⟩
      · split
        · split <;> simp [Output.seek]
        · simp
    cases hstaged : (s.output o).stagedRoute with
    | none =>
      simp only [State.stagedParts, hstaged, Option.isSome_none, Bool.and_false, Bool.false_eq_true, if_false,
        State.applyStagedRoute, htimed.2]
      exact htimed.1
    | some r =>
      exfalso
      simp only [State.stagedParts, hstaged, Option.isSome_some, Bool.and_true, if_true] at h
      have hnot : (((s.applyStagedTiming o).endPause o).output o).state ≠ .paused := by
        unfold State.endPause
        split
        · simp
        · assumption
      refine hnot ?_
      unfold State.applyStagedRoute at h
      split at h
      · exact h
      · simpa [Output.applyRoute] using h

/-- Applying keeps a running output running. -/
theorem applyStaged_running {s : State} {o : Fin 4} {atStart : Bool} (h : (s.output o).state.running = true) :
    ((s.applyStaged o atStart).output o).state.running = true := by
  have htimed : ((s.applyStagedTiming o).output o).state = (s.output o).state := by
    unfold State.applyStagedTiming State.seekLock
    dsimp only
    split
    · rfl
    · split
      · split <;> simp [Output.seek]
      · simp
  have hpause (u : State) (hu : (u.output o).state.running = true) :
      ((u.endPause o).output o).state.running = true := by
    unfold State.endPause
    split
    · simp [OutputState.running]
    · exact hu
  have hroute (u : State) : ((u.applyStagedRoute o).output o).state = (u.output o).state := by
    unfold State.applyStagedRoute
    split <;> simp [Output.applyRoute]
  rw [applyStaged_eq]
  split
  · exact h
  · rw [output_post, output_evaluate]
    unfold State.stagedParts
    rw [hroute]
    split
    · exact hpause _ (by rwa [htimed])
    · rwa [htimed]

/-- An output that applies what is staged, follows its lock and its freshness, and then selects shows a READY slot that its
route names. -/
theorem selected_custody {s fresh : State} {o : Fin 4} (hfresh : RasterOnly o (s.applyStaged o true) fresh)
    (hrunning : (s.output o).state.running = true) (h : (Law.custody o).Holds s) :
    (Law.custody o).Holds (fresh.selectContent o) := by
  obtain ⟨hwriting, -, hshown⟩ := h
  have hstreams : (fresh.selectContent o).streams = s.streams :=
    (((applyStaged_only s o true).trans hfresh.only).trans (selectContent_only fresh o)).streams
  have hfreshStreams : fresh.streams = s.streams := ((applyStaged_only s o true).trans hfresh.only).streams
  have hready {ref : SlotRef} {t u : State} (htu : u.streams = t.streams) (h : t.ReadyAt ref) : u.ReadyAt ref := by
    rwa [State.ReadyAt, State.stream, htu]
  refine ⟨fun i r hr => hwriting i r (by rwa [State.stream, hstreams] at hr), ?_, fun ref href => ?_⟩
  · rw [selectContent_output]
    intro hstop
    have hruns := applyStaged_running (atStart := true) hrunning
    rw [← hfresh.state] at hruns
    rw [hruns] at hstop
    cases hstop
  · rw [selectContent_output] at href ⊢
    obtain ⟨hpaused, hcurrent⟩ | ⟨hnames, hok⟩ := select_slot href
    · rw [hfresh.state] at hpaused
      rw [hfresh.current, applyStaged_current] at hcurrent
      obtain ⟨hnames, hok⟩ := hshown ref hcurrent
      exact ⟨by rw [hfresh.route, applyStaged_paused hpaused]; exact hnames, hready hstreams hok⟩
    · exact ⟨hnames, hready (hstreams.trans hfreshStreams.symm) hok⟩

/-- A vertical start in its parts: what a start does after applying, before selecting. -/
theorem verticalStart_keeps {s : State} {o : Fin 4} (hrunning : (s.output o).state.running = true) :
    Keeps s (s.verticalStart o) := by
  unfold State.verticalStart
  extract_lets v odd skip counted applied routed moved fresh selected held
  have hcounted : RasterOnly o s counted := .ofOutput rfl rfl rfl rfl rfl rfl
  have hfresh : RasterOnly o applied fresh := (lockFrame_raster applied o moved).trans (freshenOutput_raster _ o)
  have hselected : Keeps s selected ∧ selected.mode = s.mode := by
    by_cases hskip : skip = true
    · have h1 : applied = counted := if_pos hskip
      have h2 : selected = fresh := if_pos hskip
      rw [h2]
      have h := hcounted.trans (h1 ▸ hfresh)
      exact ⟨h.keeps, h.only.mode⟩
    · have h1 : applied = counted.applyStaged o true := if_neg hskip
      have h2 : selected = fresh.selectContent o := if_neg hskip
      have hfresh' : RasterOnly o (counted.applyStaged o true) fresh := h1 ▸ hfresh
      rw [h2]
      refine ⟨hcounted.keeps.trans ?_, ?_⟩
      · have hbut := ((applyStaged_keeps counted o true).trans (hfresh'.keeps.but _)).trans (selectContent_keeps fresh o)
        refine hbut.all fun law hlaw hs => ?_
        obtain rfl := List.mem_singleton.mp hlaw
        exact selected_custody hfresh' (by rw [hcounted.state]; exact hrunning) hs
      · exact (((hcounted.only.trans (applyStaged_only counted o true)).trans hfresh'.only).trans
          (selectContent_only fresh o)).mode
  have hheld : Keeps s held := by
    dsimp only [held]
    split
    next hrun => exact hselected.1.trans (holdOnStatic_keeps (hselected.2.trans hrun.1) o routed)
    next => exact hselected.1
  exact hheld.trans (sendFrame_keeps held o odd)

theorem verticalStart_only (s : State) (o : Fin 4) : StartOnly o s (s.verticalStart o) := by
  unfold State.verticalStart
  extract_lets v odd skip counted applied routed moved fresh selected held
  have hcounted : StartOnly o s counted := .ofOutput ..
  have happlied : StartOnly o s applied := by
    dsimp only [applied]
    split
    · exact hcounted
    · exact hcounted.trans (applyStaged_only ..)
  have hfresh : StartOnly o s fresh :=
    (happlied.trans (lockFrame_raster applied o moved).only).trans (freshenOutput_raster _ o).only
  have hselected : StartOnly o s selected := by
    dsimp only [selected]
    split
    · exact hfresh
    · exact hfresh.trans (selectContent_only ..)
  have hheld : StartOnly o s held := by
    dsimp only [held]
    split
    · exact hselected.trans (.ofOutput ..)
    · exact hselected
  exact hheld.trans (sendFrame_only ..)

end Sys2Proof.Machine
end

section
/-! PROOF of the step invariants (O55 to O59) and of ResetIsSafe (O60). What the requests on outputs, the device modes and
the Control Port keep of the laws; then every command, and with it every step, keeps every law. -/

namespace Sys2Proof.Machine

open Sys2Proof.Claims

/-! ### Requests on outputs (R56 to R59, R75, R79 to R81, R86, R188 to R190) -/

/-- A change of an output's route or timing, followed by an evaluation, where the output shows nothing. -/
theorem evaluated_keeps {s : State} {o : Fin 4} {f : Output → Output} (h : OutputKept [.tier o] s o (f (s.output o))) :
    Keeps s ((s.modOutput o f).evaluate o) := by
  refine (((evaluate_keeps _ o).but [.tier o]).after (modOutput_keeps h)).all fun law hlaw _ => ?_
  obtain rfl := List.mem_singleton.mp hlaw
  exact evaluate_tier ..

/-- An output that does not run shows nothing, whatever route it has. -/
theorem showsReady_of_stopped {s : State} {v w : Output} (h : s.ShowsReady v) (hstop : v.state.running = false)
    (hcurrent : w.current = v.current) : s.ShowsReady w := by
  have hnone : w.current = none := hcurrent.trans (h.1 hstop)
  exact ⟨fun _ => hnone, fun ref href => by rw [hnone] at href; cases href⟩

theorem acceptRoute_keeps (s : State) (o : Fin 4) (r : Route) (reply : List Byte) :
    Keeps s (s.acceptRoute o r reply).after := by
  unfold State.acceptRoute
  split
  next hoff =>
    have happly : Keeps s ((s.modOutput o (fun v => v.applyRoute r)).evaluate o) := evaluated_keeps {
      context := fun _ _ => contextFor_isSome r
      tier := fun h => absurd (List.mem_singleton.mpr rfl) h
      shown := fun _ h => showsReady_of_stopped h (by simp [hoff, OutputState.running]) rfl
      held := fun _ _ h => h
      dark := fun _ _ h => h.2.2.2 }
    exact happly
  next =>
    have hstage : Keeps s (s.modOutput o (fun v => { v with stagedRoute := some r })) :=
      modOutput_keeps (.ofSame rfl rfl rfl rfl rfl rfl)
    exact hstage

theorem routeSetHandler_keeps (body : List Byte) (s : State) : Keeps s (routeSetHandler body s).after := by
  unfold routeSetHandler
  split
  · split
    · exact .refl _ s
    · exact acceptRoute_keeps ..
  · exact .refl _ s

theorem routeClearHandler_keeps (body : List Byte) (s : State) : Keeps s (routeClearHandler body s).after := by
  unfold routeClearHandler
  split
  · exact .refl _ s
  · exact acceptRoute_keeps ..

theorem timingSetHandler_keeps (body : List Byte) (s : State) : Keeps s (timingSetHandler body s).after := by
  unfold timingSetHandler
  split
  next => exact .refl _ s
  next o ho =>
    extract_lets t v r
    split
    next => exact .refl _ s
    next =>
      split
      next => exact .refl _ s
      next =>
        split
        next hoff =>
          have happly : Keeps s ((s.modOutput o (fun v => { v with timing := some t })).evaluate o) := evaluated_keeps {
            context := fun _ h => h
            tier := fun h => absurd (List.mem_singleton.mpr rfl) h
            shown := fun _ h => h
            held := fun _ _ h => h
            dark := fun _ _ h => h.2.2.2 }
          exact happly
        next =>
          have hstage : Keeps s (s.modOutput o (fun v => { v with stagedTiming := some t })) :=
            modOutput_keeps (.ofSame rfl rfl rfl rfl rfl rfl)
          exact hstage

/-- A stopped output begins to run: as SCANNING or PAUSED in RUN, and in HOLD at any time outside SLEEP. -/
theorem beginRaster_keeps {s : State} {o : Fin 4} {state : OutputState} (hstop : (s.output o).state.running = false)
    (hrun : state.running = true) (hawake : s.mode ≠ .sleep) (hheld : s.mode = .run ∨ state = .hold) :
    Keeps s (s.beginRaster o state) := by
  refine (verticalStart_keeps (by simpa using hrun)).after (modOutput_keeps ?_)
  exact {
    context := fun _ h => h
    tier := fun _ h => h
    shown := fun _ h => showsReady_of_stopped h hstop rfl
    held := fun _ h _ => by rw [hheld.resolve_left h]; simp
    dark := fun _ h => absurd h hawake }

theorem outputOn_keeps {s : State} (o : Fin 4) (hawake : s.mode ≠ .sleep) : Keeps s (s.outputOn o).after := by
  unfold State.outputOn
  extract_lets v
  split
  next => exact .refl _ s
  next hoff =>
    have hstate : (s.output o).state = .off := not_not.mp hoff
    split
    next => exact .refl _ s
    next =>
      have hseek : Keeps s (s.modOutput o Output.seekQuietly) := by
        refine modOutput_keeps ?_
        unfold Output.seekQuietly
        split <;> exact .ofSame rfl rfl rfl rfl rfl rfl
      have hstop : ((s.modOutput o Output.seekQuietly).output o).state.running = false := by
        rw [output_modOutput, Output.seekQuietly]
        split <;> simp [Output.seek, hstate, OutputState.running]
      refine hseek.trans (beginRaster_keeps hstop ?_ hawake ?_)
      · split <;> rfl
      · split
        next hrun => exact .inl hrun
        next => exact .inr rfl

theorem stop_showsReady (s : State) (v : Output) (h : v.current = none) : s.ShowsReady v :=
  ⟨fun _ => h, fun ref href => by rw [h] at href; cases href⟩

theorem outputOff_keeps (s : State) (o : Fin 4) : Keeps s (s.outputOff o).after := by
  unfold State.outputOff
  split
  next => exact .refl _ s
  next =>
    extract_lets stopped
    have hstopped : KeepsBut [.custody o] s stopped := by
      refine (applyStaged_keeps s o false).trans (modOutput_keeps ?_)
      exact {
        context := fun _ h => h
        tier := fun _ h => h
        shown := fun h => absurd (List.mem_singleton.mpr rfl) h
        held := fun _ _ _ => by simp
        dark := fun _ _ _ => rfl }
    have hkept : Keeps s stopped := by
      refine hstopped.all fun law hlaw hs => ?_
      obtain rfl := List.mem_singleton.mp hlaw
      refine ⟨fun i r hr => hs.1 i r ?_, stop_showsReady _ _ (by simp [stopped, Output.stop])⟩
      have hstreams : stopped.streams = s.streams := (applyStaged_only s o false).streams
      rwa [State.stream, hstreams] at hr
    have hsought : Keeps s (if (s.output o).lockOn then stopped.seekLock o else stopped) := by
      split
      · exact hkept.trans (seekLock_raster stopped o).keeps
      · exact hkept
    exact hsought

/-- A running output takes another running state; `hheld`: outside RUN it may not be SCANNING or PAUSED. -/
theorem restate_keeps {s : State} {o : Fin 4} {state : OutputState} (hrunning : (s.output o).state.running = true)
    (hrun : state.running = true)
    (hheld : s.mode = .run ∨ (s.output o).state = .scanning ∨ (s.output o).state = .paused) :
    Keeps s (s.modOutput o (fun v => { v with state := state, unchanged := 0 })) :=
  modOutput_keeps {
    context := fun _ h => h
    tier := fun _ h => h
    shown := fun _ h => ⟨fun hstop => absurd (hrun.symm.trans hstop) (by simp), h.2⟩
    held := fun _ h hs => by
      rcases hheld with hmode | hstate | hstate
      · exact absurd hmode h
      · exact absurd hstate hs.1
      · exact absurd hstate hs.2
    dark := fun _ _ h => absurd h.2.2.2 (by simp [hrunning]) }

theorem outputPause_keeps (s : State) (o : Fin 4) : Keeps s (s.outputPause o).after := by
  unfold State.outputPause
  extract_lets v pause
  have hpause (hrunning : (s.output o).state.running = true)
      (hheld : s.mode = .run ∨ (s.output o).state = .scanning ∨ (s.output o).state = .paused) : Keeps s pause.after :=
    restate_keeps (state := .paused) hrunning rfl hheld
  split
  next => exact .refl _ s
  next =>
    split
    next => exact .refl _ s
    next => exact .refl _ s
    next hstate =>
      have hscanning : (s.output o).state = .scanning := hstate
      exact hpause (by rw [hscanning]; rfl) (.inr (.inl hscanning))
    next => exact .refl _ s
    next hstate =>
      have hhold : (s.output o).state = .hold := hstate
      split
      next hrun => exact hpause (by rw [hhold]; rfl) (.inl hrun)
      next => exact .refl _ s

theorem outputResume_keeps (s : State) (o : Fin 4) : Keeps s (s.outputResume o).after := by
  unfold State.outputResume
  split
  next => exact .refl _ s
  next => exact .refl _ s
  next => exact .refl _ s
  next => exact .refl _ s
  next hpaused =>
    exact restate_keeps (state := .scanning) (by rw [hpaused]; rfl) rfl (.inr (.inr hpaused))

theorem outputControlHandler_keeps (body : List Byte) {s : State} (hawake : s.mode ≠ .sleep) :
    Keeps s (outputControlHandler body s).after := by
  unfold outputControlHandler
  split
  next => exact .refl _ s
  next o ho =>
    split
    · exact outputOn_keeps o hawake
    · exact outputOff_keeps s o
    · exact outputPause_keeps s o
    · exact outputResume_keeps s o
    · exact .refl _ s

theorem lockSetHandler_keeps (body : List Byte) (s : State) : Keeps s (lockSetHandler body s).after := by
  have hset (o : Fin 4) (on : Bool) (target : Nat) (lock : LockState) :
      Keeps s (s.modOutput o (fun v => { v.seek with lockOn := on, lockTarget := target, lock := lock })) :=
    modOutput_keeps (.ofSame rfl rfl rfl rfl rfl rfl)
  unfold lockSetHandler
  extract_lets target
  split
  next o on ho hon =>
    split
    · exact .refl _ s
    · split
      · exact hset o true target .seeking
      · have hoff : Keeps s (s.modOutput o (fun v => { v.seek with lockOn := false, lock := .free })) :=
          modOutput_keeps (.ofSame rfl rfl rfl rfl rfl rfl)
        exact hoff
  next => exact .refl _ s

/-- The three requests of the Integrity Checker change a context that stands, or the comparisons. -/
theorem context_keeps {s : State} {o : Fin 4} {c : Context} (h : (s.output o).context = some c) (c' : Context) :
    Keeps s (s.modOutput o (fun v => { v with context := some c' })) :=
  modOutput_keeps (.ofSame rfl rfl rfl rfl rfl (by rw [h]; rfl))

theorem crcInjectHandler_keeps (body : List Byte) (s : State) : Keeps s (crcInjectHandler body s).after := by
  unfold crcInjectHandler
  split
  next => exact .refl _ s
  next o ho =>
    split
    next => exact .refl _ s
    next c hc => exact context_keeps hc { c with inject := _ }

theorem integrityClearHandler_keeps (body : List Byte) (s : State) : Keeps s (integrityClearHandler body s).after := by
  unfold integrityClearHandler
  split
  next => exact .refl _ s
  next o ho =>
    split
    next => exact .refl _ s
    next c hc => exact context_keeps hc { c with integrity := .clean, blanked := false, bad := 0, good := 0 }

theorem integrityStatusHandler_keeps (body : List Byte) (s : State) : Keeps s (integrityStatusHandler body s).after := by
  unfold integrityStatusHandler
  split
  next => exact .refl _ s
  next o ho =>
    have hread : Keeps s (s.modOutput o (fun v => { v with comparisons := ⟨0, 0, 0, 0, 0, 0⟩ })) :=
      modOutput_keeps (.ofSame rfl rfl rfl rfl rfl rfl)
    exact hread

/-! ### Requests on the Alias Table, the touch queue and the mirror -/

theorem Keeps.ofAliases {s : State} {table : List AliasEntry} (h : s.aliases.length ≤ 16 → table.length ≤ 16) :
    Keeps s { s with aliases := table } := by
  refine ⟨fun law _ hs => ?_, rfl, rfl⟩
  cases law with
  | aliases => exact h hs
  | _ => exact hs

theorem aliasSetHandler_keeps (body : List Byte) (s : State) : Keeps s (aliasSetHandler body s).after := by
  unfold aliasSetHandler
  extract_lets a address
  split
  next l posted hl hposted =>
    split
    next =>
      extract_lets e
      split
      · exact Keeps.ofAliases (table := replaceAlias s.aliases e) (fun h => by simpa [replaceAlias] using h)
      · split
        next hroom => exact Keeps.ofAliases (table := s.aliases ++ [e]) (fun _ => by simpa using hroom)
        next => exact .refl _ s
    next => exact .refl _ s
  next => exact .refl _ s

theorem aliasClearHandler_keeps (body : List Byte) (s : State) : Keeps s (aliasClearHandler body s).after := by
  unfold aliasClearHandler
  extract_lets a
  split
  · exact Keeps.ofAliases (table := s.aliases.filter (fun e => e.aliasNo != a))
      (fun h => (List.length_filter_le ..).trans h)
  · exact .refl _ s

theorem remoteWriteHandler_keeps (body : List Byte) (s : State) : Keeps s (remoteWriteHandler body s).after := by
  unfold remoteWriteHandler
  extract_lets a data
  split
  · split
    · exact .refl _ s
    · exact hostRequest_keeps ..
  · exact .refl _ s

theorem remoteReadHandler_keeps (body : List Byte) (s : State) : Keeps s (remoteReadHandler body s).after := by
  unfold remoteReadHandler
  extract_lets a count
  split
  · split
    · exact .refl _ s
    · exact hostRequest_keeps ..
  · exact .refl _ s

theorem remoteResultHandler_keeps (body : List Byte) (s : State) : Keeps s (remoteResultHandler body s).after := by
  unfold remoteResultHandler
  split <;> exact .refl _ s

theorem linkStatusHandler_keeps (body : List Byte) (s : State) : Keeps s (linkStatusHandler body s).after := by
  unfold linkStatusHandler
  split
  next => exact .refl _ s
  next l hl =>
    have hread : Keeps s (s.modLink l (fun v => { v with
        symbolErrors := 0, badRecords := 0, seqErrors := 0, postedErrors := 0, lockChanged := false })) :=
      modLink_keeps (.ofSame rfl rfl rfl rfl rfl)
    exact hread

theorem screenStatusHandler_keeps (body : List Byte) (s : State) : Keeps s (screenStatusHandler body s).after := by
  unfold screenStatusHandler
  split
  next => exact .refl _ s
  next l hl =>
    have hread : Keeps s (s.modLink l (fun v => { v with mirrorChanged := false })) :=
      modLink_keeps (.ofSame rfl rfl rfl rfl rfl)
    exact hread

theorem touchFetchHandler_keeps (body : List Byte) (s : State) : Keeps s (touchFetchHandler body s).after := by
  unfold touchFetchHandler
  split
  next => exact .refl _ s
  next l hl =>
    have hread : Keeps s (s.modLink l (fun v => { v with
        touch := [], touchOverflow := 0, touchLost := 0, touchInvalid := 0 })) := modLink_keeps {
      touch := fun _ _ => Nat.zero_le 16
      awaiting := fun _ h => h
      power := fun _ h => h
      quiet := fun _ h => h
      rate := fun _ => rfl
      dark := fun _ _ h => h.1 }
    exact hread

/-! ### Notices and the mask -/

theorem NoticesOk.sublist {s : State} {ns : List Notice} (h : NoticesOk s) (hsub : ns.Sublist s.notices) :
    NoticesOk { s with notices := ns } :=
  ⟨h.1.sublist hsub, fun n hn => h.2 n (hsub.subset hn)⟩

theorem noticeFetchHandler_keeps (body : List Byte) (s : State) : Keeps s (noticeFetchHandler body s).after :=
  Keeps.ofNotices fun h => h.sublist (List.nil_sublist _)

theorem noticeMaskHandler_keeps (body : List Byte) (s : State) : Keeps s (noticeMaskHandler body s).after := by
  refine ⟨fun law _ hs => ?_, rfl, rfl⟩
  cases law with
  | mask =>
    change effectiveMask _ &&& 0x000FFFFC#32 = effectiveMask _
    rw [effectiveMask, BitVec.and_assoc, BitVec.and_self]
  | notices => exact NoticesOk.sublist hs List.filter_sublist
  | _ => exact hs

/-! ### Changes of mode -/

/-- A posting and a change of other parts of the state may change places. -/
theorem post_comm {s t : State} {k : NoticeKind} {o : Nat} {g : State → State} (hmode : t.mode = s.mode)
    (hmask : t.mask = s.mask) (hnotices : t.notices = s.notices) (hg : ∀ ns, g { s with notices := ns } =
      { t with notices := ns }) (hself : g s = t) : g (s.post k o) = t.post k o := by
  have hmasked : t.masked k = s.masked k := by rw [State.masked, State.masked, hmask]
  by_cases h : s.mode = .init ∨ s.masked k = true
  · rw [post_of_blocked h, post_of_blocked (by rwa [hmode, hmasked]), hself]
  · obtain ⟨hinit, hopen⟩ := not_or.mp h
    rw [post_of_not_blocked hinit (by simpa using hopen), post_of_not_blocked (by rwa [hmode]) (by simpa [hmasked] using hopen),
      hg, hnotices]

theorem toStandby_eq (s : State) : s.toStandby =
    ({ s with mode := .standby, outputs := s.outputs.map Output.toStandby } : State).post .modeChanged 0 := by
  have houtputs : (s.changeMode .standby).outputs = s.outputs := by
    obtain ⟨ns, h⟩ := post_eq { s with mode := .standby } .modeChanged 0
    rw [State.changeMode, h]
  rw [State.toStandby, houtputs]
  exact post_comm (s := { s with mode := .standby })
    (t := { s with mode := .standby, outputs := s.outputs.map Output.toStandby })
    (g := fun u => { u with outputs := s.outputs.map Output.toStandby }) rfl rfl rfl (fun _ => rfl) rfl

theorem toStandby_fields (v : Output) : v.toStandby.timing = v.timing ∧ v.toStandby.route = v.route ∧
    v.toStandby.tier = v.tier ∧ v.toStandby.current = v.current ∧ v.toStandby.context = v.context ∧
    v.toStandby.state.running = v.state.running ∧ v.toStandby.state ≠ .scanning ∧ v.toStandby.state ≠ .paused := by
  unfold Output.toStandby
  cases hstate : v.state <;> simp [OutputState.running, hstate]

/-- From RUN to STANDBY every running output is in HOLD (R85). -/
theorem toStandby_keeps {s : State} (hinit : s.mode ≠ .init) : Keeps s s.toStandby := by
  rw [toStandby_eq]
  refine (post_keeps ..).after ⟨fun law _ hs => ?_, rfl, rfl⟩
  set t : State := { s with mode := .standby, outputs := s.outputs.map Output.toStandby } with ht
  have houtput (o : Fin 4) : t.output o = (s.output o).toStandby := by simp [ht, State.output]
  have htimers (h : ModeTimersOk s) : ModeTimersOk t :=
    ⟨fun hi => absurd (h.1 hi) hinit, fun _ => rfl⟩
  cases law with
  | context o =>
    obtain ⟨-, hroute, -, -, hcontext, -⟩ := toStandby_fields (s.output o)
    rwa [Law.Holds, houtput, hcontext, hroute]
  | tier o =>
    obtain ⟨htiming, hroute, htier, -⟩ := toStandby_fields (s.output o)
    rw [Law.Holds, State.tierNow, houtput, htier, htiming, hroute]
    exact hs
  | custody o =>
    obtain ⟨-, hroute, -, hcurrent, -, hrunning, -⟩ := toStandby_fields (s.output o)
    refine ⟨hs.1, ?_⟩
    rw [houtput, State.ShowsReady, hroute, hcurrent, hrunning]
    exact hs.2
  | timers => exact htimers hs
  | held o =>
    obtain ⟨-, -, -, -, -, -, hscanning, hpaused⟩ := toStandby_fields (s.output o)
    exact ⟨htimers hs.1, .inr (by rw [houtput]; exact ⟨hscanning, hpaused⟩)⟩
  | dark n => exact fun h => by cases h
  | _ => exact hs

theorem outputToRun_only (s : State) (o : Fin 4) : StartOnly o s (s.outputToRun o) := by
  unfold State.outputToRun
  split
  · exact .ofOutput ..
  · exact (StartOnly.ofOutput ..).trans (verticalStart_only ..)
  · exact (StartOnly.ofOutput ..).trans (verticalStart_only ..)
  all_goals exact .refl o s

theorem outputToRun_keeps {s : State} (hrun : s.mode = .run) (o : Fin 4) : Keeps s (s.outputToRun o) := by
  have hawake : s.mode ≠ .sleep := by simp [hrun]
  unfold State.outputToRun
  split
  next hhold => exact restate_keeps (by rw [hhold]; rfl) rfl (.inl hrun)
  next hstate => exact beginRaster_keeps (by rw [hstate]; rfl) rfl hawake (.inl hrun)
  next hstate => exact beginRaster_keeps (by rw [hstate]; rfl) rfl hawake (.inl hrun)
  all_goals exact .refl _ s

/-- Visits that keep a condition which each of them needs. -/
theorem forEach_keeps_while {α : Type} {x : List Law} {f : α → State → State} {P : State → Prop}
    (h : ∀ a s, P s → KeepsBut x s (f a s) ∧ P (f a s)) (l : List α) {s : State} (hs : P s) :
    KeepsBut x s (forEach l f s) ∧ P (forEach l f s) := by
  induction l generalizing s with
  | nil => exact ⟨.refl x s, hs⟩
  | cons a l ih =>
    obtain ⟨hkeep, hp⟩ := h a s hs
    obtain ⟨hrest, hend⟩ := ih hp
    exact ⟨hkeep.trans hrest, hend⟩

theorem toRun_keeps {s : State} (hwake : s.wakeWindow = none) (hinit : s.mode ≠ .init) : Keeps s s.toRun := by
  have hchange : Keeps s { s with mode := .run } := by
    refine ⟨fun law _ hs => ?_, rfl, rfl⟩
    have htimers (h : ModeTimersOk s) : ModeTimersOk { s with mode := .run } :=
      ⟨fun hi => absurd (h.1 hi) hinit, fun hw => by simp [hwake] at hw⟩
    cases law with
    | timers => exact htimers hs
    | held o => exact ⟨htimers hs.1, .inl rfl⟩
    | dark n => exact fun h => by cases h
    | _ => exact hs
  have hchanged : Keeps s (s.changeMode .run) := hchange.trans (post_keeps ..)
  have hrun : (s.changeMode .run).mode = .run := post_mode ..
  exact hchanged.trans (forEach_keeps_while (P := fun u => u.mode = .run)
    (fun o u hu => ⟨outputToRun_keeps hu o, (outputToRun_only u o).mode.trans hu⟩) allFour hrun).1

end Sys2Proof.Machine
end

section
/-! PROOF of the step invariants (O55 to O59) and of ResetIsSafe (O60), their last part: sleep, wake and the resets; then every
command, and with it every step, keeps every law. -/

namespace Sys2Proof.Machine

open Sys2Proof.Claims

/-! ### Sleep entry (R202) -/

/-- The part as it begins to sleep: SLEEP, its streams and outputs stopped, its links and channels not yet. -/
def State.suspended (s : State) : State := { s with
  mode := .sleep
  wakeWindow := none
  store := keepSegments s.store s.segmentRetained
  streams := s.streams.map (Option.map Stream.sleep)
  outputs := s.outputs.map (fun v => { v.sleep with context := v.sleep.context.map Context.sleep }) }

theorem sleepEntry_eq (s : State) : s.sleepEntry =
    (forEach allFour (fun l t => t.linkSleep l) (s.suspended.post .modeChanged 0)).powerSleep := by
  have hcomm := post_comm (s := { s with mode := .sleep }) (t := s.suspended) (k := .modeChanged) (o := 0)
    (g := fun u => { u with
      wakeWindow := none
      store := keepSegments u.store u.segmentRetained
      streams := u.streams.map (Option.map Stream.sleep)
      outputs := u.outputs.map (fun v => { v.sleep with context := v.sleep.context.map Context.sleep }) })
    rfl rfl rfl (fun _ => rfl) rfl
  rw [← hcomm]
  rfl

theorem Stream.sleep_writing (r : Stream) : r.sleep.writing = none := by
  unfold Stream.sleep
  split
  next hretained =>
    simp only [Stream.retained, Bool.and_eq_true, beq_iff_eq] at hretained
    simp [Stream.writing, hretained.2]
  next => rfl

theorem Output.sleep_fields (v : Output) : v.sleep.timing = v.timing ∧ v.sleep.route = v.route ∧
    v.sleep.tier = v.tier ∧ v.sleep.context = v.context ∧ v.sleep.state.running = false ∧
    ((v.state.running = false → v.current = none) → v.sleep.current = none) := by
  unfold Output.sleep Output.stop Output.seekQuietly
  cases hstate : v.state <;> simp [hstate, OutputState.running] <;> split <;> simp [Output.seek]

theorem stopped_state {a : OutputState} (h : a.running = false) : a ≠ .scanning ∧ a ≠ .paused := by
  constructor <;> rintro rfl <;> cases h

theorem suspended_output (s : State) (o : Fin 4) : s.suspended.output o =
    { (s.output o).sleep with context := (s.output o).sleep.context.map Context.sleep } := by
  simp [State.suspended, State.output]

/-- As the part begins to sleep, only the law on SLEEP is open. -/
theorem suspended_keeps {s : State} (hinit : ModeTimersOk s → s.mode ≠ .init) :
    KeepsBut (allFour.map .dark) s s.suspended := by
  have htimers (h : ModeTimersOk s) : ModeTimersOk s.suspended :=
    ⟨fun hi => absurd (h.1 hi) (hinit h), fun hw => by simp [State.suspended] at hw⟩
  refine ⟨fun law hlaw hs => ?_, rfl, rfl⟩
  cases law with
  | store => exact keepSegments_wf _ _ hs
  | context o =>
    obtain ⟨-, hroute, -, hcontext, -⟩ := (s.output o).sleep_fields
    simpa [Law.Holds, suspended_output, hcontext, hroute] using hs
  | tier o =>
    obtain ⟨htiming, hroute, htier, -⟩ := (s.output o).sleep_fields
    rw [Law.Holds, State.tierNow, suspended_output, htier, htiming, hroute]
    exact hs
  | custody o =>
    obtain ⟨-, -, -, -, -, hcurrent⟩ := (s.output o).sleep_fields
    refine ⟨fun i r hr => ?_, stop_showsReady _ _ (by rw [suspended_output]; exact hcurrent hs.2.1)⟩
    simp only [State.stream, State.suspended, Eight.get_map, Option.map_eq_some_iff] at hr
    obtain ⟨a, -, rfl⟩ := hr
    exact writesFilling_of_not_receiving a.sleep_writing
  | timers => exact htimers hs
  | held o =>
    obtain ⟨-, -, -, -, hstop, -⟩ := (s.output o).sleep_fields
    exact ⟨htimers hs.1, .inr (by rw [suspended_output]; exact stopped_state hstop)⟩
  | noWindow => rfl
  | dark n => exact absurd (List.mem_map.mpr ⟨n, by fin_cases n <;> simp [allFour], rfl⟩) hlaw
  | _ => exact hs

/-- No output runs. -/
def State.Stopped (s : State) : Prop := ∀ o, (s.output o).state.running = false

/-- Every link is DISABLED. -/
def State.LinksOff (s : State) : Prop := ∀ l, (s.link l).state = .disabled

/-- A change keeps which state every output is in. -/
structure SameOutputStates (s t : State) : Prop where
  state : ∀ o, (t.output o).state = (s.output o).state

theorem SameOutputStates.refl (s : State) : SameOutputStates s s := ⟨fun _ => rfl⟩

theorem SameOutputStates.trans {s t u : State} (h : SameOutputStates s t) (g : SameOutputStates t u) :
    SameOutputStates s u := ⟨fun o => (g.state o).trans (h.state o)⟩

theorem SameOutputStates.after {s t u : State} (g : SameOutputStates t u) (h : SameOutputStates s t) :
    SameOutputStates s u := h.trans g

theorem SameOutputStates.ofOutput {s : State} {o : Fin 4} {f : Output → Output}
    (h : (f (s.output o)).state = (s.output o).state) : SameOutputStates s (s.modOutput o f) := ⟨fun p => by
  by_cases hp : p = o
  · subst hp
    rw [output_modOutput, h]
  · rw [output_modOutput_ne s o p f hp]⟩

theorem SameOutputStates.ofPost (s : State) (k : NoticeKind) (n : Nat) : SameOutputStates s (s.post k n) :=
  ⟨fun o => by rw [output_post]⟩

theorem SameOutputStates.ofLink (s : State) (l : Fin 4) (f : Link → Link) : SameOutputStates s (s.modLink l f) :=
  ⟨fun _ => rfl⟩

theorem SameOutputStates.ofEvaluate (s : State) (o : Fin 4) : SameOutputStates s (s.evaluate o) := by
  unfold State.evaluate
  dsimp only
  split
  · exact .refl s
  · exact (SameOutputStates.ofPost ..).after (.ofOutput rfl)

theorem remoteLinkLoss_outputs (s : State) (l : Fin 4) : (s.remoteLinkLoss l).outputs = s.outputs := by
  obtain ⟨rs, pe, fl, ns, h⟩ := remoteLinkLoss_outcomeOnly s l
  rw [h]
  rfl

theorem goDown_outputStates (s : State) (l : Fin 4) (target : LinkState) : SameOutputStates s (s.goDown l target) := by
  have hloss (t : State) : SameOutputStates t (t.remoteLinkLoss l) := ⟨fun o => by
    rw [State.output, remoteLinkLoss_outputs, State.output]⟩
  have hqueue (t : State) : SameOutputStates t (t.emptyQueue l) :=
    SameOutputStates.ofOutput (s := t) (o := l) (f := fun v => { v with context := v.context.map (fun c => { c with queue := [] }) }) rfl
  have hleave : SameOutputStates s (s.leaveUp l) :=
    (((SameOutputStates.ofLink ..).trans (hloss _)).trans (hqueue _)).trans (.ofLink ..)
  have hwind : SameOutputStates s (s.windDown l) := by
    unfold State.windDown
    split
    · exact hleave.trans (.ofLink ..)
    · exact .ofLink ..
  exact ((hwind.trans (.ofLink ..)).trans (.ofPost ..)).trans (.ofEvaluate ..)

theorem linkSleep_state (s : State) (l : Fin 4) : ((s.linkSleep l).link l).state = .disabled := by
  unfold State.linkSleep
  split
  · assumption
  · exact goDown_link_state ..

theorem linkSleep_only (s : State) (l : Fin 4) : LinkOnly l s (s.linkSleep l) := by
  unfold State.linkSleep
  split
  · exact .refl l s
  · exact goDown_only ..

theorem linkSleep_visitsOne : VisitsOne (fun l t => t.linkSleep l) := fun c _ s h => (linkSleep_only s c).away h

theorem linkSleep_outputStates (s : State) (l : Fin 4) : SameOutputStates s (s.linkSleep l) := by
  unfold State.linkSleep
  split
  · exact .refl s
  · exact goDown_outputStates ..

theorem LinkOnly.mode {l : Fin 4} {s t : State} (h : LinkOnly l s t) : t.mode = s.mode := by
  obtain ⟨w, os, pb, lb, fl, ns, rfl⟩ := h
  rfl

theorem linkSleeps_off (s : State) : (forEach allFour (fun l t => t.linkSleep l) s).LinksOff := by
  intro l
  obtain ⟨x, -, hend⟩ := forEach_allFour_at linkSleep_visitsOne s l
  rw [hend.2]
  exact linkSleep_state x l

/-- What sleep entry of a channel changes: the channel and the Notice Table. -/
theorem channelSleep_eq (s : State) (c : Fin 4) : ∃ v ns,
    s.channelSleep c = { s with channels := s.channels.set c v, notices := ns } ∧ v.state = .off ∧ v.waiting = false := by
  unfold State.channelSleep
  split
  next hoff => exact ⟨{ s.channel c with waiting := false }, s.notices, rfl, hoff, rfl⟩
  next =>
    obtain ⟨ns, hpost⟩ := post_eq (s.modChannel c (fun v => { v.settle .off with current := 0, waiting := false }))
      .powerState c.val
    exact ⟨_, ns, hpost, rfl, rfl⟩

theorem channelSleep_visitsOne : VisitsOne (fun c t => t.channelSleep c) := by
  intro c d s h
  obtain ⟨v, ns, heq, -⟩ := channelSleep_eq s c
  dsimp only
  rw [heq]
  exact ⟨Four.get_set_ne _ _ _ _ h, rfl⟩

/-- The channels sleep: only channels and notices change, and every channel is OFF and none waits. -/
theorem channelSleeps_eq (s : State) : (∃ cs ns, forEach allFour (fun c t => t.channelSleep c) s =
    { s with channels := cs, notices := ns }) ∧ ∀ c,
    ((forEach allFour (fun c t => t.channelSleep c) s).channel c).state = .off ∧
    ((forEach allFour (fun c t => t.channelSleep c) s).channel c).waiting = false := by
  refine ⟨?_, fun c => ?_⟩
  · refine forEach_keeps (R := fun s t => ∃ cs ns, t = { s with channels := cs, notices := ns })
      (fun s => ⟨s.channels, s.notices, rfl⟩) ?_ (fun c s => ?_) allFour s
    · rintro s _ _ ⟨_, _, rfl⟩ ⟨cs, ns, rfl⟩
      exact ⟨cs, ns, rfl⟩
    · obtain ⟨v, ns, h, -⟩ := channelSleep_eq s c
      exact ⟨_, ns, h⟩
  · obtain ⟨x, -, hend⟩ := forEach_allFour_at channelSleep_visitsOne s c
    obtain ⟨v, ns, heq, hoff, hwait⟩ := channelSleep_eq x c
    have hv : (x.channelSleep c).channel c = v := by rw [heq]; exact Four.get_set_same ..
    rw [hend.1, hv]
    exact ⟨hoff, hwait⟩

/-- A change that leaves the mode, and at number n what the law on SLEEP speaks of. -/
def SameDark (s t : State) : Prop := t.mode = s.mode ∧ ∀ n, (t.link n).state = (s.link n).state ∧
  (t.channel n).state = (s.channel n).state ∧ (t.channel n).waiting = (s.channel n).waiting ∧ t.outputs = s.outputs

theorem SameDark.trans {s t u : State} (h : SameDark s t) (g : SameDark t u) : SameDark s u := by
  refine ⟨g.1.trans h.1, fun n => ?_⟩
  obtain ⟨hlink, hstate, hwaiting, houtputs⟩ := h.2 n
  obtain ⟨hlink', hstate', hwaiting', houtputs'⟩ := g.2 n
  exact ⟨hlink'.trans hlink, hstate'.trans hstate, hwaiting'.trans hwaiting, houtputs'.trans houtputs⟩

theorem RemoteOnly.sameDark {l : Fin 4} {s t : State} (h : RemoteOnly l s t) : SameDark s t := by
  obtain ⟨fw, aw, nt, rs, pe, se, pb, lb, fl, ns, rfl⟩ := h
  refine ⟨rfl, fun n => ?_⟩
  by_cases hn : n = l
  · subst hn
    simp [State.link, State.channel, State.modLink, State.modChannel, State.setLink, State.setChannel]
  · simp [State.link, State.channel, State.modLink, State.modChannel, State.setLink, State.setChannel,
      Four.get_set_ne _ _ _ _ hn]

theorem SameDark.ofChannel {s : State} {c : Fin 4} {f : Channel → Channel}
    (hstate : (f (s.channel c)).state = (s.channel c).state)
    (hwaiting : (f (s.channel c)).waiting = (s.channel c).waiting) : SameDark s (s.modChannel c f) := by
  refine ⟨rfl, fun n => ?_⟩
  by_cases hn : n = c
  · subst hn
    exact ⟨rfl, by rw [channel_modChannel, hstate], by rw [channel_modChannel, hwaiting], rfl⟩
  · rw [channel_modChannel_ne s c n f hn]
    exact ⟨rfl, rfl, rfl, rfl⟩

theorem reration_sameDark (s : State) (c : Fin 4) (fresh : Bool) : SameDark s (s.reration c fresh) := by
  unfold State.reration
  extract_lets want v write
  split
  · exact (SameDark.ofChannel (f := fun v => { v with
      rationed := want, lastByte := none, pendingByte := if want then some .engage else none }) rfl rfl).trans
      (askRation_only ..).sameDark
  · split
    · exact ⟨rfl, fun n => ⟨rfl, rfl, rfl, rfl⟩⟩
    · exact (SameDark.ofChannel (f := fun v => { v with
        rationed := want, pendingByte := if v.lastByte = some write then none else some write }) rfl rfl).trans
        (askRation_only ..).sameDark

theorem setLevel_sameDark (s : State) (level : Nat) (changed : Option (Fin 4)) :
    SameDark s (s.setLevel level changed) := by
  have hpost : SameDark s (({ s with level := level } : State).post .powerBudget 0) := by
    obtain ⟨ns, h⟩ := post_eq { s with level := level } .powerBudget 0
    rw [h]
    exact ⟨rfl, fun n => ⟨rfl, rfl, rfl, rfl⟩⟩
  exact hpost.trans (forEach_keeps (R := SameDark) (fun s => ⟨rfl, fun n => ⟨rfl, rfl, rfl, rfl⟩⟩) (fun _ _ _ => SameDark.trans)
    (fun c u => reration_sameDark u c _) allFour _)

/-- The switches sleep: with every link DISABLED and no output running, nothing is left that is powered. -/
theorem powerSleep_dark {s : State} (hlinks : s.LinksOff) (hstopped : s.Stopped) (n : Fin 4) : s.powerSleep.DarkAt n := by
  obtain ⟨⟨cs, ns, hoffs⟩, hchannels⟩ := channelSleeps_eq s
  obtain ⟨hoff, hwait⟩ := hchannels n
  unfold State.powerSleep
  extract_lets slept off
  have hdark : off.DarkAt n := by
    refine ⟨?_, hoff, hwait, ?_⟩
    · dsimp only [off, slept]
      rw [hoffs]
      exact hlinks n
    · dsimp only [off, slept]
      rw [hoffs]
      exact hstopped n
  split
  · exact hdark
  · obtain ⟨hlink, hstate, hwaiting, houtputs⟩ := (setLevel_sameDark off 0 none).2 n
    exact ⟨hlink.trans hdark.1, hstate.trans hdark.2.1, hwaiting.trans hdark.2.2.1, by
      rw [State.output, houtputs]; exact hdark.2.2.2⟩

theorem powerSleep_keeps {s : State} (hlinks : s.LinksOff) : Keeps s s.powerSleep := by
  unfold State.powerSleep
  extract_lets slept off
  have hoff : Keeps s off := by
    refine (budgetParts_keeps slept slept.level none none slept.boostHold slept.boost).after ?_
    exact (forEach_keeps_while (P := State.LinksOff) (fun c t ht => ⟨channelSleep_keeps (.inl (ht c)),
      fun l => by obtain ⟨v, ns, h, -⟩ := channelSleep_eq t c; rw [h]; exact ht l⟩) allFour hlinks).1
  split
  · exact hoff
  · exact hoff.trans (setLevel_keeps ..)

end Sys2Proof.Machine
end

section
/-! PROOF of the step invariants (O55 to O59), EveryCommandCompletes (O2), StepTakesTheFrontCommand (O1) and ResetIsSafe
(O60): changes of mode and resets, every request and every
command, and the statements. -/

namespace Sys2Proof.Machine

open Sys2Proof.Claims

/-! ### Sleep entry and wake (R202, R203) -/

theorem suspended_stopped (s : State) : s.suspended.Stopped := fun o => by
  obtain ⟨-, -, -, -, hstop, -⟩ := (s.output o).sleep_fields
  rw [suspended_output]
  exact hstop

theorem linkSleeps_outputStates (s : State) : SameOutputStates s (forEach allFour (fun l t => t.linkSleep l) s) :=
  forEach_keeps (R := SameOutputStates) .refl (fun _ _ _ => .trans) (fun l s => linkSleep_outputStates s l) allFour s

theorem sleepEntry_keeps {s : State} (hinit : ModeTimersOk s → s.mode ≠ .init) : Keeps s s.sleepEntry := by
  rw [sleepEntry_eq]
  set begun := s.suspended.post .modeChanged 0 with hbegun
  set slept := forEach allFour (fun l t => t.linkSleep l) begun with hslept
  have hoff : slept.LinksOff := linkSleeps_off begun
  have hstopped : slept.Stopped := fun o => by
    rw [(linkSleeps_outputStates begun).state, hbegun, output_post]
    exact suspended_stopped s o
  have hbut : KeepsBut (allFour.map .dark) s slept.powerSleep :=
    (((suspended_keeps hinit).trans ((post_keeps ..).but _)).trans
      (Keeps.but (forEach_keepsBut (fun l s => linkSleep_keeps s l) allFour begun) _)).trans ((powerSleep_keeps hoff).but _)
  refine hbut.all fun law hlaw _ => ?_
  obtain ⟨n, -, rfl⟩ := List.mem_map.mp hlaw
  exact fun _ => powerSleep_dark hoff hstopped n

theorem wake_writing (r : Stream) : r.wake.writing = r.writing := rfl

theorem wake_slots (r : Stream) : r.wake.slots = r.slots := rfl

/-- The part as it begins to wake: STANDBY with its wake window, its streams without timing, links and channels not yet. -/
def State.waking (s : State) : State := { s with
  mode := .standby
  wakeWindow := some 250000
  streams := s.streams.map (Option.map Stream.wake) }

theorem wakeUp_eq (s : State) : s.wakeUp = forEach allFour (fun l t => t.linkWake l)
    (forEach allFour (fun c t => t.channelWake c) (s.waking.post .modeChanged 0)) := by
  have hcomm := post_comm (s := { s with mode := .standby }) (t := s.waking) (k := .modeChanged) (o := 0)
    (g := fun u => { u with wakeWindow := some 250000, streams := u.streams.map (Option.map Stream.wake) })
    rfl rfl rfl (fun _ => rfl) rfl
  rw [← hcomm]
  rfl

theorem waking_keeps {s : State} (hsleep : s.mode = .sleep) : KeepsBut [.noWindow] s s.waking := by
  have htimers (h : ModeTimersOk s) : ModeTimersOk s.waking :=
    ⟨fun hi => absurd ((h.1 hi).symm.trans hsleep) (by simp), fun _ => rfl⟩
  have hstream (i : Fin 8) : s.waking.stream i = (s.stream i).map Stream.wake := by simp [State.waking, State.stream]
  refine ⟨fun law hlaw hs => ?_, rfl, rfl⟩
  cases law with
  | custody o =>
    obtain ⟨hwriting, hdown, hshown⟩ := hs
    refine ⟨fun i r hr => ?_, hdown, fun ref href => ?_⟩
    · rw [hstream, Option.map_eq_some_iff] at hr
      obtain ⟨a, ha, rfl⟩ := hr
      exact hwriting i a ha
    · obtain ⟨hnames, r, q, hr, hq⟩ := hshown ref href
      exact ⟨hnames, r.wake, q, by rw [hstream, hr]; rfl, hq⟩
  | timers => exact htimers hs
  | held o => exact ⟨htimers hs.1, .inr (hs.2.resolve_left (by simp [hsleep]))⟩
  | dark n => exact fun h => by cases h
  | noWindow => exact absurd (List.mem_singleton.mpr rfl) hlaw
  | _ => exact hs

/-- What the wake of a channel or of a link can change: channel and link n, and the Notice Table. -/
def WakeOnly (n : Fin 4) (s t : State) : Prop :=
  ∃ v w ns, t = { s with channels := s.channels.set n v, links := s.links.set n w, notices := ns }

theorem WakeOnly.refl (n : Fin 4) (s : State) : WakeOnly n s s :=
  ⟨s.channel n, s.link n, s.notices, by rw [State.channel, State.link, Four.set_get, Four.set_get]⟩

theorem WakeOnly.trans {n : Fin 4} {s t u : State} (h : WakeOnly n s t) (g : WakeOnly n t u) : WakeOnly n s u := by
  obtain ⟨v, w, ns, rfl⟩ := h
  obtain ⟨v', w', ns', rfl⟩ := g
  exact ⟨v', w', ns', by simp [Four.set_set]⟩

theorem WakeOnly.after {n : Fin 4} {s t u : State} (g : WakeOnly n t u) (h : WakeOnly n s t) : WakeOnly n s u := h.trans g

theorem WakeOnly.ofChannel (n : Fin 4) (s : State) (f : Channel → Channel) : WakeOnly n s (s.modChannel n f) :=
  ⟨f (s.channel n), s.link n, s.notices, by rw [State.link, Four.set_get]; rfl⟩

theorem WakeOnly.ofLink (n : Fin 4) (s : State) (f : Link → Link) : WakeOnly n s (s.modLink n f) :=
  ⟨s.channel n, f (s.link n), s.notices, by rw [State.channel, Four.set_get]; rfl⟩

theorem WakeOnly.ofPost (n : Fin 4) (s : State) (k : NoticeKind) (o : Nat) : WakeOnly n s (s.post k o) := by
  obtain ⟨ns, hpost⟩ := post_eq s k o
  exact ⟨s.channel n, s.link n, ns, by rw [hpost, State.channel, State.link, Four.set_get, Four.set_get]⟩

theorem WakeOnly.mode {n : Fin 4} {s t : State} (h : WakeOnly n s t) : t.mode = s.mode := by
  obtain ⟨v, w, ns, rfl⟩ := h
  rfl

theorem enterTraining_only (s : State) (l : Fin 4) : WakeOnly l s (s.enterTraining l) :=
  (WakeOnly.ofPost ..).after (.ofLink ..)

theorem linkWake_only (s : State) (l : Fin 4) : WakeOnly l s (s.linkWake l) := by
  unfold State.linkWake State.enableLink
  split
  · split
    · exact enterTraining_only s l
    · exact (WakeOnly.ofPost ..).after (.ofLink ..)
  · exact .refl l s

theorem enterActive_wakeOnly (s : State) (c : Fin 4) : WakeOnly c s (s.enterActive c) := by
  obtain ⟨v, w, ns, h, -⟩ := enterActive_eq s c
  exact ⟨v, w, ns, h⟩

/-- A channel that was not ACTIVE has nothing to hand to its link as it faults. -/
theorem enterFault_of_not_active {s : State} {c : Fin 4} (h : (s.channel c).state ≠ .active) (cause : PowerCause) :
    s.enterFault c cause = (s.modChannel c (fun v => v.faulted cause)).postPower c := by
  rw [State.enterFault]
  simp [State.handLoss, h]

theorem powerOn_wakeOnly {s : State} {c : Fin 4} (h : (s.channel c).state = .off) : WakeOnly c s (s.powerOn c) := by
  have hon : WakeOnly c s (s.modChannel c (fun v => { v with intent := true })) := .ofChannel ..
  have hoff : ((s.modChannel c (fun v => { v with intent := true })).channel c).state = .off := by simpa using h
  unfold State.powerOn
  extract_lets on v
  have hv : v.state = .off := hoff
  rw [hv]
  dsimp only
  split
  next =>
    rw [enterFault_of_not_active (by rw [hoff]; simp)]
    exact hon.trans ((WakeOnly.ofPost ..).after (.ofChannel ..))
  next =>
    split
    next => exact hon.trans ((WakeOnly.ofPost ..).after (.ofChannel ..))
    next =>
      split
      · exact hon.trans (enterActive_wakeOnly ..)
      · exact hon.trans (.ofChannel ..)

theorem channelWake_only (s : State) (c : Fin 4) : WakeOnly c s (s.channelWake c) := by
  unfold State.channelWake
  extract_lets v
  split
  next => exact .refl c s
  next hoff =>
    have hstate : (s.channel c).state = .off := not_not.mp hoff
    split
    next => exact (WakeOnly.ofPost ..).after (.ofChannel ..)
    next =>
      split
      next => exact powerOn_wakeOnly hstate
      next => exact .refl c s

theorem wakeUp_keeps {s : State} (hsleep : s.mode = .sleep) : KeepsBut [.noWindow] s s.wakeUp := by
  rw [wakeUp_eq]
  have hbegun : (s.waking.post .modeChanged 0).mode ≠ .sleep := by simp [State.waking]
  obtain ⟨hchannels, hawake⟩ := forEach_keeps_while (x := []) (f := fun c t => t.channelWake c)
    (P := fun t => t.mode ≠ .sleep) (fun c t ht => ⟨channelWake_keeps c ht, by rwa [(channelWake_only t c).mode]⟩) allFour hbegun
  obtain ⟨hlinks, -⟩ := forEach_keeps_while (x := []) (f := fun l t => t.linkWake l)
    (P := fun t => t.mode ≠ .sleep) (fun l t ht => ⟨linkWake_keeps l ht, by rwa [(linkWake_only t l).mode]⟩) allFour hawake
  exact (((waking_keeps hsleep).trans ((post_keeps ..).but _)).trans (Keeps.but hchannels _)).trans (Keeps.but hlinks _)

/-! ### Resets (R201, R207) -/

/-- A link whose values are those of reset, whatever it sent, is quiet and needs no power. -/
theorem linkReset_keeps {s : State} {l : Fin 4} {f : Link → Link}
    (h : ∀ v, ∃ sent, f v = { Link.reset with forward := sent }) : KeepsBut [.tier l] s (s.modLink l f) := by
  obtain ⟨sent, hf⟩ := h (s.link l)
  refine modLink_keeps ?_
  rw [hf]
  exact {
    touch := fun _ _ => Nat.zero_le 16
    awaiting := fun _ _ => Nat.zero_le 2
    power := fun _ _ => .inl (.inl rfl)
    quiet := fun _ _ => .inr ⟨rfl, rfl⟩
    rate := fun h => absurd (List.mem_singleton.mpr rfl) h
    dark := fun _ _ _ => rfl }

theorem linkSoftReset_keeps (s : State) (l : Fin 4) : KeepsBut (allFour.map .tier) s (s.linkSoftReset l) := by
  have hleave : Keeps s (if (s.link l).state = .up then s.leaveUp l else s) := by
    split
    · exact leaveUp_keeps s l
    · exact .refl _ s
  have hreset := linkReset_keeps (s := if (s.link l).state = .up then s.leaveUp l else s) (l := l)
    (f := fun v => { Link.reset with forward := v.forward }) (fun v => ⟨v.forward, rfl⟩)
  exact (hleave.but _).trans (hreset.mono (by fin_cases l <;> simp [allFour]))

/-- The part after its links are reset and before RESET_DONE is posted. -/
def State.cleared (s : State) : State := { s with
  segments := List.replicate 32 none
  streams := Eight.fill none
  outputs := Four.fill Output.reset
  aliases := []
  notices := []
  mask := 0
  wakeWindow := none
  mode := .standby }

theorem softReset_eq (s : State) :
    s.softReset = (forEach allFour (fun l t => t.linkSoftReset l) s).cleared.post .resetDone 0 := rfl

theorem cleared_keeps {s : State} (hinit : ModeTimersOk s → s.initTimer = none) :
    KeepsBut (allFour.map .tier) s s.cleared := by
  have htimers (h : ModeTimersOk s) : ModeTimersOk s.cleared :=
    ⟨fun hi => (by simp [State.cleared, hinit h] at hi), fun hw => rfl⟩
  have houtput (o : Fin 4) : s.cleared.output o = Output.reset := Four.get_fill ..
  have hstream (i : Fin 8) : s.cleared.stream i = none := Eight.get_fill ..
  refine ⟨fun law hlaw hs => ?_, rfl, rfl⟩
  cases law with
  | notices => exact ⟨List.Pairwise.nil, fun n hn => by cases hn⟩
  | mask => exact (by decide : (0 : Word) &&& 0x000FFFFC#32 = 0)
  | aliases => exact Nat.zero_le 16
  | context o => rw [Law.Holds, houtput]; rfl
  | tier o => exact absurd (List.mem_map.mpr ⟨o, by fin_cases o <;> simp [allFour], rfl⟩) hlaw
  | custody o =>
    refine ⟨fun i r hr => ?_, stop_showsReady _ _ (by rw [houtput]; rfl)⟩
    rw [hstream] at hr
    cases hr
  | timers => exact htimers hs
  | held o => exact ⟨htimers hs.1, .inr (by rw [houtput]; exact ⟨by simp [Output.reset], by simp [Output.reset]⟩)⟩
  | dark n => exact fun h => by cases h
  | noWindow => rfl
  | _ => exact hs

theorem linkSoftReset_timers (s : State) (l : Fin 4) : (s.linkSoftReset l).initTimer = s.initTimer := by
  unfold State.linkSoftReset
  rw [modLink_initTimer]
  split
  · obtain ⟨_, _, _, _, _, _, h⟩ := leaveUp_only s l
    rw [h]
  · rfl

theorem linkSoftReset_only (s : State) (l : Fin 4) : LinkOnly l s (s.linkSoftReset l) := by
  unfold State.linkSoftReset
  split
  · exact (leaveUp_only s l).trans (.ofLink ..)
  · exact .ofLink ..

theorem linkSoftReset_visitsOne : VisitsOne (fun l t => t.linkSoftReset l) :=
  fun c _ s h => (linkSoftReset_only s c).away h

theorem linkSoftReset_link (s : State) (l : Fin 4) :
    ∃ sent, (s.linkSoftReset l).link l = { Link.reset with forward := sent } := by
  rw [State.linkSoftReset, link_modLink]
  exact ⟨_, rfl⟩

/-- Every link is reset, whatever it sent. -/
theorem linkSoftResets_link (s : State) (l : Fin 4) :
    ∃ sent, (forEach allFour (fun l t => t.linkSoftReset l) s).link l = { Link.reset with forward := sent } := by
  obtain ⟨x, -, hend⟩ := forEach_allFour_at linkSoftReset_visitsOne s l
  rw [hend.2]
  exact linkSoftReset_link x l

theorem softReset_keeps {s : State} (hinit : s.mode ≠ .init) : Keeps s s.softReset := by
  have htimer : (forEach allFour (fun l t => t.linkSoftReset l) s).initTimer = s.initTimer :=
    forEach_keeps (R := fun s t => t.initTimer = s.initTimer) (fun _ => rfl) (fun _ _ _ h g => g.trans h)
      (fun l s => linkSoftReset_timers s l) allFour s
  have hmode : (forEach allFour (fun l t => t.linkSoftReset l) s).mode = s.mode :=
    forEach_keeps (R := fun s t => t.mode = s.mode) (fun _ => rfl) (fun _ _ _ h g => g.trans h)
      (fun l s => (linkSoftReset_only s l).mode) allFour s
  have hlinks := forEach_keepsBut (fun l s => linkSoftReset_keeps s l) allFour s
  set u := forEach allFour (fun l t => t.linkSoftReset l) s with hu
  have hcleared : KeepsBut (allFour.map .tier) u u.cleared := cleared_keeps fun h => by
    by_contra hrun
    exact hinit (hmode ▸ h.1 (Option.isSome_iff_ne_none.mpr hrun))
  rw [softReset_eq]
  refine ((hlinks.trans hcleared).trans ((post_keeps ..).but _)).all fun law hlaw _ => ?_
  obtain ⟨o, -, rfl⟩ := List.mem_map.mp hlaw
  obtain ⟨sent, hlink⟩ := linkSoftResets_link s o
  have houtput : (u.cleared.post .resetDone 0).output o = Output.reset := by
    rw [output_post]
    exact Four.get_fill ..
  have hreset : (u.cleared.post .resetDone 0).link o = { Link.reset with forward := sent } := by
    rw [link_post]
    exact hlink
  rw [Law.Holds, State.tierNow, houtput, hreset]
  rfl

/-- Right after a reset, with any channels as reset leaves them, every law holds. -/
theorem reset_holds {s : State} (hstreams : ∀ i, s.stream i = none) (houtputs : ∀ o, s.output o = Output.reset)
    (hlinks : ∀ l, s.link l = Link.reset) (hchannels : ∀ c, (s.channel c).policy.limit ≤ (s.channel c).cap.milliamps)
    (hmode : s.mode = .init) (hwake : s.wakeWindow = none) (hstore : s.store = []) (hnotices : s.notices = [])
    (hmask : s.mask = 0) (haliases : s.aliases = []) (law : Law) : law.Holds s := by
  have htimers : ModeTimersOk s := ⟨fun _ => hmode, fun h => by rw [hwake] at h; cases h⟩
  cases law with
  | store => rw [Law.Holds, StoreOk, hstore]; rfl
  | notices => exact ⟨by rw [hnotices]; exact .nil, fun n hn => by rw [hnotices] at hn; cases hn⟩
  | mask => rw [Law.Holds, MaskOk, hmask]; rfl
  | aliases => rw [Law.Holds, haliases]; exact Nat.zero_le 16
  | queues l => rw [Law.Holds, hlinks]; exact ⟨Nat.zero_le 16, Nat.zero_le 2⟩
  | limit c => exact hchannels c
  | context o => rw [Law.Holds, houtputs]; rfl
  | powered l => rw [Law.Holds, hlinks]; exact ⟨.inl (.inl rfl), .inr ⟨rfl, rfl⟩⟩
  | tier o => rw [Law.Holds, State.tierNow, houtputs, hlinks]; rfl
  | custody o =>
    refine ⟨fun i r hr => ?_, stop_showsReady _ _ (by rw [houtputs]; rfl)⟩
    rw [hstreams] at hr
    cases hr
  | timers => exact htimers
  | held o => exact ⟨htimers, .inr (by rw [houtputs]; exact ⟨by simp [Output.reset], by simp [Output.reset]⟩)⟩
  | dark n => exact fun h => by rw [hmode] at h; cases h
  | noWindow => exact hwake

theorem deviceReset_channel (s : State) (caps : Four Cap) (reading : Int) (c : Fin 4) :
    (s.deviceReset caps reading).channel c =
      { Channel.reset (caps.get c) with backdrive := (s.channel c).backdrive } := by
  fin_cases c <;> rfl

theorem deviceReset_holds (s : State) (caps : Four Cap) (reading : Int) (law : Law) :
    law.Holds (s.deviceReset caps reading) :=
  reset_holds (s := s.deviceReset caps reading) (fun _ => Eight.get_fill ..) (fun _ => Four.get_fill ..)
    (fun _ => Four.get_fill ..) (fun c => by rw [deviceReset_channel]; exact Nat.le_refl _) rfl rfl rfl rfl rfl rfl law

theorem endInit_keeps {s : State} (hrun : s.initTimer.isSome = true) : Keeps s s.endInit := by
  refine (post_keeps ..).after ⟨fun law _ hs => ?_, rfl, rfl⟩
  have htimers (h : ModeTimersOk s) : ModeTimersOk { s with mode := .standby, initTimer := none } :=
    ⟨fun hi => (by cases hi), fun _ => rfl⟩
  cases law with
  | timers => exact htimers hs
  | held o => exact ⟨htimers hs.1, .inr (hs.2.resolve_left (by simp [hs.1.1 hrun]))⟩
  | dark n => exact fun h => by cases h
  | _ => exact hs

/-! ### Requests and transactions -/

theorem setModeHandler_keeps (body : List Byte) {s : State} (hinit : s.mode ≠ .init) (hwake : s.wakeWindow = none) :
    Keeps s (setModeHandler body s).after := by
  have hchange {m : Mode} {u : State} (h : Keeps s u) : Keeps s ((if s.mode = m then s else u).done []).after := by
    rw [State.done]
    split
    · exact .refl _ s
    · exact h
  unfold setModeHandler
  split
  · exact hchange (toStandby_keeps hinit)
  · exact hchange (toRun_keeps hwake hinit)
  · exact hchange (sleepEntry_keeps fun _ => hinit)
  · exact .refl _ s

theorem deviceStatusHandler_keeps (body : List Byte) (s : State) : Keeps s (deviceStatusHandler body s).after :=
  SameParts.keeps ⟨rfl, rfl, rfl, id, id, rfl, rfl, rfl, rfl, rfl, rfl, rfl, rfl⟩

theorem outputStatusHandler_keeps (body : List Byte) (s : State) : Keeps s (outputStatusHandler body s).after := by
  unfold outputStatusHandler
  split <;> exact .refl _ s

/-- What a request finds: the part is awake, its wake window has ended, and in INIT only IDENTIFY comes this far. -/
structure Ready (k : RequestKind) (s : State) : Prop where
  awake : s.mode ≠ .sleep
  wakeWindow : s.wakeWindow = none
  init : s.mode ≠ .init ∨ k = .identify

theorem Ready.notInit {k : RequestKind} {s : State} (h : Ready k s) (hk : k ≠ .identify) : s.mode ≠ .init :=
  h.init.resolve_right hk

theorem handlerOf_keeps {k : RequestKind} (body : List Byte) {s : State} (h : Ready k s) :
    Keeps s (handlerOf k body s).after := by
  cases k with
  | identify => exact .refl _ s
  | deviceStatus => exact deviceStatusHandler_keeps body s
  | setMode => exact setModeHandler_keeps body (h.notInit (by simp)) h.wakeWindow
  | softReset => exact softReset_keeps (h.notInit (by simp))
  | noticeFetch => exact noticeFetchHandler_keeps body s
  | noticeMask => exact noticeMaskHandler_keeps body s
  | streamOpen => exact streamOpenHandler_keeps body s
  | streamClose => exact streamCloseHandler_keeps body s
  | streamRearm => exact streamRearmHandler_keeps body s
  | streamStatus => exact streamStatusHandler_keeps body s
  | storeMap => exact .refl _ s
  | routeSet => exact routeSetHandler_keeps body s
  | routeClear => exact routeClearHandler_keeps body s
  | timingSet => exact timingSetHandler_keeps body s
  | outputControl => exact outputControlHandler_keeps body h.awake
  | lockSet => exact lockSetHandler_keeps body s
  | outputStatus => exact outputStatusHandler_keeps body s
  | crcInject => exact crcInjectHandler_keeps body s
  | integrityClear => exact integrityClearHandler_keeps body s
  | integrityStatus => exact integrityStatusHandler_keeps body s
  | linkPolicy => exact linkPolicyHandler_keeps body s
  | linkControl => exact linkControlHandler_keeps body h.awake
  | linkStatus => exact linkStatusHandler_keeps body s
  | screenStatus => exact screenStatusHandler_keeps body s
  | aliasSet => exact aliasSetHandler_keeps body s
  | aliasClear => exact aliasClearHandler_keeps body s
  | remoteWrite => exact remoteWriteHandler_keeps body s
  | remoteRead => exact remoteReadHandler_keeps body s
  | remoteResult => exact remoteResultHandler_keeps body s
  | touchFetch => exact touchFetchHandler_keeps body s
  | powerPolicy => exact powerPolicyHandler_keeps body s
  | powerControl => exact powerControlHandler_keeps body h.awake
  | powerBudget => exact powerBudgetHandler_keeps body s
  | powerStatus => exact powerStatusHandler_keeps body s

/-- The reply holder, the bytes driven and the queue of commands, with the end of a wake window. -/
theorem port_keeps (s : State) (r : Option Reply) (sent : List Byte) :
    Keeps s { s with reply := r, spiOut := sent } :=
  SameParts.keeps ⟨rfl, rfl, rfl, id, id, rfl, rfl, rfl, rfl, rfl, rfl, rfl, rfl⟩

theorem answer_keeps (s : State) (kind tag : Byte) (status : Status) (body : List Byte) :
    Keeps s (s.answer kind tag status body) := port_keeps s _ s.spiOut

theorem driveZeros_keeps (s : State) (n : Nat) : Keeps s (s.driveZeros n) := port_keeps s s.reply _

theorem endWakeWindow_keeps (s : State) : Keeps s { s with wakeWindow := none } :=
  SameParts.keeps ⟨rfl, rfl, rfl, id, fun h => (by cases h), rfl, rfl, rfl, rfl, rfl, rfl, rfl, rfl⟩

theorem read_keeps (s : State) (clocked : Nat) : Keeps s (s.read clocked) := by
  unfold State.read
  split
  · exact .refl _ s
  · exact port_keeps ..

theorem handle_keeps {s : State} (k : RequestKind) (tag : Byte) (body : List Byte) (hawake : s.mode ≠ .sleep)
    (hwake : s.wakeWindow = none) : Keeps s (s.handle k tag body) := by
  unfold State.handle
  split
  next => exact answer_keeps ..
  next hinit =>
    split
    next => exact answer_keeps ..
    next =>
      have hready : Ready k s := ⟨hawake, hwake, by
        by_cases h : s.mode = .init
        · exact .inr (not_not.mp fun hk => hinit ⟨h, hk⟩)
        · exact .inl h⟩
      exact (handlerOf_keeps body hready).trans (answer_keeps ..)

theorem wakeBy_keeps {s : State} (hsleep : s.mode = .sleep) (kind tag : Byte) : KeepsBut [.noWindow] s (s.wakeBy kind tag) :=
  (wakeUp_keeps hsleep).trans ((answer_keeps ..).but _)

theorem request_keeps (s : State) (k : RequestKind) (tag : Byte) (body : List Byte) : KeepsBut [.noWindow] s (s.request k tag body) := by
  refine ((driveZeros_keeps s (body.length + 5)).but _).trans ?_
  unfold State.request
  dsimp only
  split
  next hsleep => exact wakeBy_keeps hsleep ..
  next hawake =>
    have hhandle := handle_keeps (s := { s.driveZeros (body.length + 5) with wakeWindow := none }) k tag body hawake rfl
    exact ((endWakeWindow_keeps _).but _).trans (hhandle.but _)

theorem anyRequest_keeps (s : State) (kind tag : Byte) (body : List Byte) : KeepsBut [.noWindow] s (s.anyRequest kind tag body) := by
  unfold State.anyRequest
  split
  · exact request_keeps ..
  · refine ((driveZeros_keeps s (body.length + 5)).but _).trans ?_
    dsimp only
    split
    next hsleep => exact wakeBy_keeps hsleep ..
    next => exact ((endWakeWindow_keeps _).but _).trans ((answer_keeps ..).but _)

theorem transaction_keeps (s : State) (bytes : List Byte) : KeepsBut [.noWindow] s (s.transaction bytes) := by
  unfold State.transaction
  split
  next => exact .refl _ s
  next first rest =>
    split
    next => exact (read_keeps ..).but _
    next =>
      split
      next hsleep =>
        have hdriven : (s.driveZeros (first :: rest).length).mode = .sleep := hsleep
        exact ((driveZeros_keeps ..).but _).trans (wakeBy_keeps hdriven ..)
      next =>
        split
        · exact ((driveZeros_keeps ..).but _).trans ((answer_keeps ..).but _)
        · exact anyRequest_keeps ..

/-! ### Every command -/

theorem windowExpired_keeps (s : State) (l : Fin 4) : Keeps s (s.windowExpired l) :=
  modLink_keeps (.ofSame rfl rfl rfl rfl rfl)

theorem running_of_startTimer {s : State} {o : Fin 4} {left : Nat} (h : s.startTimer o = some left) :
    (s.output o).state.running = true := by
  by_contra hstop
  simp [State.startTimer, hstop] at h

theorem notInit_of_wakeWindow {s : State} (hrun : s.wakeWindow.isSome = true) (h : ModeTimersOk s) : s.mode ≠ .init := by
  rw [h.2 hrun]
  simp

/-- What every command keeps, with the time it says has passed; a wake window may begin to run. -/
structure Carried (i : Instr) (s t : State) : Prop where
  holds : ∀ law : Law, law ≠ .noWindow → law.Holds s → law.Holds t
  pending : t.pending = s.pending
  time : ∀ dt, durationOf i = some dt → t.timeBase = s.timeBase + BitVec.ofNat 32 dt

theorem Carried.ofElapsed {i : Instr} {s t : State} {dt : Nat} (hdt : durationOf i = some dt) 
    (h : KeepsBut [.noWindow] (s.elapse dt) t) : Carried i s t where
  holds law hlaw hs := h.law law (by simpa using hlaw) (elapse_holds dt law hs)
  pending := h.pending
  time d hd := by
    obtain rfl := Option.some.inj (hdt.symm.trans hd)
    exact h.time

theorem Carried.ofEvent {i : Instr} {s t : State} (hdt : durationOf i = none) (h : KeepsLater s t) : Carried i s t where
  holds law _ := h.holds law
  pending := h.pending
  time d hd := by rw [hdt] at hd; cases hd

theorem durationOf_request {i : Instr} {k : RequestKind} {dt : Nat} {tag : Byte} {body : List Byte}
    (h : requestOf i = some (k, dt, tag, body)) : durationOf i = some dt := by
  cases i <;> simp only [requestOf, Option.some.injEq, Prod.mk.injEq, reduceCtorEq] at h <;>
    obtain ⟨rfl, rfl, rfl, rfl⟩ := h <;> rfl

/-- A command that no request carries and that says how much time has passed. -/
theorem timed_carried {i : Instr} {dt : Nat} (hrow : requestOf i = none) (hdt : durationOf i = some dt) (s : State) :
    ∃ t, exec i s = .next t ∧ Carried i s t := by
  refine (?_ : ∃ t, exec i s = .next t ∧ KeepsBut [.noWindow] (s.elapse dt) t).imp fun t h => ⟨h.1, .ofElapsed hdt h.2⟩
  cases i <;> simp only [durationOf, requestOf, Option.map_some, Option.map_none, Option.some.injEq, reduceCtorEq] at hdt hrow <;>
    subst hdt
  case storeTestDone dt failing => exact ⟨_, rfl, (endStoreTest_keeps ..).but _⟩
  case readTransaction dt clocked => exact ⟨_, rfl, (read_keeps ..).but _⟩
  case badFrame dt bytes => exact ⟨_, rfl, transaction_keeps ..⟩
  case unknownKind dt kind tag body => exact ⟨_, rfl, anyRequest_keeps ..⟩
  case wake dt bytes => exact ⟨_, rfl, transaction_keeps ..⟩
  case frameStart dt stream number => exact ⟨_, rfl, (takePacket_keeps ..).but _⟩
  case line dt stream index count pixels crc => exact ⟨_, rfl, (takePacket_keeps ..).but _⟩
  case frameEnd dt stream count => exact ⟨_, rfl, (takePacket_keeps ..).but _⟩
  case strayPacket dt bytes => exact ⟨_, rfl, (takePacket_keeps ..).but _⟩
  case temperatureSample dt reading => exact ⟨_, rfl, (sampleTemperature_keeps ..).but _⟩
  case statusRecord dt link bytes => exact ⟨_, rfl, (takeRecord_keeps ..).but _⟩
  case currentSample dt channel milliamps supply => exact ⟨_, rfl, (takeSample_keeps ..).but _⟩
  case undervoltageFault dt channel => exact ⟨_, rfl, (undervoltage_keeps ..).but _⟩
  case backdriveBegin dt channel => exact ⟨_, rfl, (backdriveBegins_keeps ..).but _⟩
  case backdriveEnd dt channel => exact ⟨_, rfl, (backdriveEnds_keeps ..).but _⟩
  case supplyGood dt => exact ⟨_, rfl, (setSupply_keeps ..).but _⟩

/-- A command that says no time: an expiry, a vertical start, BACKDRIVE_FAULT, DEVICE_RESET. -/
theorem event_carried {i : Instr} (hdt : durationOf i = none) (s : State) : ∃ t, exec i s = .next t ∧ Carried i s t := by
  by_cases hreset : ∃ caps reading, i = .deviceReset caps reading
  · obtain ⟨caps, reading, rfl⟩ := hreset
    exact ⟨_, rfl, fun law _ _ => deviceReset_holds s caps reading law, rfl, fun d hd => by cases hd⟩
  refine (?_ : ∃ t, exec i s = .next t ∧ KeepsLater s t).imp fun t h => ⟨h.1, .ofEvent hdt h.2⟩
  cases i <;> simp only [durationOf, requestOf, Option.map_some, reduceCtorEq] at hdt
  case deviceReset caps reading => exact absurd ⟨caps, reading, rfl⟩ hreset
  case initExpiry =>
    exact ⟨_, rfl, onExpiry_keeps fun left h => endInit_keeps (by simp [State.elapse, runDown_isSome, h])⟩
  case wakeWindowExpiry =>
    exact ⟨_, rfl, onExpiry_keeps fun left h =>
      sleepEntry_keeps (notInit_of_wakeWindow (by simp [State.elapse, runDown_isSome, h]))⟩
  case frameTimeoutExpiry stream => exact ⟨_, rfl, onExpiry_keeps fun _ _ => frameTimedOut_keeps ..⟩
  case verticalStart output =>
    exact ⟨_, rfl, onExpiry_keeps fun left h =>
      verticalStart_keeps (by rw [output_elapse]; exact running_of_startTimer h)⟩
  case backchannelWaitExpiry link => exact ⟨_, rfl, onExpiry_keeps fun _ _ => backWaitExpired_keeps ..⟩
  case halfDwellPoint link => exact ⟨_, rfl, onExpiry_keeps fun _ _ => halfDwell_keeps ..⟩
  case dwellExpiry link => exact ⟨_, rfl, onExpiry_keeps fun _ _ => dwellExpired_keeps ..⟩
  case silenceTimerExpiry link => exact ⟨_, rfl, onExpiry_keeps fun _ _ => silenceExpired_keeps ..⟩
  case errorWindowExpiry link => exact ⟨_, rfl, onExpiry_keeps fun _ _ => windowExpired_keeps ..⟩
  case retryTimerExpiry link => exact ⟨_, rfl, onExpiry_keeps fun _ _ => retryExpired_keeps ..⟩
  case remoteWatchdogExpiry link toggle => exact ⟨_, rfl, onExpiry_keeps fun _ _ => watchdogExpired_keeps ..⟩
  case backdriveFault channel => exact ⟨_, rfl, backdriveHeld_keeps ..⟩
  case dischargeExpiry channel => exact ⟨_, rfl, onExpiry_keeps fun _ _ => dischargeExpired_keeps ..⟩
  case coolDownExpiry channel => exact ⟨_, rfl, onExpiry_keeps fun _ _ => coolDownExpired_keeps ..⟩
  case activeTimerExpiry channel => exact ⟨_, rfl, onExpiry_keeps fun _ _ => activeHeld_keeps ..⟩
  case overBudgetTimerExpiry => exact ⟨_, rfl, onExpiry_keeps fun _ _ => overExpired_keeps _⟩
  case underBudgetTimerExpiry => exact ⟨_, rfl, onExpiry_keeps fun _ _ => underExpired_keeps _⟩

theorem exec_carried (i : Instr) (s : State) : ∃ t, exec i s = .next t ∧ Carried i s t := by
  cases hdt : durationOf i with
  | none => exact event_carried hdt s
  | some dt =>
    cases hrow : requestOf i with
    | none => exact timed_carried hrow hdt s
    | some r =>
      obtain ⟨k, dt, tag, body⟩ := r
      exact ⟨_, exec_request hrow s, .ofElapsed (durationOf_request hrow) (request_keeps ..)⟩

theorem dequeue_holds {s : State} (rest : List Instr) (law : Law) (hs : law.Holds s) :
    law.Holds { s with pending := rest } := by
  cases law <;> exact hs

theorem step_holds {s t : State} (h : step s = .next t) (law : Law) (hlaw : law ≠ .noWindow) (hs : law.Holds s) : law.Holds t := by
  unfold step at h
  split at h
  next =>
    cases h
    exact hs
  next c rest _ =>
    obtain ⟨u, hu, hkeep⟩ := exec_carried c { s with pending := rest }
    rw [hu] at h
    cases h
    exact hkeep.holds law hlaw (dequeue_holds rest law hs)

/-! ### The statements -/

theorem queuesOk_iff (s : State) : QueuesOk s ↔ Law.aliases.Holds s ∧ ∀ l, (Law.queues l).Holds s := Iff.rfl

theorem linkPowered_quiet_iff (s : State) : LinkPowered s ∧ QuietWhenDown s ↔ ∀ l, (Law.powered l).Holds s :=
  ⟨fun h l => ⟨or_assoc.mpr (h.1 l), h.2 l⟩, fun h => ⟨fun l => or_assoc.mp (h l).1, fun l => (h l).2⟩⟩

theorem writing_eq_some {r : Stream} {j : Fin 4} : r.writing = some j ↔ ∃ f, r.state = .receiving f ∧ f.slot = j := by
  cases hstate : r.state <;> simp [Stream.writing, hstate]

theorem custodyOk_iff (s : State) : CustodyOk s ↔ ∀ o, (Law.custody o).Holds s := by
  constructor
  · rintro ⟨hdown, hshown, hwriting⟩ o
    refine ⟨fun i r hr j hj => ?_, hdown o, hshown o⟩
    obtain ⟨f, hstate, rfl⟩ := writing_eq_some.mp hj
    exact hwriting i r f hr hstate
  · intro h
    exact ⟨fun o => (h o).2.1, fun o => (h o).2.2,
      fun i r f hr hstate => (h 0).1 i r hr f.slot (writing_eq_some.mpr ⟨f, hstate, rfl⟩)⟩

theorem heldOutsideRun_iff (s : State) :
    ModeTimersOk s ∧ HeldOutsideRun s ↔ ∀ o, (Law.held o).Holds s := by
  constructor
  · rintro ⟨htimers, hheld⟩ o
    exact ⟨htimers, hheld.imp_right fun h => h o⟩
  · intro h
    refine ⟨(h 0).1, ?_⟩
    by_cases hrun : s.mode = .run
    · exact .inl hrun
    · exact .inr fun o => (h o).2.resolve_left hrun

theorem darkInSleep_iff (s : State) : DarkInSleep s ↔ ∀ n, (Law.dark n).Holds s :=
  ⟨fun h n hsleep => h hsleep n, fun h hsleep n => h n hsleep⟩

/-- Settles O55. -/
theorem stepKeepsTheTables : Obligations.StepKeepsTheTables := by
  unfold Obligations.StepKeepsTheTables
  intro s t hstep
  have h := step_holds hstep
  refine ⟨h .store (by simp), h .notices (by simp), fun hs => ?queues, fun hs c => h (.limit c) (by simp) (hs c),
    h .mask (by simp), fun hs o => h (.context o) (by simp) (hs o)⟩
  rw [queuesOk_iff] at hs ⊢
  exact ⟨h .aliases (by simp) hs.1, fun l => h (.queues l) (by simp) (hs.2 l)⟩

/-- Settles O56. -/
theorem stepKeepsLinksPowered : Obligations.StepKeepsLinksPowered := by
  unfold Obligations.StepKeepsLinksPowered
  intro s t hstep hs
  rw [linkPowered_quiet_iff] at hs ⊢
  exact fun l => step_holds hstep (.powered l) (by simp) (hs l)

/-- Settles O57. -/
theorem stepKeepsTiers : Obligations.StepKeepsTiers := by
  unfold Obligations.StepKeepsTiers
  exact fun s t hstep hs o => step_holds hstep (.tier o) (by simp) (hs o)

/-- Settles O58. -/
theorem stepKeepsCustody : Obligations.StepKeepsCustody := by
  unfold Obligations.StepKeepsCustody
  intro s t hstep hs
  rw [custodyOk_iff] at hs ⊢
  exact fun o => step_holds hstep (.custody o) (by simp) (hs o)

/-- Settles O59. -/
theorem stepKeepsModes : Obligations.StepKeepsModes := by
  unfold Obligations.StepKeepsModes
  intro s t hstep
  have h := step_holds hstep
  refine ⟨h .timers (by simp), fun htimers hheld => ?held, fun hs => ?dark⟩
  case held =>
    have hs := (heldOutsideRun_iff s).mp ⟨htimers, hheld⟩
    exact ((heldOutsideRun_iff t).mpr fun o => h (.held o) (by simp) (hs o)).2
  case dark =>
    rw [darkInSleep_iff] at hs ⊢
    exact fun n => h (.dark n) (by simp) (hs n)

/-- A state in which every law holds has every property of Safety.lean. -/
theorem safe_of_laws {s : State} (h : ∀ law : Law, law.Holds s) : StoreOk s ∧ NoticesOk s ∧ QueuesOk s ∧ LimitsOk s ∧
    MaskOk s ∧ ContextOk s ∧ LinkPowered s ∧ QuietWhenDown s ∧ TierOk s ∧ CustodyOk s ∧ ModeTimersOk s ∧
    HeldOutsideRun s ∧ DarkInSleep s := by
  obtain ⟨hpowered, hquiet⟩ := (linkPowered_quiet_iff s).mpr fun l => h (.powered l)
  exact ⟨h .store, h .notices, (queuesOk_iff s).mpr ⟨h .aliases, fun l => h (.queues l)⟩, fun c => h (.limit c), h .mask,
    fun o => h (.context o), hpowered, hquiet, fun o => h (.tier o), (custodyOk_iff s).mpr fun o => h (.custody o),
    h .timers, ((heldOutsideRun_iff s).mpr fun o => h (.held o)).2, (darkInSleep_iff s).mpr fun n => h (.dark n)⟩

theorem powerOnReset_holds (law : Law) : law.Holds State.reset :=
  reset_holds (s := State.reset) (fun _ => Eight.get_fill ..) (fun _ => Four.get_fill ..) (fun _ => Four.get_fill ..)
    (fun c => by rw [State.channel, State.reset, Four.get_fill]; exact Nat.le_refl _) rfl rfl rfl rfl rfl rfl law

/-- Settles O2. -/
theorem everyCommandCompletes : Obligations.EveryCommandCompletes := by
  unfold Obligations.EveryCommandCompletes
  exact fun i s => (exec_carried i s).imp fun t h => ⟨h.1, h.2.pending, h.2.time⟩

/-- Settles O1. -/
theorem stepTakesTheFrontCommand : Obligations.StepTakesTheFrontCommand := by
  unfold Obligations.StepTakesTheFrontCommand
  exact ⟨fun s c rest h => by rw [step, h], fun s h => by rw [step, h]⟩

/-- Settles O60. -/
theorem resetIsSafe : Obligations.ResetIsSafe := by
  unfold Obligations.ResetIsSafe
  refine ⟨safe_of_laws powerOnReset_holds, fun s t caps reading h => ?_⟩
  cases h
  exact safe_of_laws (deviceReset_holds s caps reading)

end Sys2Proof.Machine
end

section
/-! PROOF of RequestsAreAnswered (O3), ControlPortRefusals (O4), FramingRoundTrip (O5), RequestRowsAreTheirFrames (O6),
ReadTransactionSendsTheReply (O7) and WorkedExamples (O8). -/

namespace Sys2Proof.Machine

open Sys2Proof.Claims

/-! ### Answers (R195, R209) -/

/-- An answer that has a body only with OK or ACCEPTED. -/
def Answer.Proper (a : Answer) : Prop := a.status = .ok ∨ a.status = .accepted ∨ a.body = []

@[simp] theorem done_proper (s : State) (body : List Byte) : (s.done body).Proper := .inl rfl

@[simp] theorem taken_proper (s : State) (body : List Byte) : (s.taken body).Proper := .inr (.inl rfl)

@[simp] theorem refuse_proper (s : State) (status : Status) : (s.refuse status).Proper := .inr (.inr rfl)

theorem setModeHandler_proper (body : List Byte) (s : State) : (setModeHandler body s).Proper := by
  unfold setModeHandler
  split <;> simp

theorem streamOpenHandler_proper (body : List Byte) (s : State) : (streamOpenHandler body s).Proper := by
  unfold streamOpenHandler
  split
  · split_ifs <;> simp
  · simp

theorem streamCloseHandler_proper (body : List Byte) (s : State) : (streamCloseHandler body s).Proper := by
  unfold streamCloseHandler
  split
  · simp
  · split_ifs <;> simp

theorem streamRearmHandler_proper (body : List Byte) (s : State) : (streamRearmHandler body s).Proper := by
  unfold streamRearmHandler
  split
  · simp
  · split
    · simp
    · split_ifs <;> simp

theorem streamStatusHandler_proper (body : List Byte) (s : State) : (streamStatusHandler body s).Proper := by
  unfold streamStatusHandler
  split
  · simp
  · split <;> simp

theorem acceptRoute_proper (s : State) (o : Fin 4) (r : Route) (reply : List Byte) :
    (s.acceptRoute o r reply).Proper := by
  unfold State.acceptRoute
  split_ifs <;> simp

theorem routeSetHandler_proper (body : List Byte) (s : State) : (routeSetHandler body s).Proper := by
  unfold routeSetHandler
  split
  · split
    · simp
    · exact acceptRoute_proper ..
  · simp

theorem routeClearHandler_proper (body : List Byte) (s : State) : (routeClearHandler body s).Proper := by
  unfold routeClearHandler
  split
  · simp
  · exact acceptRoute_proper ..

theorem timingSetHandler_proper (body : List Byte) (s : State) : (timingSetHandler body s).Proper := by
  unfold timingSetHandler
  split
  · simp
  · dsimp only
    split_ifs <;> simp

theorem outputOn_proper (s : State) (o : Fin 4) : (s.outputOn o).Proper := by
  unfold State.outputOn
  dsimp only
  split_ifs <;> simp

theorem outputOff_proper (s : State) (o : Fin 4) : (s.outputOff o).Proper := by
  unfold State.outputOff
  split_ifs <;> simp

theorem outputPause_proper (s : State) (o : Fin 4) : (s.outputPause o).Proper := by
  unfold State.outputPause
  dsimp only
  split_ifs
  · simp
  · split <;> simp
  · split <;> simp

theorem outputResume_proper (s : State) (o : Fin 4) : (s.outputResume o).Proper := by
  unfold State.outputResume
  split <;> simp

theorem outputControlHandler_proper (body : List Byte) (s : State) : (outputControlHandler body s).Proper := by
  unfold outputControlHandler
  split
  · simp
  · split
    · exact outputOn_proper ..
    · exact outputOff_proper ..
    · exact outputPause_proper ..
    · exact outputResume_proper ..
    · simp

theorem lockSetHandler_proper (body : List Byte) (s : State) : (lockSetHandler body s).Proper := by
  unfold lockSetHandler
  dsimp only
  split
  · split_ifs <;> simp
  · simp

theorem outputStatusHandler_proper (body : List Byte) (s : State) : (outputStatusHandler body s).Proper := by
  unfold outputStatusHandler
  split <;> simp

theorem crcInjectHandler_proper (body : List Byte) (s : State) : (crcInjectHandler body s).Proper := by
  unfold crcInjectHandler
  split
  · simp
  · split <;> simp

theorem integrityClearHandler_proper (body : List Byte) (s : State) : (integrityClearHandler body s).Proper := by
  unfold integrityClearHandler
  split
  · simp
  · split <;> simp

theorem integrityStatusHandler_proper (body : List Byte) (s : State) : (integrityStatusHandler body s).Proper := by
  unfold integrityStatusHandler
  split <;> simp

theorem linkPolicyHandler_proper (body : List Byte) (s : State) : (linkPolicyHandler body s).Proper := by
  unfold linkPolicyHandler
  split <;> simp

theorem linkControlHandler_proper (body : List Byte) (s : State) : (linkControlHandler body s).Proper := by
  unfold linkControlHandler
  split
  · simp
  · split <;> simp

theorem linkStatusHandler_proper (body : List Byte) (s : State) : (linkStatusHandler body s).Proper := by
  unfold linkStatusHandler
  split <;> simp

theorem screenStatusHandler_proper (body : List Byte) (s : State) : (screenStatusHandler body s).Proper := by
  unfold screenStatusHandler
  split <;> simp

theorem aliasSetHandler_proper (body : List Byte) (s : State) : (aliasSetHandler body s).Proper := by
  unfold aliasSetHandler
  dsimp only
  split
  · split_ifs <;> simp
  · simp

theorem aliasClearHandler_proper (body : List Byte) (s : State) : (aliasClearHandler body s).Proper := by
  unfold aliasClearHandler
  dsimp only
  split_ifs <;> simp

theorem hostRequest_proper (s : State) (e : AliasEntry) (request : RemoteRequest) (offset : Byte) :
    (s.hostRequest e request offset).Proper := by
  unfold State.hostRequest
  split_ifs
  · simp
  · simp
  · dsimp only
    split_ifs <;> simp

theorem remoteWriteHandler_proper (body : List Byte) (s : State) : (remoteWriteHandler body s).Proper := by
  unfold remoteWriteHandler
  dsimp only
  split
  · split
    · simp
    · exact hostRequest_proper ..
  · simp

theorem remoteReadHandler_proper (body : List Byte) (s : State) : (remoteReadHandler body s).Proper := by
  unfold remoteReadHandler
  dsimp only
  split
  · split
    · simp
    · exact hostRequest_proper ..
  · simp

theorem remoteResultHandler_proper (body : List Byte) (s : State) : (remoteResultHandler body s).Proper := by
  unfold remoteResultHandler
  split <;> simp

theorem touchFetchHandler_proper (body : List Byte) (s : State) : (touchFetchHandler body s).Proper := by
  unfold touchFetchHandler
  split <;> simp

theorem powerPolicyHandler_proper (body : List Byte) (s : State) : (powerPolicyHandler body s).Proper := by
  unfold powerPolicyHandler
  split
  · simp
  · split <;> simp

theorem powerControlHandler_proper (body : List Byte) (s : State) : (powerControlHandler body s).Proper := by
  unfold powerControlHandler
  split
  · simp
  · split
    · simp
    · simp
    · split_ifs <;> simp
    · simp

theorem powerStatusHandler_proper (body : List Byte) (s : State) : (powerStatusHandler body s).Proper := by
  unfold powerStatusHandler
  split <;> simp

theorem handlerOf_proper (k : RequestKind) (body : List Byte) (s : State) : (handlerOf k body s).Proper := by
  cases k with
  | identify | deviceStatus | softReset | noticeFetch | noticeMask | storeMap | powerBudget => exact .inl rfl
  | setMode => exact setModeHandler_proper body s
  | streamOpen => exact streamOpenHandler_proper body s
  | streamClose => exact streamCloseHandler_proper body s
  | streamRearm => exact streamRearmHandler_proper body s
  | streamStatus => exact streamStatusHandler_proper body s
  | routeSet => exact routeSetHandler_proper body s
  | routeClear => exact routeClearHandler_proper body s
  | timingSet => exact timingSetHandler_proper body s
  | outputControl => exact outputControlHandler_proper body s
  | lockSet => exact lockSetHandler_proper body s
  | outputStatus => exact outputStatusHandler_proper body s
  | crcInject => exact crcInjectHandler_proper body s
  | integrityClear => exact integrityClearHandler_proper body s
  | integrityStatus => exact integrityStatusHandler_proper body s
  | linkPolicy => exact linkPolicyHandler_proper body s
  | linkControl => exact linkControlHandler_proper body s
  | linkStatus => exact linkStatusHandler_proper body s
  | screenStatus => exact screenStatusHandler_proper body s
  | aliasSet => exact aliasSetHandler_proper body s
  | aliasClear => exact aliasClearHandler_proper body s
  | remoteWrite => exact remoteWriteHandler_proper body s
  | remoteRead => exact remoteReadHandler_proper body s
  | remoteResult => exact remoteResultHandler_proper body s
  | touchFetch => exact touchFetchHandler_proper body s
  | powerPolicy => exact powerPolicyHandler_proper body s
  | powerControl => exact powerControlHandler_proper body s
  | powerStatus => exact powerStatusHandler_proper body s

/-- Settles O3. The Control Port answers with the request's kind and tag, and no owner starts a wake window. -/
theorem requestsAreAnswered : Obligations.RequestsAreAnswered := by
  unfold Obligations.RequestsAreAnswered
  intro i s k dt tag body hrow hawake
  have hexec : exec i s = .next ((arrived s dt body).handle k tag body) := by
    rw [exec_request hrow, request_awake dt k tag body hawake]
  have hwindow : ((arrived s dt body).handle k tag body).wakeWindow = none :=
    (handle_keeps (s := arrived s dt body) k tag body hawake rfl).law .noWindow List.not_mem_nil rfl
  rw [hexec]
  obtain ⟨status, reply, hreply, hproper⟩ : ∃ status reply,
      ((arrived s dt body).handle k tag body).reply = some ⟨k.code, tag, status, reply⟩ ∧
        (status = .ok ∨ status = .accepted ∨ reply = []) := by
    unfold State.handle
    split
    · exact ⟨_, _, rfl, .inr (.inr rfl)⟩
    · split
      · exact ⟨_, _, rfl, .inr (.inr rfl)⟩
      · exact ⟨_, _, rfl, handlerOf_proper k body _⟩
  exact ⟨_, status, reply, rfl, hreply, hwindow, hproper⟩

/-! ### Transactions outside SLEEP (R193 to R195) -/

theorem transaction_awake {s : State} {bytes : List Byte} (hwrite : writeBytes bytes = true) (hawake : s.mode ≠ .sleep) :
    s.transaction bytes = match frameCheck bytes with
      | .bad kind tag => (s.driveZeros bytes.length).answer kind tag .badFrame []
      | .good kind tag body => s.anyRequest kind tag body := by
  cases bytes with
  | nil => cases hwrite
  | cons first rest =>
    have hfirst : first ≠ 0xA5#8 := by simpa [writeBytes] using hwrite
    rw [State.transaction, if_neg hfirst, if_neg hawake] <;> rfl

theorem transaction_asleep {s : State} {bytes : List Byte} (hwrite : writeBytes bytes = true) (hsleep : s.mode = .sleep) :
    s.transaction bytes =
      (s.driveZeros bytes.length).wakeBy (receivedTags bytes).1 (receivedTags bytes).2 := by
  cases bytes with
  | nil => cases hwrite
  | cons first rest =>
    have hfirst : first ≠ 0xA5#8 := by simpa [writeBytes] using hwrite
    rw [State.transaction, if_neg hfirst, if_pos hsleep]

theorem anyRequest_unknown {s : State} {kind : Byte} (hkind : RequestKind.ofCode? kind = none) (hawake : s.mode ≠ .sleep)
    (dt : Nat) (tag : Byte) (body : List Byte) :
    (s.elapse dt).anyRequest kind tag body = (arrived s dt body).answer kind tag .unknownKind [] := by
  have hdriven : ((s.elapse dt).driveZeros (body.length + 5)).mode ≠ .sleep := hawake
  rw [State.anyRequest, hkind]
  dsimp only
  rw [if_neg hdriven]
  rfl

theorem anyRequest_known {s : State} {kind : Byte} {k : RequestKind} (hkind : RequestKind.ofCode? kind = some k)
    (tag : Byte) (body : List Byte) : s.anyRequest kind tag body = s.request k tag body := by
  rw [State.anyRequest, hkind]

/-- Settles O4. -/
theorem controlPortRefusals : Obligations.ControlPortRefusals := by
  unfold Obligations.ControlPortRefusals
  refine ⟨fun s dt bytes kind tag hawake hwrite hframe => ?badFrame, fun s dt kind tag body hawake hkind => ?unknownKind,
    fun i s k dt tag body hrow => ⟨fun hinit hk => ?inInit, fun hawake hinit hlength => ?length⟩⟩
  case badFrame =>
    have hbad : (s.elapse dt).transaction bytes =
        ((s.elapse dt).driveZeros bytes.length).answer kind tag .badFrame [] := by
      rw [transaction_awake (s := s.elapse dt) hwrite hawake, hframe]
    exact congrArg _ hbad
  case unknownKind => exact congrArg _ (anyRequest_unknown hkind hawake dt tag body)
  case inInit =>
    have hrefused : (arrived s dt body).mode = .init ∧ k ≠ .identify := ⟨hinit, hk⟩
    rw [exec_request hrow, request_awake dt k tag body (by simp [hinit]), State.handle, if_pos hrefused]
    rfl
  case length =>
    have hlet : ¬ ((arrived s dt body).mode = .init ∧ k ≠ .identify) := fun h => h.2 (hinit h.1)
    rw [exec_request hrow, request_awake dt k tag body hawake, State.handle, if_neg hlet, if_pos hlength]
    rfl

/-! ### Framing (R194) -/

theorem byteAt_append_of_lt {l l' : List Byte} {i : Nat} (h : i < l.length) : byteAt (l ++ l') i = byteAt l i := by
  simp [byteAt, List.getElem?_append_left h]

theorem byteAt_append_length (l l' : List Byte) : byteAt (l ++ l') l.length = byteAt l' 0 := by
  simp [byteAt, List.getElem?_append_right]

theorem length_encodeRequest (kind tag : Byte) (body : List Byte) :
    (encodeRequest kind tag body).length = body.length + 5 := by
  simp [encodeRequest]

theorem receivedTags_encodeRequest (kind tag : Byte) (body : List Byte) :
    receivedTags (encodeRequest kind tag body) = (kind, tag) := by
  simp [receivedTags, encodeRequest, byteAt]

/-- The four bytes before a body and the body: what the check byte covers. -/
def coveredBytes (kind tag : Byte) (body : List Byte) : List Byte :=
  [0x5A#8, kind, tag, BitVec.ofNat 8 body.length] ++ body

theorem encodeRequest_eq (kind tag : Byte) (body : List Byte) :
    encodeRequest kind tag body = coveredBytes kind tag body ++ [crc8 (coveredBytes kind tag body)] := rfl

theorem length_coveredBytes (kind tag : Byte) (body : List Byte) :
    (coveredBytes kind tag body).length = body.length + 4 := by simp [coveredBytes]

theorem frameCheck_encodeRequest (kind tag : Byte) {body : List Byte} (h : body.length ≤ 248) :
    frameCheck (encodeRequest kind tag body) = .good kind tag body := by
  have hl : (byteAt (encodeRequest kind tag body) 3).toNat = body.length := by
    have : byteAt (encodeRequest kind tag body) 3 = BitVec.ofNat 8 body.length := by simp [encodeRequest, byteAt]
    rw [this, BitVec.toNat_ofNat, Nat.mod_eq_of_lt (by omega)]
  have htake : (encodeRequest kind tag body).take (body.length + 4) = coveredBytes kind tag body := by
    rw [encodeRequest_eq, ← length_coveredBytes kind tag body, List.take_left]
  have hcheck : byteAt (encodeRequest kind tag body) (body.length + 4) = crc8 (coveredBytes kind tag body) := by
    rw [encodeRequest_eq, ← length_coveredBytes kind tag body, byteAt_append_length]
    rfl
  have hbody : ((encodeRequest kind tag body).drop 4).take body.length = body := by
    simp [encodeRequest]
  have hfirst : byteAt (encodeRequest kind tag body) 0 = 0x5A#8 := by simp [encodeRequest, byteAt]
  have hkind : byteAt (encodeRequest kind tag body) 1 = kind := by simp [encodeRequest, byteAt]
  have htag : byteAt (encodeRequest kind tag body) 2 = tag := by simp [encodeRequest, byteAt]
  have hsize : ¬ ((encodeRequest kind tag body).length < 4 ∨ 248 < body.length ∨
      (encodeRequest kind tag body).length ≠ body.length + 5) := by
    rw [length_encodeRequest]
    omega
  unfold frameCheck
  dsimp only
  rw [hl, htake, hcheck, hbody, hkind, htag, if_neg (not_not.mpr hfirst), if_neg hsize, if_neg (not_not.mpr rfl)]

/-- What a frame that passes is made of. -/
theorem of_frameCheck_good {bytes body : List Byte} {kind tag : Byte} (h : frameCheck bytes = .good kind tag body) :
    byteAt bytes 0 = 0x5A#8 ∧ byteAt bytes 1 = kind ∧ byteAt bytes 2 = tag ∧ (byteAt bytes 3).toNat ≤ 248 ∧
    bytes.length = (byteAt bytes 3).toNat + 5 ∧
    crc8 (bytes.take ((byteAt bytes 3).toNat + 4)) = byteAt bytes ((byteAt bytes 3).toNat + 4) ∧
    (bytes.drop 4).take (byteAt bytes 3).toNat = body := by
  unfold frameCheck at h
  dsimp only at h
  split_ifs at h with hfirst hsize hcheck
  simp only [Framed.good.injEq] at h
  obtain ⟨hkind, htag, hbody⟩ := h
  exact ⟨not_not.mp hfirst, hkind, htag, by omega, by omega, not_not.mp hcheck, hbody⟩

theorem eq_encodeRequest_of_good {bytes body : List Byte} {kind tag : Byte} (h : frameCheck bytes = .good kind tag body) :
    bytes = encodeRequest kind tag body ∧ body.length ≤ 248 := by
  obtain ⟨hfirst, hkind, htag, hmax, hlength, hcheck, hbody⟩ := of_frameCheck_good h
  match bytes, hlength with
  | b0 :: b1 :: b2 :: b3 :: rest, hlength =>
    have hrest : rest.length = b3.toNat + 1 := by simpa [byteAt] using hlength
    obtain rfl : b0 = 0x5A#8 := hfirst
    obtain rfl : b1 = kind := hkind
    obtain rfl : b2 = tag := htag
    have htake : rest.take b3.toNat = body := hbody
    have hlen : body.length = b3.toNat := by rw [← htake, List.length_take]; omega
    have hcovered : (0x5A#8 :: b1 :: b2 :: b3 :: rest).take (b3.toNat + 4) = coveredBytes b1 b2 body := by
      simp [coveredBytes, hlen, htake]
    have hlast : rest.drop b3.toNat = [crc8 (coveredBytes b1 b2 body)] := by
      have hbyte : byteAt (0x5A#8 :: b1 :: b2 :: b3 :: rest) (b3.toNat + 4) = rest.getD b3.toNat 0 := by simp [byteAt]
      have hlt : b3.toNat < rest.length := by omega
      have hcrc : crc8 (coveredBytes b1 b2 body) = rest.getD b3.toNat 0 := by
        rw [← hcovered]
        exact Eq.trans hcheck hbyte
      rw [hcrc, List.drop_eq_getElem_cons hlt, List.drop_eq_nil_of_le (by omega), List.getD_eq_getElem _ _ hlt]
    refine ⟨?_, hlen ▸ hmax⟩
    have hsplit : rest = body ++ [crc8 (coveredBytes b1 b2 body)] := by
      rw [← hlast, ← htake, List.take_append_drop]
    rw [encodeRequest_eq]
    conv_lhs => rw [hsplit]
    simp [coveredBytes, hlen]
  | [], hlength => simp [byteAt] at hlength
  | [_], hlength => simp [byteAt] at hlength
  | [_, _], hlength => simp [byteAt] at hlength
  | [_, _, _], hlength => simp [byteAt] at hlength

theorem of_frameCheck_bad {bytes : List Byte} {kind tag : Byte} (h : frameCheck bytes = .bad kind tag) :
    receivedTags bytes = (kind, tag) := by
  unfold frameCheck at h
  dsimp only at h
  split_ifs at h <;> simp only [Framed.bad.injEq] at h <;> exact Prod.ext h.1 h.2

/-- Settles O5. -/
theorem framingRoundTrip : Obligations.FramingRoundTrip := by
  unfold Obligations.FramingRoundTrip
  refine ⟨fun kind tag body h => frameCheck_encodeRequest kind tag h, fun bytes body kind tag => eq_encodeRequest_of_good,
    fun bytes kind tag h => ⟨fun hshort => ?short, fun hlong => ?long⟩⟩
  case short =>
    have htags := of_frameCheck_bad h
    rw [receivedTags, if_pos hshort] at htags
    obtain ⟨hkind, htag⟩ := Prod.mk.inj htags
    exact ⟨hkind.symm, htag.symm⟩
  case long =>
    have htags := of_frameCheck_bad h
    rw [receivedTags, if_neg (by omega)] at htags
    match bytes, hlong with
    | b0 :: b1 :: b2 :: rest, _ =>
      obtain ⟨hkind, htag⟩ := Prod.mk.inj htags
      exact ⟨congrArg some hkind, congrArg some htag⟩

/-- Settles O6. -/
theorem requestRowsAreTheirFrames : Obligations.RequestRowsAreTheirFrames := by
  unfold Obligations.RequestRowsAreTheirFrames
  have hcode (k : RequestKind) : RequestKind.ofCode? k.code = some k := by cases k <;> rfl
  refine ⟨hcode, fun i s k dt tag body hrow hlength => ?_⟩
  have hwrite : writeBytes (encodeRequest k.code tag body) = true := rfl
  rw [exec_request hrow]
  congr 1
  by_cases hsleep : (s.elapse dt).mode = .sleep
  · rw [transaction_asleep hwrite hsleep, request_sleep k tag body hsleep, receivedTags_encodeRequest,
      length_encodeRequest]
  · rw [transaction_awake hwrite hsleep, frameCheck_encodeRequest _ _ hlength]
    exact (anyRequest_known (hcode k) tag body).symm

/-! ### Read transactions (R196) -/

/-- What is clocked out is the frame with 0x00 after it, cut at the bytes clocked. -/
theorem clockOut_eq (frame : List Byte) {n m : Nat} (h : n ≤ m) :
    clockOut frame n = (frame ++ List.replicate m 0).take n := by
  rw [clockOut, List.take_append, List.take_replicate, Nat.min_eq_left (by omega)]

/-- Settles O7. -/
theorem readTransactionSendsTheReply : Obligations.ReadTransactionSendsTheReply := by
  unfold Obligations.ReadTransactionSendsTheReply
  intro s dt clocked hclocked
  have hne : clocked ≠ 0 := by omega
  have hread (r : Option Reply) (h : s.reply = r) : exec (.readTransaction dt clocked) s = .next { s.elapse dt with
      spiOut := (replyFrame (r.getD ⟨0, 0, .empty, []⟩) ++ List.replicate clocked 0).take (clocked - 1)
      reply := none } := by
    have hheld : (s.elapse dt).reply = r := h
    change Host.Outcome.next ((s.elapse dt).read clocked) = _
    rw [State.read, if_neg hne, clockOut_eq _ (Nat.sub_le clocked 1), hheld]
  refine ⟨fun h => ?empty, fun r h => hread (some r) h⟩
  rw [hread none h]
  have hheld : (s.elapse dt).reply = none := h
  have hframe : replyFrame ((none : Option Reply).getD ⟨0, 0, .empty, []⟩) =
      [0xA5, 0, 0, 2, 0] ++ [crc8 [0xA5, 0, 0, 2, 0]] := rfl
  rw [hframe, ← hheld]

/-- Settles O8. -/
theorem workedExamples : Obligations.WorkedExamples := by
  unfold Obligations.WorkedExamples
  refine ⟨by decide +kernel, by decide +kernel, ?_⟩
  decide +kernel

end Sys2Proof.Machine
end

section
/-! PROOF of PowerControlRules (O50), PowerTimerRules (O53) and CurrentSampleRules (O51): what a channel does as it enters a
state, then one equation for each case of the requests, the timers and the samples. -/

namespace Sys2Proof.Machine

open Sys2Proof.Claims

/-! ### Entering a state (R160 to R162, R164, R165) -/

theorem handLoss_eq (t : State) (c : Fin 4) (a : ChannelState) :
    t.handLoss c (a == .active) = if a = .active then t.linkUnpowered c else t := by
  rw [State.handLoss]
  simp

theorem enterDischarge_eq (s : State) (c : Fin 4) (target : Target) : s.enterDischarge c target =
    let posted := (s.modChannel c (fun v => { v.settle (.discharge target) with
      current := 0, dischargeTimer := some 50000 })).postPower c
    if (s.channel c).state = .active then posted.linkUnpowered c else posted := handLoss_eq ..

theorem enterFault_eq (s : State) (c : Fin 4) (cause : PowerCause) : s.enterFault c cause =
    let posted := (s.modChannel c (fun v => v.faulted cause)).postPower c
    if (s.channel c).state = .active then posted.linkUnpowered c else posted := handLoss_eq ..

theorem faulted_latched (v : Channel) (n : Nat) :
    (v.latched || v.policy.handling == .latch || decide (8 ≤ n)) =
      (v.latched || decide (v.policy.handling = .latch ∨ 8 ≤ n)) := by
  cases v.latched <;> cases v.policy.handling <;> simp

theorem faulted_of_not_discharge {v : Channel} (h : ∀ target, v.state ≠ .discharge target) (cause : PowerCause) :
    let latched := v.latched || decide (v.policy.handling = .latch ∨ 8 ≤ (bump v.faults).toNat)
    v.faulted cause = { v.settle .fault with
      current := 0, cause := cause, faults := bump v.faults, latched := latched
      coolDown := if latched then none else some 500000 } := by
  unfold Channel.faulted
  dsimp only
  rw [faulted_latched]
  cases hstate : v.state with
  | discharge target => exact absurd hstate (h target)
  | off | detect | active | fault => rfl

theorem faulted_of_discharge {v : Channel} {target : Target} (h : v.state = .discharge target) (cause : PowerCause) :
    let latched := v.latched || decide (v.policy.handling = .latch ∨ 8 ≤ (bump v.faults).toNat)
    v.faulted cause = { v.settle .fault with
      current := 0, cause := cause, faults := bump v.faults, latched := latched
      coolDown := if latched then none else some 500000, dischargeTimer := v.dischargeTimer } := by
  unfold Channel.faulted
  dsimp only
  rw [faulted_latched, h]
  rfl

/-! ### POWER_CONTROL (R157, R158, R167) -/

theorem powerOn_of_off {s : State} {c : Fin 4} (h : (s.channel c).state = .off) : s.powerOn c =
    let willing := s.modChannel c (fun v => { v with intent := true })
    if s.thermal = .shutdown then willing.enterFault c .thermal
    else match (s.channel c).policy.mode with
      | .auto => willing.enterDetect c
      | .forced => if s.supply = .good then willing.enterActive c
          else s.modChannel c (fun v => { v with intent := true, waiting := true }) := by
  unfold State.powerOn
  extract_lets on v
  have hv : v = { s.channel c with intent := true } := channel_modChannel ..
  have hwait : on.modChannel c (fun v => { v with waiting := true }) =
      s.modChannel c (fun v => { v with intent := true, waiting := true }) := modChannel_modChannel ..
  rw [hv, hwait]
  dsimp only
  rw [h] <;> rfl

theorem powerOn_in_shutdown {s : State} {c : Fin 4} (h : (s.channel c).state = .off) (ht : s.thermal = .shutdown) :
    s.powerOn c = (s.modChannel c (fun v => { v with intent := true })).enterFault c .thermal := by
  rw [powerOn_of_off h]
  exact if_pos ht

theorem powerOn_of_auto {s : State} {c : Fin 4} (h : (s.channel c).state = .off) (ht : s.thermal ≠ .shutdown)
    (hm : (s.channel c).policy.mode = .auto) :
    s.powerOn c = (s.modChannel c (fun v => { v with intent := true })).enterDetect c := by
  rw [powerOn_of_off h]
  dsimp only
  rw [if_neg ht, hm]

theorem powerOn_of_forced {s : State} {c : Fin 4} (h : (s.channel c).state = .off) (ht : s.thermal ≠ .shutdown)
    (hm : (s.channel c).policy.mode = .forced) : s.powerOn c =
    if s.supply = .good then (s.modChannel c (fun v => { v with intent := true })).enterActive c
    else s.modChannel c (fun v => { v with intent := true, waiting := true }) := by
  rw [powerOn_of_off h]
  dsimp only
  rw [if_neg ht, hm]

theorem powerOn_of_ending {s : State} {c : Fin 4} (h : (s.channel c).state = .discharge .off) : s.powerOn c =
    s.modChannel c (fun v => { v with
      intent := true, state := .discharge (if v.policy.mode = .auto then .detect else .active) }) := by
  unfold State.powerOn
  extract_lets on v
  have hv : v = { s.channel c with intent := true } := channel_modChannel ..
  rw [hv]
  dsimp only
  rw [h]
  dsimp only [on]
  rw [modChannel_modChannel]
  congr 1
  funext v
  dsimp only
  cases v.policy.mode <;> rfl

theorem powerOn_of_on {s : State} {c : Fin 4} (hoff : (s.channel c).state ≠ .off)
    (hending : (s.channel c).state ≠ .discharge .off) :
    s.powerOn c = s.modChannel c (fun v => { v with intent := true }) := by
  unfold State.powerOn
  extract_lets on v
  have hv : v.state = (s.channel c).state := by simp [v, on]
  split
  next h => exact absurd (hv.symm.trans h) hoff
  next h => exact absurd (hv.symm.trans h) hending
  all_goals rfl

theorem powerOff_state (s : State) (c : Fin 4) :
    ((s.modChannel c (fun v => { v with intent := false })).channel c).state = (s.channel c).state := by simp

theorem powerOff_of_off {s : State} {c : Fin 4} (h : (s.channel c).state = .off) :
    s.powerOff c = s.modChannel c (fun v => { v with intent := false, waiting := false }) := by
  unfold State.powerOff
  dsimp only
  rw [powerOff_state, h]
  exact modChannel_modChannel ..

theorem powerOff_of_on {s : State} {c : Fin 4} (h : (s.channel c).state = .detect ∨ (s.channel c).state = .active) :
    s.powerOff c = (s.modChannel c (fun v => { v with intent := false })).enterDischarge c .off := by
  unfold State.powerOff
  dsimp only
  rw [powerOff_state]
  rcases h with h | h <;> rw [h]

theorem powerOff_of_discharge {s : State} {c : Fin 4} {target : Target} (h : (s.channel c).state = .discharge target) :
    s.powerOff c = s.modChannel c (fun v => { v with intent := false, state := .discharge .off }) := by
  unfold State.powerOff
  dsimp only
  rw [powerOff_state, h]
  exact modChannel_modChannel ..

theorem powerOff_of_fault {s : State} {c : Fin 4} (h : (s.channel c).state = .fault) : s.powerOff c =
    let unwilling := s.modChannel c (fun v => { v with intent := false })
    if (s.channel c).latched then unwilling else unwilling.enterOff c false := by
  unfold State.powerOff
  dsimp only
  rw [powerOff_state, h]
  simp

theorem powerControlHandler_of_none {body : List Byte} (h : four? (byteAt body 0) = none) (s : State) :
    powerControlHandler body s = s.refuse .badArg := by
  rw [powerControlHandler, h]

theorem powerControlHandler_of_some {body : List Byte} {c : Fin 4} (h : four? (byteAt body 0) = some c) (s : State) :
    powerControlHandler body s = match (byteAt body 1).toNat with
      | 0 => (s.powerOn c).done []
      | 1 => (s.powerOff c).done []
      | 2 =>
        if (s.channel c).state = .fault then
          ((s.modChannel c (fun v => { v with latched := false, faults := 0, intent := false })).enterOff c false).done []
        else s.refuse .wrongState
      | _ => s.refuse .badArg := by
  rw [powerControlHandler, h] <;> rfl

theorem powerControlHandler_refused {n action : Byte} (h : 3 < n.toNat ∨ 2 < action.toNat) (s : State) :
    powerControlHandler [n, action] s = s.refuse .badArg := by
  by_cases hn : 3 < n.toNat
  · have hnone : four? (byteAt [n, action] 0) = none := four?_of_gt hn
    exact powerControlHandler_of_none hnone s
  · have haction : 2 < action.toNat := h.resolve_left hn
    have hsome : four? (byteAt [n, action] 0) = some ⟨n.toNat, by omega⟩ := four?_of_val rfl
    rw [powerControlHandler_of_some hsome, show (byteAt [n, action] 1).toNat = action.toNat from rfl]
    split
    all_goals first | omega | rfl

/-- Settles O50. Entering a state is one assignment, one posting and, out of ACTIVE, the hand-over to the link; the requests
answer by `powerOn`, `powerOff` and the check of FAULT. -/
theorem powerControlRules : Obligations.PowerControlRules := by
  unfold Obligations.PowerControlRules
  refine ⟨fun s c => ⟨rfl, rfl, fun wait => rfl, fun target => enterDischarge_eq s c target, fun cause =>
      ⟨fun h => ?fault, fun target h => ?shutdown⟩⟩,
    fun i s dt tag n action hrow hs h => ?refused, fun s dt tag n c hs hn => ?answered⟩
  case fault =>
    rw [enterFault_eq]
    dsimp only
    rw [State.modChannel, faulted_of_not_discharge h]
    rfl
  case shutdown =>
    rw [enterFault_eq]
    dsimp only
    rw [State.modChannel, faulted_of_discharge h, if_neg (by simp [h])]
    rfl
  case refused => exact exec_of_handler hrow hs rfl (powerControlHandler_refused h _)
  case answered =>
    have hsome (action : Byte) : four? (byteAt [n, action] 0) = some c := four?_of_val hn
    have hon {t : State} (h : (arrived s dt [n, 0]).powerOn c = t) :
        exec (.powerControlOn dt tag [n, 0]) s = .next (replied t .powerControl tag .ok []) :=
      h ▸ exec_of_handler (k := .powerControl) rfl hs rfl (powerControlHandler_of_some (hsome 0) _)
    have hoff {t : State} (h : (arrived s dt [n, 1]).powerOff c = t) :
        exec (.powerControlOff dt tag [n, 1]) s = .next (replied t .powerControl tag .ok []) :=
      h ▸ exec_of_handler (k := .powerControl) rfl hs rfl (powerControlHandler_of_some (hsome 1) _)
    have hclear {a : Answer} (h : powerControlHandler [n, 2] (arrived s dt [n, 2]) = a) :
        exec (.powerControlClear dt tag [n, 2]) s = .next (replied a.after .powerControl tag a.status a.body) :=
      exec_of_handler (k := .powerControl) rfl hs rfl h
    refine ⟨fun h ht => hon ?_, fun h ht hm => hon ?_, fun h ht hm hsup => hon ?_, fun h ht hm hsup => hon ?_,
      fun h => hon (powerOn_of_ending h), fun h hending => hon (powerOn_of_on h hending), fun h => hoff (powerOff_of_off h),
      fun h => hoff (powerOff_of_on h), fun target h => hoff (powerOff_of_discharge h), fun h hl => hoff ?_,
      fun h hl => hoff ?_, fun h => ?_, fun h => ?_⟩
    · exact powerOn_in_shutdown (s := arrived s dt [n, 0]) h ht
    · exact powerOn_of_auto (s := arrived s dt [n, 0]) h ht hm
    · exact (powerOn_of_forced (s := arrived s dt [n, 0]) h ht hm).trans (if_pos hsup)
    · exact (powerOn_of_forced (s := arrived s dt [n, 0]) h ht hm).trans (if_neg hsup)
    · rw [powerOff_of_fault (s := arrived s dt [n, 1]) h]
      exact if_pos hl
    · rw [powerOff_of_fault (s := arrived s dt [n, 1]) h]
      exact if_neg (by simpa using hl)
    · exact hclear ((powerControlHandler_of_some (hsome 2) _).trans (if_pos h))
    · exact hclear ((powerControlHandler_of_some (hsome 2) _).trans (if_neg h))

/-! ### The timers of a channel (R160, R164 to R166) -/

theorem onExpiry_none (s : State) (effect : State → State) : s.onExpiry none effect = s := rfl

theorem onExpiry_some (s : State) (left : Nat) (effect : State → State) :
    s.onExpiry (some left) effect = effect (s.elapse left) := rfl

/-- The channel with its discharge timer stopped. -/
def State.discharged (s : State) (c : Fin 4) : State := s.modChannel c (fun v => { v with dischargeTimer := none })

/-- A discharge that ends for ACTIVE: there when supply and temperature allow, else OFF and waiting (R160, R157). -/
def State.dischargedToActive (s : State) (c : Fin 4) : State :=
  if s.supply = .good ∧ s.thermal ≠ .shutdown then (s.discharged c).enterActive c else (s.discharged c).enterOff c true

theorem dischargeExpired_eq (s : State) (c : Fin 4) : s.dischargeExpired c = match (s.channel c).state with
    | .discharge .off => (s.discharged c).enterOff c false
    | .discharge .detect => match (s.channel c).policy.mode with
      | .auto => if s.thermal = .shutdown then (s.discharged c).enterFault c .thermal else (s.discharged c).enterDetect c
      | .forced => s.dischargedToActive c
    | .discharge .active => s.dischargedToActive c
    | .off | .detect | .active | .fault => s.discharged c := by
  unfold State.dischargeExpired
  extract_lets t v toActive
  have hv : v = { s.channel c with dischargeTimer := none } := channel_modChannel ..
  rw [hv] <;> rfl

theorem dischargeExpired_to_off {s : State} {c : Fin 4} (h : (s.channel c).state = .discharge .off) :
    s.dischargeExpired c = (s.discharged c).enterOff c false := by
  rw [dischargeExpired_eq, h]

theorem dischargeExpired_to_detect {s : State} {c : Fin 4} (h : (s.channel c).state = .discharge .detect)
    (hm : (s.channel c).policy.mode = .auto) : s.dischargeExpired c =
      if s.thermal = .shutdown then (s.discharged c).enterFault c .thermal else (s.discharged c).enterDetect c := by
  rw [dischargeExpired_eq, h, hm]

theorem dischargeExpired_onward {s : State} {c : Fin 4} (h : (s.channel c).state = .discharge .active ∨
    ((s.channel c).state = .discharge .detect ∧ (s.channel c).policy.mode = .forced)) :
    s.dischargeExpired c = s.dischargedToActive c := by
  rw [dischargeExpired_eq]
  obtain hstate | ⟨hstate, hmode⟩ := h
  · rw [hstate]
  · rw [hstate, hmode]

theorem dischargeExpired_elsewhere {s : State} {c : Fin 4} (h : ∀ target, (s.channel c).state ≠ .discharge target) :
    s.dischargeExpired c = s.discharged c := by
  rw [dischargeExpired_eq]
  cases hcase : (s.channel c).state with
  | discharge target => exact absurd hcase (h target)
  | off | detect | active | fault => rfl

theorem coolDownExpired_of_fault {s : State} {c : Fin 4} (h : (s.channel c).state = .fault) : s.coolDownExpired c =
    if s.supply = .good ∧ (s.channel c).backdrive = false ∧ s.thermal ≠ .shutdown then
      if (s.channel c).intent = false then s.enterOff c false
      else match (s.channel c).policy.mode with
        | .auto => s.enterDetect c
        | .forced => s.enterActive c
    else s.modChannel c (fun v => { v with coolDown := some 500000 }) :=
  if_neg (not_not.mpr h)

theorem coolDownExpired_onward {s : State} {c : Fin 4} (h : (s.channel c).state = .fault)
    (hclear : s.supply = .good ∧ (s.channel c).backdrive = false ∧ s.thermal ≠ .shutdown)
    (hintent : (s.channel c).intent = true) : s.coolDownExpired c = match (s.channel c).policy.mode with
      | .auto => s.enterDetect c
      | .forced => s.enterActive c := by
  rw [coolDownExpired_of_fault h, if_pos hclear, if_neg (by simp [hintent])]

/-- Settles O53. -/
theorem powerTimerRules : Obligations.PowerTimerRules := by
  unfold Obligations.PowerTimerRules
  refine ⟨fun s c => ⟨fun h => ?noDischarge, fun h => ?noCoolDown, fun h => ?noActive⟩, fun s c left => ⟨fun h => ?discharge,
    fun h hfault => ?coolDown, fun h => ?active⟩⟩
  case noDischarge => exact congrArg Host.Outcome.next (by rw [h, onExpiry_none])
  case noCoolDown => exact congrArg Host.Outcome.next (by rw [h, onExpiry_none])
  case noActive => exact congrArg Host.Outcome.next (by rw [h, onExpiry_none])
  case active => exact congrArg Host.Outcome.next (by rw [h, onExpiry_some]; rfl)
  case discharge =>
    have hexec {t : State} (ht : (s.elapse left).dischargeExpired c = t) : exec (.dischargeExpiry c) s = .next t :=
      congrArg Host.Outcome.next (by rw [h, onExpiry_some, ht])
    exact ⟨fun hstate => hexec (dischargeExpired_to_off hstate),
      fun hstate hmode ht => hexec ((dischargeExpired_to_detect hstate hmode).trans (if_neg ht)),
      fun hstate hmode ht => hexec ((dischargeExpired_to_detect hstate hmode).trans (if_pos ht)),
      fun honward hready => hexec ((dischargeExpired_onward honward).trans (if_pos hready)),
      fun honward hready => hexec ((dischargeExpired_onward honward).trans (if_neg hready)),
      fun hstate => hexec (dischargeExpired_elsewhere hstate)⟩
  case coolDown =>
    have hexec {t : State} (ht : (s.elapse left).coolDownExpired c = t) : exec (.coolDownExpiry c) s = .next t :=
      congrArg Host.Outcome.next (by rw [h, onExpiry_some, ht])
    refine ⟨fun hclear => hexec ((coolDownExpired_of_fault hfault).trans (if_neg hclear)),
      fun hclear hintent => hexec ((coolDownExpired_of_fault hfault).trans ((if_pos hclear).trans (if_pos hintent))),
      fun hclear hintent hmode => hexec ?_, fun hclear hintent hmode => hexec ?_⟩
    · rw [coolDownExpired_onward hfault hclear hintent, hmode]
    · rw [coolDownExpired_onward hfault hclear hintent, hmode]

end Sys2Proof.Machine
end

section
/-! PROOF of CurrentSampleRules (O51) and VoltageRules (O52). -/

namespace Sys2Proof.Machine

open Sys2Proof.Claims

/-! ### The supply (R155, R157) -/

theorem setSupply_quiet {s : State} {level : Supply} (h : level ≠ .good ∨ s.thermal = .shutdown ∨
    ∀ c, ¬ (s.channel c).Waits) : s.setSupply level = { s with supply := level } := by
  unfold State.setSupply
  obtain hlevel | hthermal | hnone := h
  · exact releaseWaiting_self (s := { s with supply := level }) (.inl hlevel)
  · exact if_neg (fun hgood => hgood.2 hthermal)
  · exact releaseWaiting_self (s := { s with supply := level }) (.inr hnone)

theorem setSupply_supply (s : State) (level : Supply) : (s.setSupply level).supply = level := by
  by_cases h : level = .good ∧ s.thermal ≠ .shutdown
  · obtain ⟨cs, ls, ns, heq⟩ := releaseWaiting_raisedOnly (s := { s with supply := level }) h.1 h.2
    rw [State.setSupply, heq]
  · have hblocked : ¬ (({ s with supply := level } : State).supply = .good ∧
        ({ s with supply := level } : State).thermal ≠ .shutdown) := h
    rw [State.setSupply, State.releaseWaiting, if_neg hblocked]

/-! ### A current sample (R159, R160, R162, R168) -/

theorem measure_eq (v : Channel) (mA : Half) :
    v.measure mA = { v with current := if v.state = .detect ∨ v.state = .active then mA else 0 } := by
  unfold Channel.measure
  cases hstate : v.state <;> simp

theorem judgeSample_elsewhere {s : State} {c : Fin 4} (hdetect : (s.channel c).state ≠ .detect)
    (hactive : (s.channel c).state ≠ .active) (mA : Nat) : s.judgeSample c mA = s := by
  unfold State.judgeSample
  dsimp only
  split
  · rfl
  · rfl
  · rfl
  next h => exact absurd h hdetect
  next h => exact absurd h hactive

theorem judgeSample_detect {s : State} {c : Fin 4} (h : (s.channel c).state = .detect) (mA : Nat) : s.judgeSample c mA =
    let run := if 15 < mA ∧ s.supply = .good then (s.channel c).attachRun + 1 else 0
    if 21 ≤ run then s.enterActive c else s.modChannel c (fun v => { v with attachRun := run }) := by
  unfold State.judgeSample
  dsimp only
  rw [h]

theorem judgeSample_active {s : State} {c : Fin 4} (h : (s.channel c).state = .active) (mA : Nat) : s.judgeSample c mA =
    let limit := (s.channel c).policy.limit
    let exceeding := if limit < mA then (s.channel c).overRun + 1 else 0
    let gone := if mA < 5 ∧ (s.channel c).policy.mode = .auto then (s.channel c).removalRun + 1 else 0
    if 2 * limit < mA then s.enterFault c .short
    else if 3 ≤ exceeding then s.enterFault c .overcurrent
    else if 201 ≤ gone then s.enterDischarge c .detect
    else s.modChannel c (fun v => { v with overRun := exceeding, removalRun := gone }) := by
  unfold State.judgeSample
  dsimp only
  rw [h]

theorem channel_formTotal (s : State) (c : Fin 4) : s.formTotal.channel c = s.channel c := rfl

/-- Settles O51. The sample changes the current before it is judged, so the runs and the limit are those of the channel
before it. -/
theorem currentSampleRules : Obligations.CurrentSampleRules := by
  unfold Obligations.CurrentSampleRules
  intro put s dt c mA supply w v x limit attach exceeding gone sample
  have hchannel : x.channel c = { v with current := if v.state = .detect ∨ v.state = .active then mA else 0 } :=
    Four.get_set_same ..
  have hstate : (x.channel c).state = v.state := by rw [hchannel]
  have hattach : (x.channel c).attachRun = v.attachRun := by rw [hchannel]
  have hover : (x.channel c).overRun = v.overRun := by rw [hchannel]
  have hremoval : (x.channel c).removalRun = v.removalRun := by rw [hchannel]
  have hpolicy : (x.channel c).policy = v.policy := by rw [hchannel]
  have hsupply : x.supply = supply := setSupply_supply ..
  have hsample {t : State} (h : x.judgeSample c mA.toNat = t) : sample = .next t := by
    have hmeasured : (w.modChannel c (fun v => v.measure mA)).formTotal = x := by
      rw [State.modChannel, measure_eq]
      rfl
    rw [← h, ← hmeasured]
    rfl
  have hactive (h : v.state = .active) := judgeSample_active (hstate.trans h) mA.toNat
  rw [hover, hremoval, hpolicy] at hactive
  have hdetect (h : v.state = .detect) := judgeSample_detect (hstate.trans h) mA.toNat
  rw [hattach, hsupply] at hdetect
  refine ⟨fun h => setSupply_quiet ?quiet, fun hd ha => hsample (judgeSample_elsewhere (by rwa [hstate]) (by rwa [hstate]) _),
    fun h hrun => hsample ((hdetect h).trans (if_neg (Nat.not_le.mpr hrun))), fun h hrun => hsample ((hdetect h).trans (if_pos hrun)),
    fun h hshort => hsample ((hactive h).trans (if_pos hshort)), fun h hshort hthree => hsample ?_,
    fun h hshort hthree hgone => hsample ?_, fun h hshort hthree hgone => hsample ?_⟩
  case quiet =>
    refine h.imp_right (.imp_right fun hnone c' hwaits => ?_)
    have hwaiting := hwaits.1
    rw [channel_elapse, Channel.elapse_waiting, hnone] at hwaiting
    cases hwaiting
  · exact (hactive h).trans ((if_neg (Nat.not_lt.mpr hshort)).trans (if_pos hthree))
  · exact (hactive h).trans ((if_neg (Nat.not_lt.mpr hshort)).trans ((if_neg (Nat.not_le.mpr hthree)).trans (if_pos hgone)))
  · exact (hactive h).trans ((if_neg (Nat.not_lt.mpr hshort)).trans
      ((if_neg (Nat.not_le.mpr hthree)).trans (if_neg (Nat.not_le.mpr hgone))))

/-! ### The coax voltage and the supply (R154, R155, R157, R162, R163) -/

theorem undervoltage_eq (s : State) (c : Fin 4) : s.undervoltage c =
    if (s.channel c).state = .active then ({ s with supply := .low } : State).enterFault c .undervoltage
    else { s with supply := .low } := by
  have hlow : s.setSupply .low = { s with supply := .low } := setSupply_quiet (.inl (by simp))
  rw [State.undervoltage, hlow]
  rfl

theorem mainSwitch_iff (v : Channel) : v.mainSwitch = true ↔ v.state = .active ∧ v.blip = false := by
  simp [Channel.mainSwitch]

theorem detectPath_iff (v : Channel) : v.detectPath = true ↔ v.state = .detect ∧ v.blip = false := by
  simp [Channel.detectPath]

theorem dischargeElement_iff (v : Channel) : v.dischargeElement = true ↔ v.dischargeTimer ≠ none := by
  simp [Channel.dischargeElement, Option.isSome_iff_ne_none]

theorem dischargeElement_eq_false (v : Channel) : v.dischargeElement = false ↔ v.dischargeTimer = none := by
  simp [Channel.dischargeElement]

/-- Going down hands nothing to the channel that its discharge element knows of. -/
theorem LinkOnly.dischargeTimer {l : Fin 4} {s t : State} (h : LinkOnly l s t) (c : Fin 4) :
    (t.channel c).dischargeTimer = (s.channel c).dischargeTimer := by
  obtain ⟨w, os, pb, lb, fl, ns, rfl⟩ := h
  by_cases hc : c = l
  · subst hc
    simp [State.channel]
  · simp [State.channel, Four.get_set_ne _ _ _ _ hc]

theorem enterDischarge_timer (s : State) (c : Fin 4) (target : Target) :
    ((s.enterDischarge c target).channel c).dischargeTimer = some 50000 := by
  rw [State.enterDischarge, (handLoss_only _ c _).dischargeTimer, State.postPower, channel_post, channel_modChannel]
  rfl

theorem enterFault_timer (s : State) (c : Fin 4) (cause : PowerCause) :
    ((s.enterFault c cause).channel c).dischargeTimer = ((s.channel c).faulted cause).dischargeTimer := by
  rw [State.enterFault, (handLoss_only _ c _).dischargeTimer, State.postPower, channel_post, channel_modChannel]

theorem enterActive_timer (s : State) (c : Fin 4) : ((s.enterActive c).channel c).dischargeTimer = none := by
  have hlink (t : State) : (t.linkPowered c).channel c = t.channel c := by
    obtain ⟨w, ns, h, -⟩ := linkPowered_eq t c
    rw [h]
    rfl
  rw [State.enterActive, hlink, State.postPower, channel_post, channel_modChannel]
  rfl

theorem enterDetect_timer (s : State) (c : Fin 4) : ((s.enterDetect c).channel c).dischargeTimer = none := by
  rw [State.enterDetect, State.postPower, channel_post, channel_modChannel]
  rfl

theorem enterOff_timer (s : State) (c : Fin 4) (wait : Bool) :
    ((s.enterOff c wait).channel c).dischargeTimer = none := by
  rw [State.enterOff, State.postPower, channel_post, channel_modChannel]
  rfl

theorem faulted_timer (v : Channel) (cause : PowerCause) (h : v.dischargeTimer = none) :
    (v.faulted cause).dischargeTimer = none := by
  unfold Channel.faulted
  cases v.state <;> simp [h]

theorem discharged_timer (s : State) (c : Fin 4) : ((s.discharged c).channel c).dischargeTimer = none := by
  rw [State.discharged, channel_modChannel]

/-- Wherever a discharge ends, its timer has stopped. -/
theorem dischargeExpired_timer (s : State) (c : Fin 4) : ((s.dischargeExpired c).channel c).dischargeTimer = none := by
  have hactive : ((s.dischargedToActive c).channel c).dischargeTimer = none := by
    unfold State.dischargedToActive
    split
    · exact enterActive_timer ..
    · exact enterOff_timer ..
  rw [dischargeExpired_eq]
  split
  · exact enterOff_timer ..
  · split
    · split
      · rw [enterFault_timer]
        exact faulted_timer _ _ (discharged_timer s c)
      · exact enterDetect_timer ..
    · exact hactive
  · exact hactive
  all_goals exact discharged_timer s c

theorem supplyGood_eq (s : State) (dt : Nat) : exec (.supplyGood dt) s = .next ((s.elapse dt).setSupply .good) := rfl

theorem waits_elapse (s : State) (dt : Nat) (c : Fin 4) :
    (({ s.elapse dt with supply := .good } : State).channel c).Waits ↔ (s.channel c).Waits := by
  change ((s.elapse dt).channel c).Waits ↔ _
  rw [channel_elapse, Channel.Waits, Channel.elapse_state, Channel.elapse_waiting]

theorem link_supply_elapse (s : State) (dt : Nat) (l : Fin 4) :
    ({ s.elapse dt with supply := .good } : State).link l = (s.link l).elapse dt := link_elapse s dt l

/-- Settles O52. -/
theorem voltageRules : Obligations.VoltageRules := by
  unfold Obligations.VoltageRules
  refine ⟨fun s dt c => ⟨fun h => ?low, fun h => ?lowElsewhere, fun h => ?driven, fun h hon => ?blips, fun h hoff => ?drives,
      rfl, fun h hon => ?held, fun h => ?notHeld⟩,
    fun s dt => ⟨fun h => ?quiet, fun h => ?released, fun h => ?ends⟩,
    fun v => ⟨mainSwitch_iff v, detectPath_iff v, ?exclusive, dischargeElement_iff v⟩,
    fun s c => ⟨fun target => ?dischargeOn, ?detectOff, ?activeOff, fun wait => ?offOff, fun cause =>
      ⟨fun h => ?faultOff, fun target h => ?faultSame⟩, fun t h hrun => ?ended⟩⟩
  case low => exact congrArg Host.Outcome.next ((undervoltage_eq ..).trans (if_pos h))
  case lowElsewhere => exact congrArg Host.Outcome.next ((undervoltage_eq ..).trans (if_neg h))
  case driven => exact congrArg Host.Outcome.next (if_pos h)
  case blips => exact congrArg Host.Outcome.next ((if_neg (ne_true_of_eq_false h)).trans (if_pos hon))
  case drives => exact congrArg Host.Outcome.next ((if_neg (ne_true_of_eq_false h)).trans (if_neg hoff))
  case held =>
    have hstate : (s.channel c).state = ((s.elapse dt).channel c).state := by simp
    exact congrArg Host.Outcome.next (if_pos ⟨h, by rwa [hstate]⟩)
  case notHeld =>
    have hstate : (s.channel c).state = ((s.elapse dt).channel c).state := by simp
    refine congrArg Host.Outcome.next (if_neg fun hheld => ?_)
    rw [hstate] at hheld
    exact h.elim (fun hb => by simp [hb] at hheld) fun hoff => hoff hheld.2
  case quiet =>
    refine congrArg Host.Outcome.next (setSupply_quiet (.inr (h.imp_right fun hnone c hwaits => hnone c ?_)))
    simpa [Channel.Waits] using hwaits
  case released =>
    obtain ⟨a, b, c, d, h0, h1, h2, h3, hend⟩ := forEach_allFour_chain releaseAt_visitsOne
      (fun c x y => ((s.channel c).Waits → y = x.enterActive c) ∧ (¬ (s.channel c).Waits → y = x))
      { s.elapse dt with supply := .good } (fun c x hx => by
        have hwaits : (x.channel c).Waits ↔ (s.channel c).Waits := by
          rw [hx.1]
          exact waits_elapse s dt c
        exact ⟨fun hw => releaseAt_of_waits (hwaits.mpr hw), fun hw => releaseAt_of_not_waits (mt hwaits.mp hw)⟩)
    refine ⟨a, b, c, d, h0, h1, h2, h3, ?_⟩
    rw [supplyGood_eq, State.setSupply, releaseWaiting_eq (s := { s.elapse dt with supply := .good }) rfl h, hend]
  case ends =>
    have hgood : ({ s.elapse dt with supply := .good } : State).supply = .good := rfl
    obtain ⟨cs, ls, ns, heq⟩ := releaseWaiting_raisedOnly hgood h
    refine ⟨_, rfl, ⟨cs, ls, ns, heq⟩, fun c => ⟨fun hwaits => ?_, fun hwaits => ?_⟩⟩
    · have hreleased := releaseWaiting_of_waits hgood h ((waits_elapse s dt c).mpr hwaits)
      rw [link_supply_elapse, Link.elapse_state] at hreleased
      exact hreleased
    · exact releaseWaiting_of_not_waits hgood h (mt (waits_elapse s dt c).mp hwaits)
  case exclusive =>
    rw [mainSwitch_iff, detectPath_iff]
    rintro ⟨⟨hactive, -⟩, hdetect, -⟩
    rw [hactive] at hdetect
    cases hdetect
  case dischargeOn => rw [dischargeElement_iff, enterDischarge_timer]; simp
  case detectOff => rw [dischargeElement_eq_false, enterDetect_timer]
  case activeOff => rw [dischargeElement_eq_false, enterActive_timer]
  case offOff => rw [dischargeElement_eq_false, enterOff_timer]
  case faultOff => rw [dischargeElement_eq_false, enterFault_timer, faulted_of_not_discharge h]; rfl
  case faultSame =>
    have htimer : ((s.enterFault c cause).channel c).dischargeTimer = (s.channel c).dischargeTimer := by
      rw [enterFault_timer, faulted_of_discharge h]
    exact congrArg Option.isSome htimer
  case ended =>
    obtain ⟨left, hleft⟩ := Option.ne_none_iff_exists'.mp hrun
    have ht : t = (s.elapse left).dischargeExpired c := by
      change Host.Outcome.next (s.onExpiry (s.channel c).dischargeTimer _) = _ at h
      rw [hleft] at h
      cases h
      rfl
    rw [ht, dischargeElement_eq_false, dischargeExpired_timer]

end Sys2Proof.Machine
end

section
/-! PROOF of RationWriteRules (O48) and BudgetRules (O54). -/

namespace Sys2Proof.Machine

open Sys2Proof.Claims

/-! ### Asking for a ration write (R147, R171) -/

theorem room_eq_true {v : Link} : v.room = true ↔ (∀ x ∈ v.awaiting, x.origin = .posted) ∧ v.awaiting.length < 2 := by
  have hslot : v.slot = none ↔ ∀ x ∈ v.awaiting, x.origin = .posted := by
    unfold Link.slot
    split
    next e he =>
      have hfound := List.find?_some he
      have hmem := List.mem_of_find?_eq_some he
      simp only [reduceCtorEq, false_iff]
      exact fun hall => by simp [hall e hmem] at hfound
    next hnone => simpa using hnone
  rw [Link.room, Bool.and_eq_true, beq_iff_eq, hslot, decide_eq_true_eq]

/-- The Alias Table entry of a number. -/
abbrev State.findAlias (s : State) (a : Byte) : Option AliasEntry := s.aliases.find? (fun e => e.aliasNo == a)

/-- The entry found, if it names a device of the link. -/
theorem filter_link_eq_none {table : Option AliasEntry} {l : Fin 4} (h : ∀ e, table = some e → e.link ≠ l) :
    table.filter (fun e => e.link == l) = none := by
  cases table with
  | none => rfl
  | some e => simp [h e rfl]

theorem filter_link_eq_some {table : Option AliasEntry} {l : Fin 4} {e : AliasEntry} (h : table = some e)
    (hl : e.link = l) : table.filter (fun e => e.link == l) = some e := by
  subst h
  simp [hl]

/-- The channel after its pending write has gone out. -/
def Channel.written (v : Channel) (w : RationWrite) : Channel := { v with pendingByte := none, lastByte := some w }

theorem askRation_idle {s : State} {c : Fin 4} (h : (s.channel c).pendingByte = none) : s.askRation c = s := by
  unfold State.askRation
  dsimp only
  rw [h]

theorem askRation_noAction {s : State} {c : Fin 4} (h : (s.channel c).policy.action = none) : s.askRation c = s := by
  unfold State.askRation
  dsimp only
  rw [h]
  cases (s.channel c).pendingByte <;> rfl

/-- R171: with no entry that names a device of the link, the write counts as sent and failed. -/
theorem askRation_noAlias {s : State} {c : Fin 4} {w : RationWrite} {a : RationAction}
    (hw : (s.channel c).pendingByte = some w) (ha : (s.channel c).policy.action = some a)
    (h : ∀ e, s.findAlias a.aliasNo = some e → e.link ≠ c) :
    s.askRation c = s.modChannel c (fun v => { v.written w with failedWrites := bump v.failedWrites }) := by
  unfold State.askRation
  dsimp only
  rw [hw, ha]
  dsimp only
  have hnone := filter_link_eq_none h
  split
  next => exact modChannel_modChannel s c (fun v => v.written w) (fun v => { v with failedWrites := bump v.failedWrites })
  next e he => exact absurd (hnone.symm.trans he) nofun

theorem askRation_alias {s : State} {c : Fin 4} {w : RationWrite} {a : RationAction} {e : AliasEntry}
    (hw : (s.channel c).pendingByte = some w) (ha : (s.channel c).policy.action = some a)
    (he : s.findAlias a.aliasNo = some e) (hl : e.link = c) : s.askRation c =
      if (s.link c).state = .up ∧ (s.link c).room = true then
        (s.modChannel c (fun v => v.written w)).sendRequest c (.write [rationByte a w]) .ration e.address a.offset
      else s := by
  unfold State.askRation
  dsimp only
  rw [hw, ha]
  dsimp only
  have hsome := filter_link_eq_some he hl
  split
  next hnone => exact absurd (hsome.symm.trans hnone) nofun
  next e' he' =>
    obtain rfl : e = e' := Option.some.inj (hsome.symm.trans he')
    rfl

theorem offerRoom_eq (s : State) (c : Fin 4) : s.offerRoom c =
    if (s.link c).state = .up ∧ (s.link c).room = true then s.askRation c else s := rfl

/-! ### Rationing (R170, R171) -/

theorem reration_fresh (s : State) (c : Fin 4) : s.reration c true = (s.modChannel c (fun v => { v with
    rationed := s.inRationedSet c, lastByte := none
    pendingByte := if s.inRationedSet c then some .engage else none })).askRation c := rfl

theorem reration_same {s : State} {c : Fin 4} (h : s.inRationedSet c = (s.channel c).rationed) :
    s.reration c false = s := by
  unfold State.reration
  dsimp only
  rw [if_neg (by simp), if_pos h]

theorem reration_change {s : State} {c : Fin 4} (h : s.inRationedSet c ≠ (s.channel c).rationed) :
    s.reration c false = (s.modChannel c (fun v => { v with
      rationed := s.inRationedSet c
      pendingByte := if v.lastByte = some (if s.inRationedSet c then RationWrite.engage else .restore) then none
        else some (if s.inRationedSet c then .engage else .restore) })).askRation c := by
  unfold State.reration
  dsimp only
  rw [if_neg (by simp), if_neg h]

/-- What rationing changes: the ration writes of the channels and what the links sent for them. -/
structure RationOnly (s t : State) : Prop where
  parts : ∃ cs ls, t = { s with channels := cs, links := ls }
  channel : ∀ n, ∃ ra pb lb fl, t.channel n =
    { s.channel n with rationed := ra, pendingByte := pb, lastByte := lb, failedWrites := fl }
  link : ∀ n, ∃ fw aw nt, t.link n = { s.link n with forward := fw, awaiting := aw, nextToggle := nt }

theorem RationOnly.refl (s : State) : RationOnly s s :=
  ⟨⟨s.channels, s.links, rfl⟩,
    fun n => ⟨(s.channel n).rationed, (s.channel n).pendingByte, (s.channel n).lastByte, (s.channel n).failedWrites, rfl⟩,
    fun n => ⟨(s.link n).forward, (s.link n).awaiting, (s.link n).nextToggle, rfl⟩⟩

theorem RationOnly.trans {s t u : State} (h : RationOnly s t) (g : RationOnly t u) : RationOnly s u := by
  refine ⟨?_, fun n => ?_, fun n => ?_⟩
  · obtain ⟨cs, ls, rfl⟩ := h.parts
    obtain ⟨cs', ls', rfl⟩ := g.parts
    exact ⟨cs', ls', rfl⟩
  · obtain ⟨ra, pb, lb, fl, ht⟩ := h.channel n
    obtain ⟨ra', pb', lb', fl', hu⟩ := g.channel n
    exact ⟨ra', pb', lb', fl', by rw [hu, ht]⟩
  · obtain ⟨fw, aw, nt, ht⟩ := h.link n
    obtain ⟨fw', aw', nt', hu⟩ := g.link n
    exact ⟨fw', aw', nt', by rw [hu, ht]⟩

theorem RationOnly.after {s t u : State} (g : RationOnly t u) (h : RationOnly s t) : RationOnly s u := h.trans g

theorem RationOnly.ofChannel {s : State} {c : Fin 4} {f : Channel → Channel} (h : ∃ ra pb lb fl, f (s.channel c) =
    { s.channel c with rationed := ra, pendingByte := pb, lastByte := lb, failedWrites := fl }) :
    RationOnly s (s.modChannel c f) := by
  refine ⟨⟨_, s.links, rfl⟩, fun n => ?_, (RationOnly.refl s).link⟩
  by_cases hn : n = c
  · subst hn
    rw [channel_modChannel]
    exact h
  · rw [channel_modChannel_ne s c n f hn]
    exact (RationOnly.refl s).channel n

theorem sendRequest_rationOnly (s : State) (l : Fin 4) (r : RemoteRequest) (origin : Origin) (address offset : Byte) :
    RationOnly s (s.sendRequest l r origin address offset) := by
  refine ⟨⟨s.channels, _, rfl⟩, (RationOnly.refl s).channel, fun n => ?_⟩
  by_cases hn : n = l
  · subst hn
    rw [State.sendRequest, link_modLink]
    exact ⟨_, _, _, rfl⟩
  · rw [State.sendRequest, link_modLink_ne s l n _ hn]
    exact (RationOnly.refl s).link n

theorem askRation_rationOnly (s : State) (c : Fin 4) : RationOnly s (s.askRation c) := by
  cases hw : (s.channel c).pendingByte with
  | none => rw [askRation_idle hw]; exact .refl s
  | some w =>
    cases ha : (s.channel c).policy.action with
    | none => rw [askRation_noAction ha]; exact .refl s
    | some a =>
      by_cases halias : ∀ e, s.findAlias a.aliasNo = some e → e.link ≠ c
      · rw [askRation_noAlias hw ha halias]
        exact .ofChannel ⟨(s.channel c).rationed, _, _, _, rfl⟩
      · obtain ⟨e, he, hl⟩ : ∃ e, s.findAlias a.aliasNo = some e ∧ e.link = c := by simpa using halias
        rw [askRation_alias hw ha he hl]
        split
        · exact (sendRequest_rationOnly ..).after (.ofChannel ⟨(s.channel c).rationed, _, _, (s.channel c).failedWrites, rfl⟩)
        · exact .refl s

theorem reration_rationOnly (s : State) (c : Fin 4) (fresh : Bool) : RationOnly s (s.reration c fresh) := by
  cases fresh with
  | true =>
    rw [reration_fresh]
    exact (askRation_rationOnly ..).after (.ofChannel ⟨_, _, _, (s.channel c).failedWrites, rfl⟩)
  | false =>
    by_cases h : s.inRationedSet c = (s.channel c).rationed
    · rw [reration_same h]
      exact .refl s
    · rw [reration_change h]
      exact (askRation_rationOnly ..).after (.ofChannel ⟨_, _, (s.channel c).lastByte, (s.channel c).failedWrites, rfl⟩)

/-- Which channel an asking leaves rationed is not for the asking to change. -/
theorem askRation_rationed (s : State) (c n : Fin 4) : ((s.askRation c).channel n).rationed = (s.channel n).rationed := by
  obtain ⟨fw, aw, nt, rs, pe, se, pb, lb, fl, ns, h⟩ := askRation_only s c
  rw [h]
  by_cases hn : n = c
  · subst hn
    simp [State.channel, State.modChannel, State.setChannel, State.modLink, State.setLink]
  · simp [State.channel, State.modChannel, State.setChannel, State.modLink, State.setLink, Four.get_set_ne _ _ _ _ hn]

theorem channels_toList (s : State) : s.channels.toList = allFour.map s.channel := rfl

theorem mem_allFour (n : Fin 4) : n ∈ allFour := by fin_cases n <;> decide

theorem channels_any (s : State) (p : Channel → Bool) : s.channels.toList.any p = decide (∃ n, p (s.channel n) = true) := by
  rw [channels_toList, Bool.eq_iff_iff]
  simp [mem_allFour]

theorem prioritiesPresent_congr {s t : State} (h : ∀ n, (t.channel n).policy = (s.channel n).policy) :
    t.prioritiesPresent = s.prioritiesPresent := by
  unfold State.prioritiesPresent
  simp only [channels_any, h]

theorem RationOnly.policy {s t : State} (h : RationOnly s t) (n : Fin 4) :
    (t.channel n).policy = (s.channel n).policy := by
  obtain ⟨ra, pb, lb, fl, ht⟩ := h.channel n
  rw [ht]

theorem RationOnly.inRationedSet {s t : State} (h : RationOnly s t) (n : Fin 4) :
    t.inRationedSet n = s.inRationedSet n := by
  obtain ⟨cs, ls, ht⟩ := h.parts
  have hlevel : t.level = s.level := by rw [ht]
  unfold State.inRationedSet
  rw [h.policy n, prioritiesPresent_congr h.policy, hlevel]

theorem reration_rationed (s : State) (c : Fin 4) (fresh : Bool) :
    ((s.reration c fresh).channel c).rationed = s.inRationedSet c := by
  cases fresh with
  | true => rw [reration_fresh, askRation_rationed, channel_modChannel]
  | false =>
    by_cases h : s.inRationedSet c = (s.channel c).rationed
    · rw [reration_same h, h]
    · rw [reration_change h, askRation_rationed, channel_modChannel]

theorem askRation_away (s : State) {c d : Fin 4} (h : d ≠ c) : SameAt d s (s.askRation c) := by
  obtain ⟨fw, aw, nt, rs, pe, se, pb, lb, fl, ns, heq⟩ := askRation_only s c
  rw [heq]
  exact ⟨by simp [State.channel, State.modChannel, State.setChannel, State.modLink, State.setLink, Four.get_set_ne _ _ _ _ h],
    by simp [State.link, State.modChannel, State.setChannel, State.modLink, State.setLink, Four.get_set_ne _ _ _ _ h]⟩

theorem reration_away (s : State) (fresh : Bool) {c d : Fin 4} (h : d ≠ c) : SameAt d s (s.reration c fresh) := by
  cases fresh with
  | true =>
    rw [reration_fresh]
    exact (modChannel_away s _ h).trans (askRation_away _ h)
  | false =>
    by_cases hsame : s.inRationedSet c = (s.channel c).rationed
    · rw [reration_same hsame]
      exact .refl d s
    · rw [reration_change hsame]
      exact (modChannel_away s _ h).trans (askRation_away _ h)

theorem reration_visitsOne (changed : Option (Fin 4)) : VisitsOne (fun c t => t.reration c (changed == some c)) :=
  fun _ _ s h => reration_away s _ h

theorem recompute_rationOnly (s : State) (changed : Option (Fin 4)) : RationOnly s (s.recompute changed) :=
  forEach_keeps (R := RationOnly) .refl (fun _ _ _ => .trans) (fun c s => reration_rationOnly s c _) allFour s

/-- A channel among those visited finds itself as it stood before all visits, in a state that earlier visits left. -/
theorem forEach_at_kept {R : State → State → Prop} {f : Fin 4 → State → State} (refl : ∀ s, R s s)
    (trans : ∀ s t u, R s t → R t u → R s u) (hkeep : ∀ c s, R s (f c s)) (hf : VisitsOne f) {c : Fin 4}
    {l : List (Fin 4)} (hl : l.Nodup) (hc : c ∈ l) (s : State) :
    ∃ x, R s x ∧ SameAt c s x ∧ SameAt c (f c x) (forEach l f s) := by
  induction l generalizing s with
  | nil => cases hc
  | cons a l ih =>
    obtain ⟨ha, hl⟩ := List.nodup_cons.mp hl
    rcases List.mem_cons.mp hc with rfl | hc
    · exact ⟨s, refl s, .refl c s, forEach_away hf ha (f c s)⟩
    · obtain ⟨x, hr, hx, hend⟩ := ih hl hc (f a s)
      have hne : c ≠ a := fun h => ha (h ▸ hc)
      exact ⟨x, trans _ _ _ (hkeep a s) hr, (hf a c s hne).trans hx, hend⟩

/-- After a recomputation every channel is rationed exactly if it is in the set. -/
theorem recompute_rationed (s : State) (changed : Option (Fin 4)) (n : Fin 4) :
    ((s.recompute changed).channel n).rationed = (s.recompute changed).inRationedSet n := by
  obtain ⟨x, hx, -, hend⟩ := forEach_at_kept (R := RationOnly) (f := fun c t => t.reration c (changed == some c)) .refl
    (fun _ _ _ => .trans) (fun c s => reration_rationOnly s c _) (reration_visitsOne changed) (c := n) (l := allFour)
    (by decide) (by fin_cases n <;> decide) s
  rw [(recompute_rationOnly s changed).inRationedSet, ← hx.inRationedSet, State.recompute, hend.1, reration_rationed]

theorem recompute_notices (s : State) (changed : Option (Fin 4)) : (s.recompute changed).notices = s.notices := by
  obtain ⟨cs, ls, h⟩ := (recompute_rationOnly s changed).parts
  rw [h]

/-! ### The rationed set (R169, R170) -/

/-- Among priorities in falling order, the first n are those with fewer than n above them. -/
theorem mem_take_of_falling {l : List Nat} (h : l.Pairwise (fun a b => b < a)) (n p : Nat) :
    p ∈ l.take n ↔ p ∈ l ∧ (l.filter (fun q => decide (p < q))).length < n := by
  induction l generalizing n with
  | nil => simp
  | cons a l ih =>
    obtain ⟨hhead, htail⟩ := List.pairwise_cons.mp h
    cases n with
    | zero => simp
    | succ n =>
      rw [List.take_succ_cons, List.mem_cons, List.mem_cons, ih htail, List.filter_cons]
      by_cases hp : p = a
      · subst hp
        have hnone : l.filter (fun q => decide (p < q)) = [] := by
          simpa using fun q hq => (hhead q hq).le
        simp [hnone]
      · by_cases hlt : p < a
        · simp [hp, hlt]
        · have hnot : p ∉ l := fun hmem => hlt (hhead p hmem)
          simp [hp, hnot]

theorem prioritiesPresent_falling (s : State) : s.prioritiesPresent.Pairwise (fun a b => b < a) :=
  List.Pairwise.filter _ (by decide)

theorem mem_prioritiesPresent (s : State) (p : Nat) : p ∈ s.prioritiesPresent ↔
    p ≤ 3 ∧ ∃ c, (s.channel c).policy.action ≠ none ∧ (s.channel c).policy.priority = p := by
  unfold State.prioritiesPresent
  rw [List.mem_filter, channels_any]
  have hfour : p ∈ [3, 2, 1, 0] ↔ p ≤ 3 := by simp; omega
  rw [hfour]
  simp [Option.isSome_iff_ne_none]

theorem inRationedSet_iff (s : State) (c : Fin 4) : s.inRationedSet c = true ↔ (s.channel c).policy.action ≠ none ∧
    (s.channel c).policy.priority ∈ s.prioritiesPresent ∧
    (s.prioritiesPresent.filter (fun p => decide ((s.channel c).policy.priority < p))).length < s.level := by
  rw [State.inRationedSet, Bool.and_eq_true, List.contains_iff_mem, mem_take_of_falling (prioritiesPresent_falling s),
    Option.isSome_iff_ne_none]

/-- Settles O48. -/
theorem rationWriteRules : Obligations.RationWriteRules := by
  unfold Obligations.RationWriteRules
  refine ⟨fun s c write action hw ha => ⟨fun hnone => askRation_noAlias hw ha hnone, fun e he hl => ⟨fun hblocked => ?blocked,
      fun hup hroom => ?sent⟩, fun hblocked => ?kept, fun hup hroom => ?offered⟩,
    fun s c h => ⟨askRation_idle h, ?idle⟩, fun s c => ⟨reration_same, reration_change, rfl⟩,
    fun s changed => ⟨?visits, recompute_notices s changed⟩,
    fun s c => ⟨?member, prioritiesPresent_falling s, mem_prioritiesPresent s, rfl⟩⟩
  case blocked =>
    rw [askRation_alias hw ha he hl, if_neg]
    rw [room_eq_true]
    tauto
  case sent =>
    rw [askRation_alias hw ha he hl, if_pos ⟨hup, room_eq_true.mpr hroom⟩]
    cases write <;> rfl
  case kept =>
    rw [offerRoom_eq, if_neg]
    rw [room_eq_true]
    tauto
  case offered => exact if_pos ⟨hup, room_eq_true.mpr hroom⟩
  case idle =>
    rw [offerRoom_eq, askRation_idle h, ite_self]
  case visits =>
    simp only [State.recompute, forEach, allFour, List.foldl_cons, List.foldl_nil, beq_eq_decide]
  case member =>
    rw [inRationedSet_iff, mem_prioritiesPresent]

/-! ### The budget (R168, R169, R172) -/

theorem total_eq (s : State) : s.total = (s.channel 0).current.toNat + (s.channel 1).current.toNat +
    (s.channel 2).current.toNat + (s.channel 3).current.toNat := by
  rw [State.total, channels_toList]
  simp [allFour]

theorem overCondition_iff (s : State) : s.overCondition = true ↔ s.budget < s.total ∧ s.level < s.maxLevel := by
  simp [State.overCondition]

theorem underCondition_iff (s : State) : s.underCondition = true ↔ s.total * 10 ≤ s.budget * 9 ∧ 0 < s.level := by
  simp [State.underCondition]

theorem formTotal_over (s : State) :
    s.formTotal.overTimer = if s.overCondition then some (s.overTimer.getD 1000000) else none := rfl

theorem formTotal_under (s : State) :
    s.formTotal.underTimer = if s.underCondition then some (s.underTimer.getD 5000000) else none := rfl

theorem formTotal_boost_above {s : State} (h : s.boostThreshold < s.total) : s.formTotal.boost = true ∧
    s.formTotal.boostHold = if s.boost then s.boostHold else some 20000 := by
  unfold State.formTotal
  cases hboost : s.boost <;> simp [h]
  rfl

theorem formTotal_boost_below {s : State} (h : ¬ s.boostThreshold < s.total) :
    s.formTotal.boost = (s.boost && !(s.boostHold.getD 0 == 0)) ∧
    s.formTotal.boostHold = if s.boost && !(s.boostHold.getD 0 == 0) then s.boostHold else none := by
  unfold State.formTotal
  cases hboost : s.boost <;> simp [h]

theorem held_iff (t : Timer) : (t.getD 0 == 0) = true ↔ t = none ∨ t = some 0 := by
  cases t <;> simp

/-- What a change of the level is: the posting, then the writes it makes due. -/
theorem setLevel_rationOnly (s : State) (level : Nat) (changed : Option (Fin 4)) :
    RationOnly (({ s with level := level } : State).post .powerBudget 0) (s.setLevel level changed) :=
  recompute_rationOnly ..

/-- With no ration action and no channel rationed, a recomputation changes nothing. -/
theorem recompute_none {s : State} (h : ∀ c, (s.channel c).policy.action = none ∧ (s.channel c).rationed = false) :
    s.recompute none = s := by
  have hvisit (c : Fin 4) : s.reration c (none == some c) = s := by
    refine reration_same ?_
    rw [(h c).2, State.inRationedSet, (h c).1]
    rfl
  simp only [State.recompute, forEach, allFour, List.foldl_cons, List.foldl_nil, hvisit]

theorem overExpired_eq (s : State) : s.overExpired =
    if s.level < s.maxLevel then
      ({ s with overTimer := if s.budget < s.total ∧ s.level + 1 < s.maxLevel then some 1000000 else none } :
        State).setLevel (s.level + 1) none
    else { s with overTimer := none } := by
  simp only [State.overExpired, overCondition_iff]
  rfl

theorem underExpired_eq (s : State) : s.underExpired =
    if 0 < s.level then
      ({ s with underTimer := if s.total * 10 ≤ s.budget * 9 ∧ 0 < s.level - 1 then some 5000000 else none } :
        State).setLevel (s.level - 1) none
    else { s with underTimer := none } := by
  simp only [State.underExpired, underCondition_iff]
  rfl

theorem total_elapse (s : State) (dt : Nat) : (s.elapse dt).total = s.total := by
  simp [total_eq, Channel.elapse]

theorem maxLevel_elapse (s : State) (dt : Nat) : (s.elapse dt).maxLevel = s.maxLevel := by
  have h : (s.elapse dt).prioritiesPresent = s.prioritiesPresent :=
    prioritiesPresent_congr fun n => by rw [channel_elapse]; rfl
  rw [State.maxLevel, h, State.maxLevel]

/-- Settles O54. -/
theorem budgetRules : Obligations.BudgetRules := by
  unfold Obligations.BudgetRules
  simp only [← total_eq]
  refine ⟨fun s => ⟨⟨_, _, _, _, rfl⟩, fun h => ?tooMuch, fun h => ?enough, fun h => ?little, fun h => ?more,
      fun h => (formTotal_boost_above h).1, fun h hboost => ?begins, fun h hboost => ?stays, fun h hended => ?ended,
      fun h hboost hheld => ?holds⟩,
    fun s left => ⟨fun h => ?noOver, fun h hmax => ?atMost, fun h hmuch => ?again, fun h hlevel hmuch => ?once,
      fun h => ?noUnder, fun h hzero => ?atLeast, fun h hlevel hlittle => ?againDown, fun h hlevel hlittle => ?onceDown⟩,
    fun s level changed => rfl, fun s level => ⟨fun h => ?quiet, ?rest⟩⟩
  case tooMuch => exact if_pos ((overCondition_iff s).mpr h)
  case enough => exact if_neg (mt (overCondition_iff s).mp h)
  case little => exact if_pos ((underCondition_iff s).mpr h)
  case more => exact if_neg (mt (underCondition_iff s).mp h)
  case begins => rw [(formTotal_boost_above h).2, hboost]; rfl
  case stays => rw [(formTotal_boost_above h).2, hboost]; rfl
  case ended =>
    have hover : (s.boost && !(s.boostHold.getD 0 == 0)) = false := by
      obtain hboost | hheld := hended
      · rw [hboost]; rfl
      · rw [(held_iff s.boostHold).mpr hheld]; simp
    rw [(formTotal_boost_below h).1, (formTotal_boost_below h).2, hover]
    exact ⟨rfl, rfl⟩
  case holds =>
    have hstill : (s.boost && !(s.boostHold.getD 0 == 0)) = true := by
      rw [hboost, Bool.eq_false_iff.mpr (mt (held_iff s.boostHold).mp hheld)]; rfl
    rw [(formTotal_boost_below h).1, (formTotal_boost_below h).2, hstill]
    exact ⟨rfl, rfl⟩
  case noOver => exact congrArg Host.Outcome.next (by rw [h, onExpiry_none])
  case noUnder => exact congrArg Host.Outcome.next (by rw [h, onExpiry_none])
  case atMost =>
    refine congrArg Host.Outcome.next ?_
    rw [h, onExpiry_some, overExpired_eq, maxLevel_elapse]
    exact if_neg (Nat.not_lt.mpr hmax)
  case again =>
    have hnow : (s.elapse left).budget < (s.elapse left).total ∧
        (s.elapse left).level + 1 < (s.elapse left).maxLevel := by rwa [total_elapse, maxLevel_elapse]
    refine congrArg Host.Outcome.next ?_
    rw [h, onExpiry_some, overExpired_eq, if_pos hnow]
    exact if_pos (Nat.lt_of_succ_lt hnow.2)
  case once =>
    have hnow : ¬ ((s.elapse left).budget < (s.elapse left).total ∧
        (s.elapse left).level + 1 < (s.elapse left).maxLevel) := by rwa [total_elapse, maxLevel_elapse]
    refine congrArg Host.Outcome.next ?_
    rw [h, onExpiry_some, overExpired_eq, if_neg hnow, maxLevel_elapse]
    exact if_pos hlevel
  case atLeast =>
    refine congrArg Host.Outcome.next ?_
    rw [h, onExpiry_some, underExpired_eq]
    exact if_neg (Nat.not_lt.mpr hzero.le)
  case againDown =>
    have hnow : (s.elapse left).total * 10 ≤ (s.elapse left).budget * 9 ∧ 0 < (s.elapse left).level - 1 := by
      rwa [total_elapse]
    refine congrArg Host.Outcome.next ?_
    rw [h, onExpiry_some, underExpired_eq, if_pos hnow]
    exact if_pos hlevel
  case onceDown =>
    have hnow : ¬ ((s.elapse left).total * 10 ≤ (s.elapse left).budget * 9 ∧ 0 < (s.elapse left).level - 1) := by
      rwa [total_elapse]
    refine congrArg Host.Outcome.next ?_
    rw [h, onExpiry_some, underExpired_eq, if_neg hnow]
    exact if_pos hlevel
  case quiet =>
    refine recompute_none fun c => ?_
    rw [channel_post]
    exact h c
  case rest =>
    obtain ⟨ns, hpost⟩ := post_eq { s with level := level } .powerBudget 0
    have hr := setLevel_rationOnly s level none
    obtain ⟨cs, ls, hparts⟩ := hr.parts
    refine ⟨?_, ?_, ?_, ?_, ?_, ?_, ?_, fun n => ?_⟩
    iterate 7 rw [hparts, hpost]
    obtain ⟨ra, pb, lb, fl, hchannel⟩ := hr.channel n
    obtain ⟨fw, aw, nt, hlink⟩ := hr.link n
    have hstate (c : Fin 4) : (({ s with level := level } : State).post .powerBudget 0).channel c = s.channel c :=
      channel_post ..
    have hlinks (l : Fin 4) : (({ s with level := level } : State).post .powerBudget 0).link l = s.link l := link_post ..
    refine ⟨recompute_rationed _ none n, ?_⟩
    rw [hchannel, hlink, hstate, hlinks]
    exact ⟨rfl, rfl, rfl, rfl, rfl⟩

end Sys2Proof.Machine
end

section
/-! Request fields and reply fields (R209), and the PROOF of LinkPolicyAndStatusRules (O37) and AliasRules (O44). -/

namespace Sys2Proof.Machine

open Sys2Proof.Claims

/-! ### Fields with few values -/

theorem byte_eq_of_toNat {b : Byte} {n : Nat} (h : b.toNat = n) : b = BitVec.ofNat 8 n := by
  rw [← h, BitVec.ofNat_toNat, BitVec.setWidth_eq]

theorem byteOf_toNat (b : Byte) : byteOf b.toNat = b := (byte_eq_of_toNat rfl).symm

theorem zero_or_one {n : Nat} (h : n ≤ 1) : n = 0 ∨ n = 1 := by omega

theorem yesNo?_of_le {b : Byte} (h : b.toNat ≤ 1) : yesNo? b = some (b.toNat == 1) := by
  obtain hb | hb := zero_or_one h <;> rw [byte_eq_of_toNat hb] <;> rfl

theorem yesNo?_of_gt {b : Byte} (h : 1 < b.toNat) : yesNo? b = none := by
  have h0 : b ≠ 0 := by rintro rfl; simp at h
  have h1 : b ≠ 1 := by rintro rfl; simp at h
  rw [yesNo?, if_neg h0, if_neg h1]

theorem flagByte_of_le {b : Byte} (h : b.toNat ≤ 1) : flagByte (b.toNat == 1) = b := by
  obtain hb | hb := zero_or_one h <;> rw [byte_eq_of_toNat hb] <;> rfl

theorem StartPoint.ofByte?_of_le {b : Byte} (h : b.toNat ≤ 1) :
    StartPoint.ofByte? b = some (if b.toNat = 0 then .middle else .low) := by
  obtain hb | hb := zero_or_one h <;> rw [StartPoint.ofByte?, hb] <;> rfl

theorem StartPoint.ofByte?_of_gt {b : Byte} (h : 1 < b.toNat) : StartPoint.ofByte? b = none := by
  unfold StartPoint.ofByte?
  split
  · omega
  · omega
  · rfl

theorem StartPoint.code_of_le {b : Byte} (h : b.toNat ≤ 1) :
    byteOf (if b.toNat = 0 then StartPoint.middle else .low).code = b := by
  obtain hb | hb := zero_or_one h <;> rw [byte_eq_of_toNat hb] <;> rfl

theorem RatePolicy.ofByte?_of_le {b : Byte} (h : b.toNat ≤ 2) : RatePolicy.ofByte? b =
    some (if b.toNat = 0 then .auto else if b.toNat = 1 then .fullOnly else .halfOnly) := by
  obtain hb | hb | hb : b.toNat = 0 ∨ b.toNat = 1 ∨ b.toNat = 2 := by omega
  all_goals (rw [RatePolicy.ofByte?, hb]; rfl)

theorem RatePolicy.ofByte?_of_gt {b : Byte} (h : 2 < b.toNat) : RatePolicy.ofByte? b = none := by
  unfold RatePolicy.ofByte?
  split
  · omega
  · omega
  · omega
  · rfl

theorem RatePolicy.code_of_le {b : Byte} (h : b.toNat ≤ 2) :
    byteOf (if b.toNat = 0 then RatePolicy.auto else if b.toNat = 1 then .fullOnly else .halfOnly).code = b := by
  obtain hb | hb | hb : b.toNat = 0 ∨ b.toNat = 1 ∨ b.toNat = 2 := by omega
  all_goals (rw [byte_eq_of_toNat hb]; rfl)

theorem PowerMode.ofByte?_of_le {b : Byte} (h : b.toNat ≤ 1) :
    PowerMode.ofByte? b = some (if b.toNat = 0 then .auto else .forced) := by
  obtain hb | hb := zero_or_one h <;> rw [PowerMode.ofByte?, hb] <;> rfl

theorem PowerMode.ofByte?_of_gt {b : Byte} (h : 1 < b.toNat) : PowerMode.ofByte? b = none := by
  unfold PowerMode.ofByte?
  split
  · omega
  · omega
  · rfl

theorem FaultHandling.ofByte?_of_le {b : Byte} (h : b.toNat ≤ 1) :
    FaultHandling.ofByte? b = some (if b.toNat = 0 then .autoRecover else .latch) := by
  obtain hb | hb := zero_or_one h <;> rw [FaultHandling.ofByte?, hb] <;> rfl

theorem FaultHandling.ofByte?_of_gt {b : Byte} (h : 1 < b.toNat) : FaultHandling.ofByte? b = none := by
  unfold FaultHandling.ofByte?
  split
  · omega
  · omega
  · rfl

/-! ### LINK_POLICY and LINK_STATUS (R108, R129) -/

/-- The policy that ten bytes in range spell. -/
def policyOfBytes (body : List Byte) : LinkPolicy :=
  ⟨(byteAt body 1).toNat, (byteAt body 2).toNat, if (byteAt body 3).toNat = 0 then .middle else .low,
    effectiveDwell (byteAt body 4).toNat, (byteAt body 5).toNat == 1, (byteAt body 6).toNat, max 1 (half body 7).toNat,
    if (byteAt body 9).toNat = 0 then .auto else if (byteAt body 9).toNat = 1 then .fullOnly else .halfOnly⟩

/-- The ranges of LINK_POLICY but that of the link number. -/
def LinkPolicyInRange (body : List Byte) : Prop :=
  (byteAt body 2).toNat ≤ 15 ∧ (byteAt body 1).toNat ≤ (byteAt body 2).toNat ∧ (byteAt body 3).toNat ≤ 1 ∧
  (byteAt body 5).toNat ≤ 1 ∧ (byteAt body 9).toNat ≤ 2

theorem readLinkPolicy_of_inRange {body : List Byte} (h : LinkPolicyInRange body) :
    readLinkPolicy body = some (policyOfBytes body) := by
  obtain ⟨hmax, horder, hstart, htwoStep, hrate⟩ := h
  unfold readLinkPolicy
  dsimp only
  rw [StartPoint.ofByte?_of_le hstart, yesNo?_of_le htwoStep, RatePolicy.ofByte?_of_le hrate]
  exact if_pos ⟨hmax, horder⟩

theorem readLinkPolicy_of_not_inRange {body : List Byte} (h : ¬ LinkPolicyInRange body) : readLinkPolicy body = none := by
  unfold readLinkPolicy
  dsimp only
  split
  next start twoStep rate hstart htwoStep hrate =>
    refine if_neg fun hok => h ⟨hok.1, hok.2, ?_, ?_, ?_⟩
    · by_contra hgt
      rw [StartPoint.ofByte?_of_gt (Nat.lt_of_not_le hgt)] at hstart
      cases hstart
    · by_contra hgt
      rw [yesNo?_of_gt (Nat.lt_of_not_le hgt)] at htwoStep
      cases htwoStep
    · by_contra hgt
      rw [RatePolicy.ofByte?_of_gt (Nat.lt_of_not_le hgt)] at hrate
      cases hrate
  · rfl

theorem bytes_policyOfBytes {body : List Byte} (h : LinkPolicyInRange body) : (policyOfBytes body).bytes =
    [byteAt body 1, byteAt body 2, byteAt body 3, BitVec.ofNat 8 (effectiveDwell (byteAt body 4).toNat), byteAt body 5,
      byteAt body 6] ++ halfBytes (BitVec.ofNat 16 (max 1 (half body 7).toNat)) ++ [byteAt body 9] := by
  obtain ⟨hmax, horder, hstart, htwoStep, hrate⟩ := h
  rw [LinkPolicy.bytes, policyOfBytes]
  dsimp only
  rw [byteOf_toNat, byteOf_toNat, byteOf_toNat, StartPoint.code_of_le hstart, flagByte_of_le htwoStep,
    RatePolicy.code_of_le hrate]
  rfl

theorem linkPolicyHandler_of_some {body : List Byte} {l : Fin 4} {p : LinkPolicy} (hl : four? (byteAt body 0) = some l)
    (hp : readLinkPolicy body = some p) (s : State) : linkPolicyHandler body s =
      ((s.modLink l (fun v => { v with policy := p })).evaluate l).done (byteAt body 0 :: p.bytes) := by
  rw [linkPolicyHandler, hl, hp]

theorem linkPolicyHandler_refused {body : List Byte} (h : four? (byteAt body 0) = none ∨ readLinkPolicy body = none)
    (s : State) : linkPolicyHandler body s = s.refuse .badArg := by
  unfold linkPolicyHandler
  split
  next hl hp => rcases h with h | h <;> simp_all
  next => rfl

theorem linkStatusHandler_of_none {body : List Byte} (h : four? (byteAt body 0) = none) (s : State) :
    linkStatusHandler body s = s.refuse .badArg := by
  rw [linkStatusHandler, h]

theorem linkStatusHandler_of_some {body : List Byte} {l : Fin 4} (h : four? (byteAt body 0) = some l) (s : State) :
    linkStatusHandler body s = (s.modLink l (fun v => { v with
      symbolErrors := 0, badRecords := 0, seqErrors := 0, postedErrors := 0, lockChanged := false })).done
      (s.link l).statusBody := by
  rw [linkStatusHandler, h]

/-- Settles O37. -/
theorem linkPolicyAndStatusRules : Obligations.LinkPolicyAndStatusRules := by
  unfold Obligations.LinkPolicyAndStatusRules
  refine ⟨fun s dt tag body hs hlength => ?policy, fun s dt tag n hs => ⟨fun hn => ?noLink, fun l hl => ?status⟩⟩
  case policy =>
    have hl : RequestKind.linkPolicy.lengthOk body = true := by simp [RequestKind.lengthOk, hlength]
    refine ⟨fun hbad => ?refused, fun l hlink hok => ?set⟩
    case refused =>
      have hrefused : four? (byteAt body 0) = none ∨ readLinkPolicy body = none := by
        by_cases hlink : (byteAt body 0).toNat ≤ 3
        · exact .inr (readLinkPolicy_of_not_inRange fun hrange => hbad ⟨hlink, hrange⟩)
        · exact .inl (four?_of_gt (Nat.lt_of_not_le hlink))
      exact exec_of_handler (k := .linkPolicy) rfl hs hl (linkPolicyHandler_refused hrefused _)
    case set =>
      have hset := exec_of_handler (i := .linkPolicy dt tag body) (k := .linkPolicy) rfl hs hl
        (linkPolicyHandler_of_some (four?_of_val hlink) (readLinkPolicy_of_inRange hok.2) _)
      rw [hset, bytes_policyOfBytes hok.2]
      rfl
  case noLink =>
    have hnone : four? (byteAt [n] 0) = none := four?_of_gt hn
    exact exec_of_handler (k := .linkStatus) rfl hs rfl (linkStatusHandler_of_none hnone _)
  case status =>
    have hsome : four? (byteAt [n] 0) = some l := four?_of_val hl
    exact exec_of_handler (k := .linkStatus) rfl hs rfl (linkStatusHandler_of_some hsome _)

/-! ### The Alias Table (R137, R138) -/

theorem aliasInRange_iff (a : Byte) : aliasInRange a = true ↔ 1 ≤ a.toNat ∧ a.toNat ≤ 127 := by
  simp [aliasInRange]

theorem findAlias_isSome_iff (s : State) (a : Byte) : (s.findAlias a).isSome = true ↔ ∃ x ∈ s.aliases, x.aliasNo = a := by
  simp [State.findAlias]

theorem aliasSetHandler_of_fields {body : List Byte} {l : Fin 4} {posted : Bool} (hl : four? (byteAt body 1) = some l)
    (hp : yesNo? (byteAt body 3) = some posted) (s : State) : aliasSetHandler body s =
      if aliasInRange (byteAt body 0) = true ∧ 0x08 ≤ (byteAt body 2).toNat ∧ (byteAt body 2).toNat ≤ 0x77 then
        if (s.findAlias (byteAt body 0)).isSome then
          ({ s with aliases := replaceAlias s.aliases ⟨byteAt body 0, l, byteAt body 2, posted⟩ } : State).done []
        else if s.aliases.length < 16 then
          ({ s with aliases := s.aliases ++ [⟨byteAt body 0, l, byteAt body 2, posted⟩] } : State).done []
        else s.refuse .noRoom
      else s.refuse .badArg := by
  unfold aliasSetHandler
  dsimp only
  rw [hl, hp]
  rfl

theorem aliasSetHandler_refused {body : List Byte} (h : four? (byteAt body 1) = none ∨ yesNo? (byteAt body 3) = none ∨
    ¬ (aliasInRange (byteAt body 0) = true ∧ 0x08 ≤ (byteAt body 2).toNat ∧ (byteAt body 2).toNat ≤ 0x77)) (s : State) :
    aliasSetHandler body s = s.refuse .badArg := by
  unfold aliasSetHandler
  dsimp only
  split
  next l posted hl hp =>
    obtain h | h | h := h
    · rw [h] at hl
      cases hl
    · rw [h] at hp
      cases hp
    · exact if_neg h
  next => rfl

theorem beq_one_toNat (b : Byte) : (b.toNat == 1) = (b == 1) := by
  rw [Bool.eq_iff_iff, beq_iff_eq, beq_iff_eq]
  exact ⟨byte_eq_of_toNat, fun h => by rw [h]; rfl⟩

/-- What ALIAS_SET makes of fields in range: replaced, added or NO_ROOM. -/
theorem aliasSetHandler_of_inRange {a n address posted : Byte} {l : Fin 4} (hl : l.val = n.toNat)
    (ha : 1 ≤ a.toNat ∧ a.toNat ≤ 127) (haddress : 0x08 ≤ address.toNat ∧ address.toNat ≤ 0x77) (hp : posted.toNat ≤ 1)
    (s : State) : aliasSetHandler [a, n, address, posted] s =
      if (s.findAlias a).isSome then
        ({ s with aliases := replaceAlias s.aliases ⟨a, l, address, posted == 1⟩ } : State).done []
      else if s.aliases.length < 16 then
        ({ s with aliases := s.aliases ++ [⟨a, l, address, posted == 1⟩] } : State).done []
      else s.refuse .noRoom := by
  have hposted : yesNo? (byteAt [a, n, address, posted] 3) = some (posted == 1) := by
    rw [← beq_one_toNat]
    exact yesNo?_of_le hp
  rw [aliasSetHandler_of_fields (four?_of_val hl) hposted]
  exact if_pos ⟨(aliasInRange_iff a).mpr ha, haddress⟩

/-- Settles O44. -/
theorem aliasRules : Obligations.AliasRules := by
  unfold Obligations.AliasRules
  have hunset {u : State} {a : Byte} (hnew : ∀ x ∈ u.aliases, x.aliasNo ≠ a) : ¬ (u.findAlias a).isSome = true :=
    mt (findAlias_isSome_iff u a).mp fun ⟨x, hx, ha⟩ => hnew x hx ha
  refine ⟨fun s dt tag a n address posted hs => ⟨fun hbad => ?refused, fun l hl hok =>
      ⟨fun hknown => ?replaced, fun hnew hroom => ?added, fun hnew hfull => ?full⟩⟩,
    fun s dt tag a hs => ⟨fun hunknown => ?unknown, fun hknown => ?cleared⟩⟩
  case refused =>
    refine exec_of_handler (k := .aliasSet) rfl hs rfl (aliasSetHandler_refused ?_ _)
    by_cases hn : n.toNat ≤ 3
    · by_cases hp : posted.toNat ≤ 1
      · refine .inr (.inr fun ⟨hrange, hlow, hhigh⟩ => hbad ?_)
        obtain ⟨hone, hmax⟩ := (aliasInRange_iff a).mp hrange
        exact ⟨hone, hmax, hn, hlow, hhigh, hp⟩
      · exact .inr (.inl (yesNo?_of_gt (Nat.lt_of_not_le hp)))
    · exact .inl (four?_of_gt (Nat.lt_of_not_le hn))
  case replaced =>
    obtain ⟨hone, hmax, -, hlow, hhigh, hp⟩ := hok
    exact exec_of_handler (k := .aliasSet) rfl hs rfl
      ((aliasSetHandler_of_inRange hl ⟨hone, hmax⟩ ⟨hlow, hhigh⟩ hp _).trans (if_pos ((findAlias_isSome_iff _ a).mpr hknown)))
  case added =>
    obtain ⟨hone, hmax, -, hlow, hhigh, hp⟩ := hok
    exact exec_of_handler (k := .aliasSet) rfl hs rfl
      ((aliasSetHandler_of_inRange hl ⟨hone, hmax⟩ ⟨hlow, hhigh⟩ hp _).trans ((if_neg (hunset hnew)).trans (if_pos hroom)))
  case full =>
    obtain ⟨hone, hmax, -, hlow, hhigh, hp⟩ := hok
    exact exec_of_handler (k := .aliasSet) rfl hs rfl
      ((aliasSetHandler_of_inRange hl ⟨hone, hmax⟩ ⟨hlow, hhigh⟩ hp _).trans ((if_neg (hunset hnew)).trans (if_neg (Nat.not_lt.mpr hfull))))
  case unknown =>
    refine exec_of_handler (k := .aliasClear) rfl hs rfl (if_neg fun hknown => hunknown ?_)
    obtain ⟨hrange, hsome⟩ := hknown
    obtain ⟨hone, hmax⟩ := (aliasInRange_iff a).mp hrange
    exact ⟨hone, hmax, (findAlias_isSome_iff _ a).mp hsome⟩
  case cleared =>
    obtain ⟨hone, hmax, hexists⟩ := hknown
    exact exec_of_handler (k := .aliasClear) rfl hs rfl
      (if_pos ⟨(aliasInRange_iff a).mpr ⟨hone, hmax⟩, (findAlias_isSome_iff _ a).mpr hexists⟩)

end Sys2Proof.Machine
end

section
/-! PROOF of PowerPolicyBudgetStatusRules (O49). -/

namespace Sys2Proof.Machine

open Sys2Proof.Claims

/-! ### What a channel is as it enters a state -/

theorem channel_linkPowered (s : State) (l c : Fin 4) : (s.linkPowered l).channel c = s.channel c := by
  obtain ⟨w, ns, h, -⟩ := linkPowered_eq s l
  rw [h]
  rfl

theorem channel_enterActive (s : State) (c : Fin 4) :
    (s.enterActive c).channel c = { (s.channel c).settle .active with activeTimer := some 10000000 } := by
  rw [State.enterActive, channel_linkPowered, State.postPower, channel_post, channel_modChannel]
  rfl

theorem channel_enterDetect (s : State) (c : Fin 4) : (s.enterDetect c).channel c = (s.channel c).settle .detect := by
  rw [State.enterDetect, State.postPower, channel_post, channel_modChannel]

theorem channel_enterOff (s : State) (c : Fin 4) (wait : Bool) :
    (s.enterOff c wait).channel c = { (s.channel c).settle .off with current := 0, waiting := wait } := by
  rw [State.enterOff, State.postPower, channel_post, channel_modChannel]

theorem channel_enterFault {s : State} {c : Fin 4} (h : (s.channel c).state ≠ .active) (cause : PowerCause) :
    (s.enterFault c cause).channel c = (s.channel c).faulted cause := by
  rw [enterFault_of_not_active h, State.postPower, channel_post, channel_modChannel]

/-! ### POWER_POLICY (R156) -/

/-- The policy that eleven bytes in range spell, for a channel with these straps. -/
def powerPolicyOfBytes (body : List Byte) (cap : Cap) : PowerPolicy :=
  ⟨if (byteAt body 1).toNat = 0 then .auto else .forced, effectiveLimit (half body 2).toNat cap,
    if (byteAt body 4).toNat = 0 then .autoRecover else .latch, (byteAt body 5).toNat,
    if (byteAt body 6).toNat = 0 then none
    else some ⟨byteAt body 7, byteAt body 8, byteAt body 9, byteAt body 10⟩⟩

/-- The ranges of POWER_POLICY but that of the channel number. -/
def PowerPolicyInRange (body : List Byte) : Prop :=
  (byteAt body 1).toNat ≤ 1 ∧ (byteAt body 4).toNat ≤ 1 ∧ (byteAt body 5).toNat ≤ 3 ∧ (byteAt body 6).toNat ≤ 1 ∧
  ((byteAt body 6).toNat = 1 → 1 ≤ (byteAt body 7).toNat ∧ (byteAt body 7).toNat ≤ 127)

theorem readPowerPolicy_of_inRange {body : List Byte} (h : PowerPolicyInRange body) (cap : Cap) :
    readPowerPolicy body cap = some (powerPolicyOfBytes body cap) := by
  obtain ⟨hmode, hhandling, hpriority, hpresent, halias⟩ := h
  unfold readPowerPolicy
  dsimp only
  rw [PowerMode.ofByte?_of_le hmode, FaultHandling.ofByte?_of_le hhandling, yesNo?_of_le hpresent]
  have hok : (byteAt body 5).toNat ≤ 3 ∧
      (((byteAt body 6).toNat == 1) = true → aliasInRange (byteAt body 7) = true) :=
    ⟨hpriority, fun hone => (aliasInRange_iff _).mpr (halias (beq_iff_eq.mp hone))⟩
  dsimp only
  rw [if_pos hok, powerPolicyOfBytes]
  obtain hzero | hone := zero_or_one hpresent
  · rw [hzero]; rfl
  · rw [hone]; rfl

theorem readPowerPolicy_of_not_inRange {body : List Byte} (h : ¬ PowerPolicyInRange body) (cap : Cap) :
    readPowerPolicy body cap = none := by
  unfold readPowerPolicy
  dsimp only
  split
  next mode handling present hmode hhandling hpresent =>
    have hmodeLe : (byteAt body 1).toNat ≤ 1 := by
      by_contra hgt
      rw [PowerMode.ofByte?_of_gt (Nat.lt_of_not_le hgt)] at hmode
      cases hmode
    have hhandlingLe : (byteAt body 4).toNat ≤ 1 := by
      by_contra hgt
      rw [FaultHandling.ofByte?_of_gt (Nat.lt_of_not_le hgt)] at hhandling
      cases hhandling
    have hpresentLe : (byteAt body 6).toNat ≤ 1 := by
      by_contra hgt
      rw [yesNo?_of_gt (Nat.lt_of_not_le hgt)] at hpresent
      cases hpresent
    refine if_neg fun hok => h ⟨hmodeLe, hhandlingLe, hok.1, hpresentLe, fun hone => (aliasInRange_iff _).mp (hok.2 ?_)⟩
    rw [yesNo?_of_le hpresentLe, hone] at hpresent
    exact (Option.some.inj hpresent).symm
  · rfl

theorem powerPolicyHandler_refused {body : List Byte} (h : ¬ ((byteAt body 0).toNat ≤ 3 ∧ PowerPolicyInRange body))
    (s : State) : powerPolicyHandler body s = s.refuse .badArg := by
  unfold powerPolicyHandler
  split
  next => rfl
  next c hc =>
    rw [readPowerPolicy_of_not_inRange fun hrange => h ⟨?_, hrange⟩]
    by_contra hgt
    rw [four?_of_gt (Nat.lt_of_not_le hgt)] at hc
    cases hc

theorem powerPolicyHandler_of_inRange {body : List Byte} {c : Fin 4} (hc : c.val = (byteAt body 0).toNat)
    (h : PowerPolicyInRange body) (s : State) : powerPolicyHandler body s =
      (((s.modChannel c (fun v => { v with policy := powerPolicyOfBytes body (s.channel c).cap })).modeChanged c
        (s.channel c).policy.mode).policyRations c s.maxLevel
        ((powerPolicyOfBytes body (s.channel c).cap).action != (s.channel c).policy.action)).done
        (halfOf (powerPolicyOfBytes body (s.channel c).cap).limit) := by
  rw [powerPolicyHandler, four?_of_val hc]
  dsimp only
  rw [readPowerPolicy_of_inRange h]

/-! ### A change of mode (R156) -/

/-- AUTO becomes FORCED in DETECT: the channel goes on to ACTIVE, or waits for the supply. -/
theorem modeChanged_leaves {s : State} {c : Fin 4} {before : PowerMode} (hbefore : before = .auto)
    (hmode : (s.channel c).policy.mode = .forced) (hstate : (s.channel c).state = .detect) : s.modeChanged c before =
    if s.supply = .good then s.enterActive c else s.enterOff c true := by
  unfold State.modeChanged
  dsimp only
  rw [hbefore, hmode]
  exact if_pos hstate

/-- FORCED becomes AUTO: the removal run starts anew, and a channel that waits detects. -/
theorem modeChanged_turns {s : State} {c : Fin 4} {before : PowerMode} (hbefore : before = .forced)
    (hmode : (s.channel c).policy.mode = .auto) : s.modeChanged c before =
    let turned := s.modChannel c (fun v => { v with removalRun := 0 })
    if (s.channel c).state = .off ∧ (s.channel c).waiting = true ∧ (s.channel c).intent = true then
      if s.thermal = .shutdown then turned.enterFault c .thermal else turned.enterDetect c
    else turned := by
  unfold State.modeChanged
  dsimp only
  rw [hbefore, hmode]
  rfl

theorem modeChanged_else {s : State} {c : Fin 4} {before : PowerMode}
    (hleaves : ¬ (before = .auto ∧ (s.channel c).policy.mode = .forced ∧ (s.channel c).state = .detect))
    (hturns : ¬ (before = .forced ∧ (s.channel c).policy.mode = .auto)) : s.modeChanged c before = s := by
  unfold State.modeChanged
  dsimp only
  split
  next h => exact if_neg fun hstate => hleaves ⟨rfl, h, hstate⟩
  next h => exact absurd ⟨rfl, h⟩ hturns
  next => rfl
  next => rfl

/-! ### The level and the rationed set after a policy (R169, R170) -/

theorem policyRations_lowered {s : State} {c : Fin 4} {before : Nat} {fresh : Bool} (h : s.maxLevel < s.level) :
    s.policyRations c before fresh = ({ s with
      overTimer := none
      underTimer := if s.underTimer.isSome && decide (0 < s.maxLevel) then some 5000000 else none } : State).setLevel
        s.maxLevel (if fresh then some c else none) := if_pos h

theorem policyRations_kept {s : State} {c : Fin 4} {before : Nat} {fresh : Bool} (h : ¬ s.maxLevel < s.level) :
    s.policyRations c before fresh = ({ s with overTimer :=
      if before < s.maxLevel then (if s.overCondition then some (s.overTimer.getD 1000000) else s.overTimer)
      else if s.level < s.maxLevel then s.overTimer else none } : State).recompute (if fresh then some c else none) :=
  if_neg h

/-- What a policy's rations change: the level, the budget timers, the notices, and the ration writes. -/
structure LevelOnly (s t : State) : Prop where
  parts : ∃ lv ot ut ns cs ls, t = { s with
    level := lv, overTimer := ot, underTimer := ut, notices := ns, channels := cs, links := ls }
  channel : ∀ n, ∃ ra pb lb fl, t.channel n =
    { s.channel n with rationed := ra, pendingByte := pb, lastByte := lb, failedWrites := fl }
  link : ∀ n, (t.link n).state = (s.link n).state
  level : t.level = min s.level t.maxLevel
  rationed : ∀ n, (t.channel n).rationed = t.inRationedSet n

theorem maxLevel_congr {s t : State} (h : ∀ n, (t.channel n).policy = (s.channel n).policy) :
    t.maxLevel = s.maxLevel := by
  rw [State.maxLevel, prioritiesPresent_congr h, State.maxLevel]

theorem RationOnly.level {s t : State} (h : RationOnly s t) : t.level = s.level := by
  obtain ⟨cs, ls, ht⟩ := h.parts
  rw [ht]

theorem policyRations_levelOnly (s : State) (c : Fin 4) (before : Nat) (fresh : Bool) :
    LevelOnly s (s.policyRations c before fresh) := by
  by_cases h : s.maxLevel < s.level
  · rw [policyRations_lowered h]
    set x : State := { s with
      overTimer := none
      underTimer := if s.underTimer.isSome && decide (0 < s.maxLevel) then some 5000000 else none } with hx
    have hr := setLevel_rationOnly x s.maxLevel (if fresh then some c else none)
    obtain ⟨ns, hpost⟩ := post_eq { x with level := s.maxLevel } .powerBudget 0
    obtain ⟨cs, ls, hparts⟩ := hr.parts
    have hchannel (n : Fin 4) : (({ x with level := s.maxLevel } : State).post .powerBudget 0).channel n = s.channel n :=
      channel_post ..
    have hlink (n : Fin 4) : (({ x with level := s.maxLevel } : State).post .powerBudget 0).link n = s.link n :=
      link_post ..
    refine ⟨⟨_, _, _, _, cs, ls, by rw [hparts, hpost]⟩, fun n => ?_, fun n => ?_, ?_, fun n => recompute_rationed _ _ n⟩
    · obtain ⟨ra, pb, lb, fl, hn⟩ := hr.channel n
      exact ⟨ra, pb, lb, fl, by rw [hn, hchannel]⟩
    · obtain ⟨fw, aw, nt, hn⟩ := hr.link n
      rw [hn, hlink]
    · have hmax : (x.setLevel s.maxLevel (if fresh then some c else none)).maxLevel = s.maxLevel :=
        maxLevel_congr fun n => (hr.policy n).trans (by rw [hchannel])
      rw [hmax, Nat.min_eq_right h.le, hr.level, hpost]
  · rw [policyRations_kept h]
    set x : State := { s with overTimer := _ } with hx
    have hr := recompute_rationOnly x (if fresh then some c else none)
    obtain ⟨cs, ls, hparts⟩ := hr.parts
    refine ⟨⟨_, _, _, _, cs, ls, hparts⟩, hr.channel, fun n => ?_, ?_, fun n => recompute_rationed _ _ n⟩
    · obtain ⟨fw, aw, nt, hn⟩ := hr.link n
      rw [hn]
      rfl
    · have hmax : (x.recompute (if fresh then some c else none)).maxLevel = s.maxLevel := maxLevel_congr hr.policy
      rw [hmax, Nat.min_eq_left (Nat.le_of_not_lt h), hr.level]

/-! ### The new policy is in force -/

theorem enterDetect_wakeOnly (s : State) (c : Fin 4) : WakeOnly c s (s.enterDetect c) :=
  (WakeOnly.ofPost ..).after (.ofChannel ..)

theorem enterOff_wakeOnly (s : State) (c : Fin 4) (wait : Bool) : WakeOnly c s (s.enterOff c wait) :=
  (WakeOnly.ofPost ..).after (.ofChannel ..)

theorem enterFault_wakeOnly {s : State} {c : Fin 4} (h : (s.channel c).state ≠ .active) (cause : PowerCause) :
    WakeOnly c s (s.enterFault c cause) := by
  rw [enterFault_of_not_active h]
  exact (WakeOnly.ofPost ..).after (.ofChannel ..)

theorem faulted_fields (v : Channel) (cause : PowerCause) : (v.faulted cause).policy = v.policy ∧
    (v.faulted cause).cap = v.cap ∧ (v.faulted cause).intent = v.intent ∧ (v.faulted cause).state = .fault ∧
    (v.faulted cause).cause = cause ∧ (v.faulted cause).faults = bump v.faults := ⟨rfl, rfl, rfl, rfl, rfl, rfl⟩

/-- What a change of mode leaves of the channel whatever else it does. -/
structure ModeOnly (c : Fin 4) (s t : State) : Prop where
  only : WakeOnly c s t
  policy : (t.channel c).policy = (s.channel c).policy
  cap : (t.channel c).cap = (s.channel c).cap
  intent : (t.channel c).intent = (s.channel c).intent

theorem modeChanged_modeOnly (s : State) (c : Fin 4) (before : PowerMode) : ModeOnly c s (s.modeChanged c before) := by
  by_cases hleaves : before = .auto ∧ (s.channel c).policy.mode = .forced ∧ (s.channel c).state = .detect
  · obtain ⟨hbefore, hmode, hstate⟩ := hleaves
    rw [modeChanged_leaves hbefore hmode hstate]
    split
    · refine ⟨enterActive_wakeOnly s c, ?_, ?_, ?_⟩ <;> rw [channel_enterActive] <;> rfl
    · refine ⟨enterOff_wakeOnly s c true, ?_, ?_, ?_⟩ <;> rw [channel_enterOff] <;> rfl
  · by_cases hturns : before = .forced ∧ (s.channel c).policy.mode = .auto
    · rw [modeChanged_turns hturns.1 hturns.2]
      have hturned : WakeOnly c s (s.modChannel c (fun v => { v with removalRun := 0 })) := .ofChannel ..
      have hchannel : (s.modChannel c (fun v => { v with removalRun := 0 })).channel c =
        { s.channel c with removalRun := 0 } := channel_modChannel ..
      dsimp only
      split
      next hwaits =>
        split
        · have hne : ((s.modChannel c (fun v => { v with removalRun := 0 })).channel c).state ≠ .active := by
            rw [hchannel]
            simp [hwaits.1]
          refine ⟨hturned.trans (enterFault_wakeOnly hne .thermal), ?_, ?_, ?_⟩ <;>
            rw [channel_enterFault hne, hchannel] <;> rfl
        · refine ⟨hturned.trans (enterDetect_wakeOnly ..), ?_, ?_, ?_⟩ <;> rw [channel_enterDetect, hchannel] <;> rfl
      next => refine ⟨hturned, ?_, ?_, ?_⟩ <;> rw [hchannel]
    · rw [modeChanged_else hleaves hturns]
      exact ⟨.refl c s, rfl, rfl, rfl⟩

/-! ### POWER_BUDGET and POWER_STATUS (R168, R173) -/

theorem powerStatusHandler_of_none {body : List Byte} (h : four? (byteAt body 0) = none) (s : State) :
    powerStatusHandler body s = s.refuse .badArg := by
  rw [powerStatusHandler, h]

theorem powerStatusHandler_of_some {body : List Byte} {c : Fin 4} (h : four? (byteAt body 0) = some c) (s : State) :
    powerStatusHandler body s = (s.modChannel c (fun v => { v with failedWrites := 0 })).done (s.powerBody c) := by
  rw [powerStatusHandler, h]

theorem rationByte_code (p : Option RationWrite) : byteOf (rationCode p) = match p with
    | none => 0
    | some .engage => 1
    | some .restore => 2 := by
  cases p with
  | none => rfl
  | some w => cases w <;> rfl

theorem modeByte (m : PowerMode) : byteOf m.code = if m = .auto then 0 else 1 := by cases m <;> rfl

theorem handlingByte (h : FaultHandling) : byteOf h.code = if h = .autoRecover then 0 else 1 := by cases h <;> rfl

/-- Settles O49. -/
theorem powerPolicyBudgetStatusRules : Obligations.PowerPolicyBudgetStatusRules := by
  unfold Obligations.PowerPolicyBudgetStatusRules
  refine ⟨fun s dt tag body hs hlength => ⟨fun hbad => ?refused, fun c hc hok => ?policy⟩,
    fun s c before fresh => ⟨fun h => ?lowered, fun h => ?kept⟩, fun s dt tag body hs hlength => ?budget,
    fun s dt tag n hs => ⟨fun hn => ?noChannel, fun c hc => ?status⟩⟩
  case refused =>
    have hl : RequestKind.powerPolicy.lengthOk body = true := by simp [RequestKind.lengthOk, hlength]
    exact exec_of_handler (k := .powerPolicy) rfl hs hl (powerPolicyHandler_refused hbad _)
  case policy =>
    have hl : RequestKind.powerPolicy.lengthOk body = true := by simp [RequestKind.lengthOk, hlength]
    intro v limit policy leaves turns waits named turned follows
    set u := arrived s dt body with hu
    set x := named.modeChanged c v.policy.mode with hx
    have hset : follows x := by
      have hanswer := exec_of_handler (i := .powerPolicy dt tag body) (k := .powerPolicy) rfl hs hl
        (powerPolicyHandler_of_inRange hc hok.2 _)
      have hfresh : decide (policy.action ≠ v.policy.action) = (policy.action != v.policy.action) := by
        rw [Bool.eq_iff_iff, decide_eq_true_eq, bne_iff_ne]
      change _ = Host.Outcome.next (replied (x.policyRations c u.maxLevel (decide (policy.action ≠ v.policy.action))) _ _ _ _)
      rw [hanswer, hfresh]
      rfl
    have hnamed : named.channel c = { v with policy := policy } := Four.get_set_same ..
    have hmode : (named.channel c).policy.mode = policy.mode := by rw [hnamed]
    have hstate : (named.channel c).state = v.state := by rw [hnamed]
    have hwaiting : (named.channel c).waiting = v.waiting := by rw [hnamed]
    have hintent : (named.channel c).intent = v.intent := by rw [hnamed]
    have hleaves (h : leaves) : x = if u.supply = .good then named.enterActive c else named.enterOff c true := by
      obtain ⟨hold, hnew, hdetect⟩ := h
      exact modeChanged_leaves hold (hmode.trans hnew) (hstate.trans hdetect)
    have hturned : named.modChannel c (fun v => { v with removalRun := 0 }) = turned :=
      modChannel_modChannel u c (fun v => { v with policy := policy }) (fun v => { v with removalRun := 0 })
    have hturns (h : turns) : x = if v.state = .off ∧ v.waiting = true ∧ v.intent = true then
        if u.thermal = .shutdown then turned.enterFault c .thermal else turned.enterDetect c else turned := by
      have hturn := modeChanged_turns (s := named) h.1 (hmode.trans h.2)
      rw [hstate, hwaiting, hintent, hturned] at hturn
      exact hturn
    have helse (hl : ¬ leaves) (ht : ¬ turns) : x = named := by
      refine modeChanged_else (fun h => hl ?_) (fun h => ht ?_)
      · rw [hmode, hstate] at h
        exact h
      · rw [hmode] at h
        exact h
    have hfollows {y : State} (h : x = y) : follows y := h ▸ hset
    refine ⟨fun h hgood => hfollows ((hleaves h).trans (if_pos hgood)),
      fun h hgood => hfollows ((hleaves h).trans (if_neg hgood)),
      fun h hthermal => hfollows ((hturns h.1).trans ((if_pos h.2).trans (if_neg hthermal))),
      fun h hthermal => hfollows ((hturns h.1).trans ((if_pos h.2).trans (if_pos hthermal))),
      fun h hwaits => hfollows ((hturns h).trans (if_neg fun hw => hwaits ⟨h, hw⟩)),
      fun hl ht => hfollows (helse hl ht), ?_⟩
    set t := x.policyRations c u.maxLevel (decide (policy.action ≠ v.policy.action)) with ht
    have hlevel : LevelOnly x t := policyRations_levelOnly ..
    have hmodes : ModeOnly c named x := modeChanged_modeOnly ..
    obtain ⟨ra, pb, lb, fl, hchannel⟩ := hlevel.channel c
    obtain ⟨lv, ot, ut, ns, cs, ls, hparts⟩ := hlevel.parts
    obtain ⟨w, l, ns', honly⟩ := hmodes.only
    have hturnedChannel : turned.channel c = { v with policy := policy, removalRun := 0 } := Four.get_set_same ..
    have hwaits (h : waits) : x = if u.thermal = .shutdown then turned.enterFault c .thermal else turned.enterDetect c :=
      (hturns h.1).trans (if_pos h.2)
    refine ⟨_, hset, rfl, ?policySet, ?cap, ?intent, fun hl hw => ?same, fun h hgood => ?active, fun h hgood => ?off,
      fun h hthermal => ?detect, fun h hthermal => ?fault, ?level, hlevel.rationed, fun c' hc' => ?others, ?budgetSame,
      ?outputs, ?streams, ?store, ?aliases, ?mode⟩
    case policySet => exact (congrArg Channel.policy hchannel).trans (hmodes.policy.trans (congrArg Channel.policy hnamed))
    case cap => exact (congrArg Channel.cap hchannel).trans (hmodes.cap.trans (by rw [hnamed]))
    case intent => exact (congrArg Channel.intent hchannel).trans (hmodes.intent.trans (by rw [hnamed]))
    case same =>
      have hx' : x.channel c = { v with policy := policy, removalRun := (x.channel c).removalRun } := by
        by_cases hturn : turns
        · rw [(hturns hturn).trans (if_neg fun hw' => hw ⟨hturn, hw'⟩), hturnedChannel]
        · rw [helse hl hturn, hnamed]
      change (t.channel c).state = _ ∧ (t.channel c).waiting = _ ∧ (t.channel c).faults = _
      rw [hchannel, hx']
      exact ⟨rfl, rfl, rfl⟩
    case active =>
      change (t.channel c).state = _
      rw [hchannel, (hleaves h).trans (if_pos hgood), channel_enterActive]
      rfl
    case off =>
      change (t.channel c).state = _ ∧ (t.channel c).waiting = _
      rw [hchannel, (hleaves h).trans (if_neg hgood), channel_enterOff]
      exact ⟨rfl, rfl⟩
    case detect =>
      change (t.channel c).state = _
      rw [hchannel, (hwaits h).trans (if_neg hthermal), channel_enterDetect]
      rfl
    case fault =>
      have hne : (turned.channel c).state ≠ .active := by
        obtain ⟨-, hoff, -⟩ := h
        rw [hturnedChannel]
        simp [hoff]
      change (t.channel c).state = _ ∧ (t.channel c).cause = _ ∧ (t.channel c).faults = _
      rw [hchannel, (hwaits h).trans (if_pos hthermal), channel_enterFault hne, hturnedChannel]
      exact ⟨rfl, rfl, rfl⟩
    case level =>
      have hsame : x.level = u.level := by rw [honly]
      exact hsame ▸ hlevel.level
    case others =>
      obtain ⟨ra', pb', lb', fl', hother⟩ := hlevel.channel c'
      have hxc : x.channel c' = u.channel c' := by
        rw [honly]
        exact (Four.get_set_ne _ _ _ _ hc').trans (Four.get_set_ne _ _ _ _ hc')
      have hxl : x.link c' = u.link c' := by
        rw [honly]
        exact Four.get_set_ne _ _ _ _ hc'
      change (t.channel c').policy = _ ∧ (t.channel c').state = _ ∧ (t.link c').state = _
      rw [hother, hlevel.link, hxc, hxl]
      exact ⟨rfl, rfl, rfl⟩
    case budgetSame =>
      change t.budget = _
      rw [hparts, honly]
    case outputs =>
      change t.outputs = _
      rw [hparts, honly]
    case streams =>
      change t.streams = _
      rw [hparts, honly]
    case store =>
      change t.store = _
      rw [hparts, honly]
    case aliases =>
      change t.aliases = _
      rw [hparts, honly]
    case mode =>
      change t.mode = _
      rw [hparts, honly]
  case lowered =>
    rw [policyRations_lowered h]
    simp only [Bool.and_eq_true, decide_eq_true_eq, Option.isSome_iff_ne_none]
  case kept =>
    rw [policyRations_kept (Nat.not_lt.mpr h)]
    simp only [overCondition_iff, total_eq]
  case budget =>
    have hl : RequestKind.powerBudget.lengthOk body = true := by simp [RequestKind.lengthOk, hlength]
    exact exec_of_handler (k := .powerBudget) rfl hs hl rfl
  case noChannel =>
    have hnone : four? (byteAt [n] 0) = none := four?_of_gt hn
    exact exec_of_handler (k := .powerStatus) rfl hs rfl (powerStatusHandler_of_none hnone _)
  case status =>
    have hsome : four? (byteAt [n] 0) = some c := four?_of_val hc
    have hstatus := exec_of_handler (i := .powerStatus dt tag [n]) (k := .powerStatus) rfl hs rfl
      (powerStatusHandler_of_some hsome _)
    rw [hstatus, State.powerBody]
    dsimp only [State.done]
    rw [modeByte, handlingByte, rationByte_code, totalBytes, total_eq]
    rfl

end Sys2Proof.Machine
end

section
/-! PROOF of RemoteRequestRules (O45) and RemoteCompletionRules (O46). -/

namespace Sys2Proof.Machine

open Sys2Proof.Claims

/-! ### Requests of the host (R140, R145, R148) -/

/-- The kind that a request's result record shows. -/
def RemoteRequest.kind : RemoteRequest → RemoteKind
  | .write _ => .write
  | .read _ => .read

/-- A request of the host that has passed the checks of its entry: BUSY, LINK_DOWN, posted, or pending. -/
theorem hostRequest_eq (s : State) (e : AliasEntry) (request : RemoteRequest) (offset : Byte) :
    s.hostRequest e request offset =
    let posted := e.posted && request.kind == .write
    let withResult (t : State) (status : ResultStatus) : State :=
      t.modLink e.link (fun v => { v with result := ⟨status, some request.kind, e.aliasNo, posted, offset, []⟩ })
    if (s.link e.link).room = false then s.refuse .busy
    else if (s.link e.link).state ≠ .up then (withResult s .linkDown).done []
    else if posted = true then (withResult (s.sendRequest e.link request .posted e.address offset) .ok).done []
    else (withResult (s.sendRequest e.link request .host e.address offset) .pending).taken [] := by
  cases request <;> rfl

/-- The link after a request has gone out with a result record. -/
def Link.requested (v : Link) (item : List Byte) (request : RemoteRequest) (origin : Origin) (r : Result) : Link := { v with
  forward := v.forward ++ [item]
  awaiting := v.awaiting ++ [⟨v.nextToggle, request, origin, 10000⟩]
  nextToggle := !v.nextToggle
  result := r }

theorem sendRequest_result (s : State) (l : Fin 4) (request : RemoteRequest) (origin : Origin) (address offset : Byte)
    (r : Result) : (s.sendRequest l request origin address offset).modLink l (fun v => { v with result := r }) =
      s.modLink l (fun v => v.requested (remoteItem v.nextToggle request address offset) request origin r) :=
  modLink_modLink ..

/-- The bytes of a request that its check covers (R212). -/
def requestBytes (toggle : Bool) (kind : RemoteKind) (address offset : Byte) (countAndData : List Byte) : List Byte :=
  [0x20#8, BitVec.ofNat 8 ((if toggle then 1 else 0) + if kind = .read then 2 else 0), address, offset] ++ countAndData

theorem remoteItem_write (toggle : Bool) (data : List Byte) (address offset : Byte) :
    remoteItem toggle (.write data) address offset =
      withCrc16 (requestBytes toggle .write address offset (byteOf data.length :: data)) := by
  cases toggle <;> rfl

theorem remoteItem_read (toggle : Bool) (count : Byte) (address offset : Byte) :
    remoteItem toggle (.read count.toNat) address offset =
      withCrc16 (requestBytes toggle .read address offset [count]) := by
  rw [remoteItem, byteOf_toNat]
  cases toggle <;> rfl

theorem findAlias_eq_none_of_forall {s : State} {a : Byte} (h : ∀ x ∈ s.aliases, x.aliasNo ≠ a) : s.findAlias a = none := by
  simpa [State.findAlias] using h

theorem findAlias_aliasNo {s : State} {a : Byte} {e : AliasEntry} (h : s.findAlias a = some e) : e.aliasNo = a := by
  simpa using List.find?_some h

/-- The result record of a request of the host. -/
def AliasEntry.record (e : AliasEntry) (request : RemoteRequest) (offset : Byte) (status : ResultStatus) : Result :=
  ⟨status, some request.kind, e.aliasNo, e.posted && request.kind == .write, offset, []⟩

theorem hostRequest_busy {s : State} {e : AliasEntry} (h : (s.link e.link).room ≠ true) (request : RemoteRequest)
    (offset : Byte) : s.hostRequest e request offset = s.refuse .busy := by
  rw [hostRequest_eq]
  exact if_pos (Bool.eq_false_iff.mpr h)

theorem hostRequest_down {s : State} {e : AliasEntry} (hroom : (s.link e.link).room = true)
    (hdown : (s.link e.link).state ≠ .up) (request : RemoteRequest) (offset : Byte) : s.hostRequest e request offset =
      (s.modLink e.link (fun v => { v with result := e.record request offset .linkDown })).done [] := by
  rw [hostRequest_eq]
  exact (if_neg (by simp [hroom])).trans (if_pos hdown)

theorem hostRequest_posted {s : State} {e : AliasEntry} (hroom : (s.link e.link).room = true)
    (hup : (s.link e.link).state = .up) {request : RemoteRequest} (hposted : (e.posted && request.kind == .write) = true)
    (offset : Byte) : s.hostRequest e request offset =
      (s.modLink e.link (fun v => v.requested (remoteItem v.nextToggle request e.address offset) request .posted
        (e.record request offset .ok))).done [] := by
  rw [hostRequest_eq, ← sendRequest_result]
  exact (if_neg (by simp [hroom])).trans ((if_neg (not_not.mpr hup)).trans (if_pos hposted))

theorem hostRequest_host {s : State} {e : AliasEntry} (hroom : (s.link e.link).room = true)
    (hup : (s.link e.link).state = .up) {request : RemoteRequest} (hposted : (e.posted && request.kind == .write) = false)
    (offset : Byte) : s.hostRequest e request offset =
      (s.modLink e.link (fun v => v.requested (remoteItem v.nextToggle request e.address offset) request .host
        (e.record request offset .pending))).taken [] := by
  rw [hostRequest_eq, ← sendRequest_result]
  exact (if_neg (by simp [hroom])).trans ((if_neg (not_not.mpr hup)).trans (if_neg (ne_true_of_eq_false hposted)))

theorem remoteWriteHandler_refused {body : List Byte} {s : State} (h : body.drop 3 = [] ∨ 32 < (body.drop 3).length ∨
    (byteAt body 0).toNat = 0 ∨ 127 < (byteAt body 0).toNat ∨ ∀ x ∈ s.aliases, x.aliasNo ≠ byteAt body 0) :
    remoteWriteHandler body s = s.refuse .badArg := by
  unfold remoteWriteHandler
  dsimp only
  split
  next hok =>
    obtain ⟨hrange, hone, hmax⟩ := hok
    rw [aliasInRange_iff] at hrange
    have hnone : s.findAlias (byteAt body 0) = none := by
      refine findAlias_eq_none_of_forall ?_
      rcases h with h | h | h | h | h
      · rw [h] at hone
        cases hone
      · omega
      · omega
      · omega
      · exact h
    split
    next => rfl
    next e he => exact absurd (hnone.symm.trans he) nofun
  next => rfl

theorem remoteReadHandler_refused {body : List Byte} {s : State} (h : (byteAt body 2).toNat = 0 ∨
    32 < (byteAt body 2).toNat ∨ (byteAt body 0).toNat = 0 ∨ 127 < (byteAt body 0).toNat ∨
    ∀ x ∈ s.aliases, x.aliasNo ≠ byteAt body 0) : remoteReadHandler body s = s.refuse .badArg := by
  unfold remoteReadHandler
  dsimp only
  split
  next hok =>
    obtain ⟨hrange, hone, hmax⟩ := hok
    rw [aliasInRange_iff] at hrange
    have hnone : s.findAlias (byteAt body 0) = none := by
      refine findAlias_eq_none_of_forall ?_
      rcases h with h | h | h | h | h
      · omega
      · omega
      · omega
      · omega
      · exact h
    split
    next => rfl
    next e he => exact absurd (hnone.symm.trans he) nofun
  next => rfl

theorem remoteWriteHandler_of_alias {a offset n : Byte} {data : List Byte} {s : State} {e : AliasEntry}
    (hone : 1 ≤ data.length) (hmax : data.length ≤ 32) (ha : 1 ≤ a.toNat ∧ a.toNat ≤ 127) (he : s.findAlias a = some e) :
    remoteWriteHandler (a :: offset :: n :: data) s = s.hostRequest e (.write data) offset := by
  have hanswer : remoteWriteHandler (a :: offset :: n :: data) s = match s.findAlias a with
      | none => s.refuse .badArg
      | some e => s.hostRequest e (.write data) offset := if_pos ⟨(aliasInRange_iff a).mpr ha, hone, hmax⟩
  rw [hanswer, he]

theorem remoteReadHandler_of_alias {a offset count : Byte} {s : State} {e : AliasEntry} (hone : 1 ≤ count.toNat)
    (hmax : count.toNat ≤ 32) (ha : 1 ≤ a.toNat ∧ a.toNat ≤ 127) (he : s.findAlias a = some e) :
    remoteReadHandler [a, offset, count] s = s.hostRequest e (.read count.toNat) offset := by
  have hanswer : remoteReadHandler [a, offset, count] s = match s.findAlias a with
      | none => s.refuse .badArg
      | some e => s.hostRequest e (.read count.toNat) offset := if_pos ⟨(aliasInRange_iff a).mpr ha, hone, hmax⟩
  rw [hanswer, he]

theorem lengthOk_remoteWrite (a offset : Byte) {data : List Byte} (h : data.length ≤ 245) :
    RequestKind.remoteWrite.lengthOk ([a, offset, BitVec.ofNat 8 data.length] ++ data) = true := by
  have hcount : (byteAt ([a, offset, BitVec.ofNat 8 data.length] ++ data) 2).toNat = data.length := by
    rw [show byteAt ([a, offset, BitVec.ofNat 8 data.length] ++ data) 2 = BitVec.ofNat 8 data.length from rfl,
      BitVec.toNat_ofNat, Nat.mod_eq_of_lt (by omega)]
  simp only [RequestKind.lengthOk, hcount]
  simp
  omega

/-- Settles O45. -/
theorem remoteRequestRules : Obligations.RemoteRequestRules := by
  unfold Obligations.RemoteRequestRules
  refine ⟨fun s dt tag a offset data hs hlength => ⟨fun hdata => ?writeSize, fun hne hmax => ⟨fun halias => ?writeRefused,
      fun e hone hrange he => ?write⟩⟩,
    fun s dt tag a offset count hs => ⟨fun hcount => ?readSize, fun hne hmax => ⟨fun halias => ?readRefused,
      fun e hone hrange he => ?read⟩⟩⟩
  case writeSize =>
    have hl : RequestKind.remoteWrite.lengthOk ([a, offset, BitVec.ofNat 8 data.length] ++ data) = true :=
      lengthOk_remoteWrite a offset hlength
    exact exec_of_handler (k := .remoteWrite) rfl hs hl (remoteWriteHandler_refused (or_assoc.mp (.inl hdata)))
  case writeRefused =>
    have hl := lengthOk_remoteWrite a offset hlength
    exact exec_of_handler (k := .remoteWrite) rfl hs hl (remoteWriteHandler_refused (.inr (.inr halias)))
  case write =>
    have hl := lengthOk_remoteWrite a offset hlength
    obtain rfl := findAlias_aliasNo he
    have hanswer := remoteWriteHandler_of_alias (offset := offset) (n := BitVec.ofNat 8 data.length) (data := data)
      (List.length_pos_iff.mpr hne) hmax ⟨hone, hrange⟩ he
    refine ⟨fun hroom => ?busy, fun hroom hdown => ?down, fun hroom hup hposted => ?posted, fun hroom hup hposted => ?host⟩
    case busy =>
      exact exec_of_handler (k := .remoteWrite) rfl hs hl (hanswer.trans (hostRequest_busy (mt room_eq_true.mp hroom) ..))
    case down =>
      exact exec_of_handler (k := .remoteWrite) rfl hs hl
        (hanswer.trans (hostRequest_down (room_eq_true.mpr hroom) hdown ..))
    case posted =>
      have hsent := hanswer.trans (hostRequest_posted (request := .write data) (room_eq_true.mpr hroom) hup hposted _)
      simp only [remoteItem_write] at hsent
      exact exec_of_handler (k := .remoteWrite) rfl hs hl hsent
    case host =>
      have hsent := hanswer.trans (hostRequest_host (request := .write data) (room_eq_true.mpr hroom) hup hposted _)
      simp only [remoteItem_write] at hsent
      exact exec_of_handler (k := .remoteWrite) rfl hs hl hsent
  case readSize =>
    refine exec_of_handler (k := .remoteRead) rfl hs rfl (remoteReadHandler_refused ?_)
    obtain rfl | hlong := hcount
    · exact .inl rfl
    · exact .inr (.inl hlong)
  case readRefused =>
    exact exec_of_handler (k := .remoteRead) rfl hs rfl
      (remoteReadHandler_refused (body := [a, offset, count]) (s := arrived s dt [a, offset, count]) (.inr (.inr halias)))
  case read =>
    obtain rfl := findAlias_aliasNo he
    have hpos : 1 ≤ count.toNat := Nat.pos_of_ne_zero fun h => hne (byte_eq_of_toNat h)
    have hanswer := remoteReadHandler_of_alias (offset := offset) hpos hmax ⟨hone, hrange⟩ he
    refine ⟨fun hroom => ?busy, fun hroom hdown => ?down, fun hroom hup hposted => ?posted, fun hroom hup hposted => ?host⟩
    case busy =>
      exact exec_of_handler (k := .remoteRead) rfl hs rfl (hanswer.trans (hostRequest_busy (mt room_eq_true.mp hroom) ..))
    case down =>
      exact exec_of_handler (k := .remoteRead) rfl hs rfl
        (hanswer.trans (hostRequest_down (room_eq_true.mpr hroom) hdown ..))
    case posted =>
      have hsent := hanswer.trans (hostRequest_posted (request := .read count.toNat) (room_eq_true.mpr hroom) hup hposted _)
      simp only [remoteItem_read] at hsent
      exact exec_of_handler (k := .remoteRead) rfl hs rfl hsent
    case host =>
      have hsent := hanswer.trans (hostRequest_host (request := .read count.toNat) (room_eq_true.mpr hroom) hup hposted _)
      simp only [remoteItem_read] at hsent
      exact exec_of_handler (k := .remoteRead) rfl hs rfl hsent

/-! ### What leaves the awaiting list (R142 to R146) -/

/-- A request whose link stands at v leaves the list with an outcome (R143, R145, R147). -/
def Delivered (s : State) (l : Fin 4) (v : Link) (e : Awaiting) (outcome : ResultStatus) (data : List Byte)
    (t : State) : Prop :=
  (e.origin = .host → t = (s.setLink l { v with result := { v.result with
    status := outcome
    data := match outcome, e.request with
      | .ok, .read _ => data
      | _, _ => [] } }).post .remoteDone l.val) ∧
  (e.origin = .posted →
    t = s.setLink l { v with postedErrors := if outcome = .ok then v.postedErrors else bump v.postedErrors }) ∧
  (e.origin = .ration → t = { s.setLink l v with channels := s.channels.set l { s.channel l with
    failedWrites := if outcome = .ok then (s.channel l).failedWrites else bump (s.channel l).failedWrites } })

theorem setLink_modLink (s : State) (l : Fin 4) (v : Link) (f : Link → Link) :
    (s.setLink l v).modLink l f = s.setLink l (f v) := by
  rw [State.modLink, link_setLink, State.setLink, State.setLink, State.setLink, Four.set_set]

theorem deliver_delivered (s : State) (l : Fin 4) (v : Link) (e : Awaiting) (outcome : ResultStatus) (data : List Byte) :
    Delivered s l v e outcome data ((s.setLink l v).deliver l e outcome data) := by
  unfold State.deliver
  refine ⟨fun h => ?host, fun h => ?posted, fun h => ?ration⟩
  case host =>
    rw [h]
    exact congrArg (fun t => t.post .remoteDone l.val) (setLink_modLink s l v _)
  case posted =>
    rw [h]
    dsimp only
    split
    · rfl
    · rw [setLink_modLink]
  case ration =>
    rw [h]
    dsimp only
    unfold State.rationOutcome
    by_cases hok : outcome = .ok
    · subst hok
      exact (modChannel_self (s.setLink l v) l (fun c => { c with failedWrites := c.failedWrites }) rfl).symm
    · rw [if_neg (by simpa using hok), if_neg hok]
      rfl

theorem deliver_delivered_of (s : State) {l : Fin 4} {v : Link} {e : Awaiting} {outcome found : ResultStatus}
    {data : List Byte} (h : found = outcome) :
    Delivered s l v e outcome data ((s.setLink l v).deliver l e found data) :=
  h ▸ deliver_delivered s l v e found data

theorem setLink_link (s : State) (l : Fin 4) : s.setLink l (s.link l) = s :=
  modLink_self s l (fun v => v) rfl

theorem deliver_delivered_link (s : State) (l : Fin 4) (e : Awaiting) (outcome : ResultStatus) (data : List Byte) :
    Delivered s l (s.link l) e outcome data (s.deliver l e outcome data) := by
  have h := deliver_delivered s l (s.link l) e outcome data
  rwa [setLink_link] at h

theorem splitAtToggle_of_eq {toggle : Bool} {older newer : List Awaiting} {e : Awaiting} (he : e.toggle = toggle)
    (holder : ∀ x ∈ older, x.toggle ≠ toggle) : splitAtToggle toggle (older ++ e :: newer) = some (older, e, newer) := by
  induction older with
  | nil => simp [splitAtToggle, he]
  | cons a rest ih =>
    obtain ⟨ha, hrest⟩ := List.forall_mem_cons.mp holder
    simp [splitAtToggle, ha, ih hrest]

theorem splitAtToggle_eq_none {toggle : Bool} {l : List Awaiting} (h : ∀ x ∈ l, x.toggle ≠ toggle) :
    splitAtToggle toggle l = none := by
  induction l with
  | nil => rfl
  | cons a rest ih =>
    obtain ⟨ha, hrest⟩ := List.forall_mem_cons.mp h
    simp [splitAtToggle, ha, ih hrest]

theorem takeResponse_unknown {s : State} {l : Fin 4} {r : Response}
    (h : splitAtToggle r.toggle (s.link l).awaiting = none) :
    s.takeResponse l r = s.modLink l (fun v => { v with seqErrors := bump v.seqErrors }) := by
  rw [State.takeResponse, h]

theorem takeResponse_known {s : State} {l : Fin 4} {r : Response} {older newer : List Awaiting} {e : Awaiting}
    (h : splitAtToggle r.toggle (s.link l).awaiting = some (older, e, newer)) : s.takeResponse l r =
      ((s.setLink l { s.link l with awaiting := newer, postedErrors := bumpBy (s.link l).postedErrors older.length }).deliver
        l e (responseOutcome e.request r.ack r.data) r.data).offerRoom l := by
  rw [State.takeResponse, h]
  dsimp only
  rw [State.dropOlder, modLink_modLink]
  rfl

theorem watchdogExpired_known {s : State} {l : Fin 4} {toggle : Bool} {older newer : List Awaiting} {e : Awaiting}
    (h : splitAtToggle toggle (s.link l).awaiting = some (older, e, newer)) : s.watchdogExpired l toggle =
      ((s.setLink l { s.link l with awaiting := older ++ newer }).deliver l e .timeout []).offerRoom l := by
  rw [State.watchdogExpired, h]
  rfl

/-- A response answers its request: it echoes the bytes written, or has as many as were asked for. -/
def Awaiting.Matched (e : Awaiting) (r : Response) : Prop :=
  (∃ data, e.request = .write data ∧ r.data = data) ∨ ∃ n, e.request = .read n ∧ r.data.length = n

theorem responseOutcome_nack (request : RemoteRequest) (data : List Byte) :
    responseOutcome request false data = .nack := rfl

theorem responseOutcome_ack (e : Awaiting) (r : Response) :
    (e.Matched r → responseOutcome e.request true r.data = .ok) ∧
    (¬ e.Matched r → responseOutcome e.request true r.data = .checkError) := by
  cases hrequest : e.request <;> simp [responseOutcome, Awaiting.Matched, hrequest, eq_comm]

theorem remoteResultHandler_of_none {body : List Byte} (h : four? (byteAt body 0) = none) (s : State) :
    remoteResultHandler body s = s.refuse .badArg := by
  rw [remoteResultHandler, h]

theorem remoteResultHandler_of_some {body : List Byte} {l : Fin 4} (h : four? (byteAt body 0) = some l) (s : State) :
    remoteResultHandler body s = s.done (s.link l).result.bytes := by
  rw [remoteResultHandler, h]

theorem bytes_result (r : Result) : r.bytes =
    [BitVec.ofNat 8 r.status.code, if r.kind = none then 0xFF else if r.kind = some .write then 0 else 1, r.aliasNo,
      if r.posted then 1 else 0, r.offset, BitVec.ofNat 8 r.data.length] ++ r.data := by
  unfold Result.bytes
  cases r.kind with
  | none => rfl
  | some k => cases k <;> rfl

/-- Settles O46. -/
theorem remoteCompletionRules : Obligations.RemoteCompletionRules := by
  unfold Obligations.RemoteCompletionRules
  refine ⟨fun s dt tag n hs => ⟨fun hn => ?noLink, fun l hl => ?result⟩,
    fun s l toggle => ⟨fun h => ?noWatchdog, fun older e newer hlist he holder => ?watchdog⟩,
    fun s l r => ⟨fun h => ?noEntry, fun older e newer hlist he holder => ?response⟩,
    fun s l => ⟨fun h => ?nothing, fun e h => ?one, fun e newer h => ?two⟩⟩
  case noLink =>
    have hnone : four? (byteAt [n] 0) = none := four?_of_gt hn
    exact exec_of_handler (k := .remoteResult) rfl hs rfl (remoteResultHandler_of_none hnone _)
  case result =>
    have hsome : four? (byteAt [n] 0) = some l := four?_of_val hl
    have hread := remoteResultHandler_of_some hsome (arrived s dt [n])
    rw [bytes_result] at hread
    exact exec_of_handler (k := .remoteResult) rfl hs rfl hread
  case noWatchdog =>
    have hnone : s.watchdog l toggle = none := by rw [State.watchdog, splitAtToggle_eq_none h]; rfl
    exact congrArg Host.Outcome.next (by rw [hnone, onExpiry_none])
  case watchdog =>
    have hruns : s.watchdog l toggle = some e.watchdog := by rw [State.watchdog, hlist, splitAtToggle_of_eq he holder]; rfl
    have hawaiting : ((s.elapse e.watchdog).link l).awaiting =
        (s.link l).awaiting.map (fun x => { x with watchdog := x.watchdog - e.watchdog }) := by
      rw [link_elapse]
      rfl
    rw [hlist, List.map_append, List.map_cons] at hawaiting
    have hsplit := splitAtToggle_of_eq (toggle := toggle)
      (older := older.map (fun x => { x with watchdog := x.watchdog - e.watchdog }))
      (newer := newer.map (fun x => { x with watchdog := x.watchdog - e.watchdog }))
      (e := { e with watchdog := e.watchdog - e.watchdog }) he (by simpa using holder)
    rw [← hawaiting] at hsplit
    have hexec : exec (.remoteWatchdogExpiry l toggle) s =
        .next ((s.elapse e.watchdog).watchdogExpired l toggle) :=
      congrArg Host.Outcome.next (by rw [hruns, onExpiry_some])
    rw [hexec, watchdogExpired_known hsplit, ← List.map_append]
    exact ⟨_, rfl, deliver_delivered _ l _ { e with watchdog := e.watchdog - e.watchdog } .timeout []⟩
  case noEntry => exact takeResponse_unknown (splitAtToggle_eq_none h)
  case response =>
    have hsplit : splitAtToggle r.toggle (s.link l).awaiting = some (older, e, newer) := by
      rw [hlist]
      exact splitAtToggle_of_eq he holder
    refine ⟨_, takeResponse_known hsplit, fun hnack => ?nack, fun hack hmatched => ?ok, fun hack hmatched => ?checkError⟩
    case nack => exact deliver_delivered_of s (by rw [hnack, responseOutcome_nack])
    case ok => exact deliver_delivered_of s (by rw [hack, (responseOutcome_ack e r).1 hmatched])
    case checkError => exact deliver_delivered_of s (by rw [hack, (responseOutcome_ack e r).2 hmatched])
  case nothing => rw [State.remoteLinkLoss, h]; rfl
  case one =>
    rw [State.remoteLinkLoss, h]
    exact deliver_delivered s l { s.link l with awaiting := [] } e .linkDown []
  case two =>
    rw [State.remoteLinkLoss, h]
    exact ⟨_, deliver_delivered s l { s.link l with awaiting := [] } e .linkDown [],
      deliver_delivered_link _ l newer .linkDown []⟩

end Sys2Proof.Machine
end

section
/-! PROOF of ResetAndInit (O12) and SoftResetValues (O13). -/

namespace Sys2Proof.Machine

open Sys2Proof.Claims

/-! ### Device reset and INIT -/

/-- A bound above -40 and at most 150 is reached by the clamped reading just when the reading reaches it. -/
theorem le_clampTemperature {bound : Int} (hlow : -40 < bound) (hhigh : bound ≤ 150) (reading : Int) :
    bound ≤ clampTemperature reading ↔ bound ≤ reading := by
  unfold clampTemperature
  omega

/-- The thermal state of the first sample does not see the clamping (R19). -/
theorem thermalOfFirst_clamp (reading : Int) : thermalOfFirst (clampTemperature reading) =
    if 125 ≤ reading then .shutdown else if 105 ≤ reading then .critical else if 85 ≤ reading then .hot else .cool := by
  simp only [thermalOfFirst, le_clampTemperature (by decide : (-40 : Int) < 125) (by decide),
    le_clampTemperature (by decide : (-40 : Int) < 105) (by decide),
    le_clampTemperature (by decide : (-40 : Int) < 85) (by decide)]

/-- RESET_DONE is the one notice when the table is empty and nothing is masked. -/
theorem post_resetDone {s : State} (hmode : s.mode ≠ .init) (hnotices : s.notices = []) (hmask : s.mask = 0) :
    s.post .resetDone 0 = { s with notices := [⟨.resetDone, 0, 1⟩] } := by
  have hfree : ¬ (s.mode = .init ∨ s.masked .resetDone = true) := by simp [hmode, State.masked, hmask]
  rw [State.post, if_neg hfree, hnotices]
  rfl

/-- Settles O12. -/
theorem resetAndInit : Obligations.ResetAndInit := by
  unfold Obligations.ResetAndInit
  refine ⟨fun caps reading s => ⟨_, rfl, ?reset⟩, fun s dt failing hmode htest => ?test, fun s dt failing hmode => ?noTest,
    fun s left hleft hnotices hmask => ?ends, fun s hstopped => ?stopped⟩
  case reset =>
    exact ⟨rfl, rfl, rfl, rfl, rfl, rfl, rfl, rfl, rfl, rfl, rfl, thermalOfFirst_clamp reading, rfl,
      fun _ => Eight.get_fill .., rfl, fun _ => Four.get_fill .., fun _ => Four.get_fill ..,
      deviceReset_channel s caps reading, rfl, rfl, rfl, rfl, rfl, rfl⟩
  case test => exact congrArg Host.Outcome.next (if_pos ⟨hmode, htest⟩)
  case noTest => exact congrArg Host.Outcome.next (if_neg fun h => hmode h.1)
  case ends =>
    have hexec : exec .initExpiry s = .next (s.elapse left).endInit :=
      congrArg Host.Outcome.next (by rw [hleft, onExpiry_some])
    exact ⟨_, hexec.trans (congrArg Host.Outcome.next (post_resetDone (nofun : Mode.standby ≠ .init) hnotices hmask)), rfl, rfl⟩
  case stopped => exact congrArg Host.Outcome.next (by rw [hstopped, onExpiry_none])

/-! ### SOFT_RESET -/

theorem bumpBy_zero (c : Half) : bumpBy c 0 = c := by
  unfold bumpBy
  apply BitVec.eq_of_toNat_eq
  have := c.isLt
  rw [BitVec.toNat_ofNat]
  omega

theorem bumpBy_bump (c : Half) (n : Nat) : bumpBy (bump c) n = bumpBy c (n + 1) := by
  unfold bumpBy bump
  have hlt := c.isLt
  split
  next hc => subst hc; congr 1; simp
  next hc =>
    have hne : c.toNat ≠ 65535 := fun h => hc (BitVec.eq_of_toNat_eq h)
    have hsum : (c + 1).toNat = c.toNat + 1 := by rw [BitVec.toNat_add]; simp; omega
    rw [hsum, Nat.add_right_comm, Nat.add_assoc]

/-- The ration writes of a list. -/
def rationCount (l : List Awaiting) : Nat := (l.filter (fun e => e.origin == .ration)).length

/-- An entry that leaves the list at a link loss counts as a failed write if it was a ration write (R146, R147). -/
theorem deliver_linkDown_channel (s : State) (l : Fin 4) (e : Awaiting) :
    (s.deliver l e .linkDown []).channel l = { s.channel l with
      failedWrites := bumpBy (s.channel l).failedWrites (rationCount [e]) } := by
  unfold State.deliver
  cases horigin : e.origin with
  | host => simp [rationCount, horigin, bumpBy_zero]
  | posted => simp [rationCount, horigin, bumpBy_zero]
  | ration =>
    have hcount : rationCount [e] = 0 + 1 := by simp [rationCount, horigin]
    rw [hcount, ← bumpBy_bump, bumpBy_zero]
    exact channel_modChannel s l (fun c => { c with failedWrites := bump c.failedWrites })

theorem bumpBy_bumpBy (c : Half) (m n : Nat) : bumpBy (bumpBy c m) n = bumpBy c (m + n) := by
  unfold bumpBy
  congr 1
  rw [BitVec.toNat_ofNat]
  omega

theorem rationCount_cons (e : Awaiting) (rest : List Awaiting) :
    rationCount (e :: rest) = rationCount [e] + rationCount rest := by
  unfold rationCount
  rw [← List.length_append, ← List.filter_append]
  rfl

theorem remoteLinkLoss_channel (s : State) (l : Fin 4) : (s.remoteLinkLoss l).channel l = { s.channel l with
    failedWrites := bumpBy (s.channel l).failedWrites (rationCount (s.link l).awaiting) } := by
  unfold State.remoteLinkLoss
  rw [← channel_modLink s l (fun v => { v with awaiting := [] }) l]
  generalize s.modLink l (fun v => { v with awaiting := [] }) = t
  induction (s.link l).awaiting generalizing t with
  | nil => rw [rationCount, List.filter_nil, List.length_nil, bumpBy_zero]; rfl
  | cons e rest ih =>
    rw [List.foldl_cons, ih, deliver_linkDown_channel, bumpBy_bumpBy, ← rationCount_cons]

theorem leaveUp_channel (s : State) (l : Fin 4) : (s.leaveUp l).channel l = { s.channel l with
    failedWrites := bumpBy (s.channel l).failedWrites (rationCount (s.link l).awaiting) } := by
  rw [State.leaveUp, State.emptyQueue, State.setQueue, channel_modLink, channel_modOutput, remoteLinkLoss_channel,
    channel_modLink, link_modLink]

theorem linkSoftReset_channel (s : State) (l : Fin 4) : (s.linkSoftReset l).channel l = { s.channel l with
    failedWrites := bumpBy (s.channel l).failedWrites
      (if (s.link l).state = .up then rationCount (s.link l).awaiting else 0) } := by
  rw [State.linkSoftReset, channel_modLink]
  split
  · exact leaveUp_channel s l
  · rw [bumpBy_zero]

theorem linkSoftReset_link_forward (s : State) (l : Fin 4) :
    (s.linkSoftReset l).link l = { Link.reset with forward := (s.link l).forward } := by
  rw [State.linkSoftReset, link_modLink]
  split
  · obtain ⟨rs, pe, hlink⟩ := leaveUp_link s l
    rw [hlink]
  · rfl

/-- A change of links, channels, outputs and the Notice Table alone. -/
def LinksOnly (s t : State) : Prop :=
  ∃ ls os cs ns, t = { s with links := ls, outputs := os, channels := cs, notices := ns }

theorem LinksOnly.refl (s : State) : LinksOnly s s := ⟨s.links, s.outputs, s.channels, s.notices, rfl⟩

theorem LinksOnly.trans {s t u : State} (h : LinksOnly s t) (g : LinksOnly t u) : LinksOnly s u := by
  obtain ⟨ls, os, cs, ns, rfl⟩ := h
  obtain ⟨ls', os', cs', ns', rfl⟩ := g
  exact ⟨ls', os', cs', ns', rfl⟩

theorem LinkOnly.linksOnly {l : Fin 4} {s t : State} (h : LinkOnly l s t) : LinksOnly s t := by
  obtain ⟨w, os, pb, lb, fl, ns, rfl⟩ := h
  exact ⟨_, os, _, ns, rfl⟩

theorem linkSoftResets_linksOnly (s : State) : LinksOnly s (forEach allFour (fun l t => t.linkSoftReset l) s) :=
  forEach_keeps .refl (fun _ _ _ => .trans) (fun l t => (linkSoftReset_only t l).linksOnly) allFour s

theorem rationCount_elapse (v : Link) (dt : Nat) : rationCount (v.elapse dt).awaiting = rationCount v.awaiting := by
  simp [rationCount, Link.elapse, List.filter_map, Function.comp_def]

/-- Settles O13. -/
theorem softResetValues : Obligations.SoftResetValues := by
  unfold Obligations.SoftResetValues
  refine fun s dt tag hs => ?_
  have hpost : (forEach allFour (fun l t => t.linkSoftReset l) (arrived s dt [])).cleared.post .resetDone 0 = _ :=
    post_resetDone (nofun : Mode.standby ≠ .init) rfl rfl
  refine ⟨_, exec_of_handler (k := .softReset) rfl hs rfl (congrArg (fun t : State => t.done []) hpost), ?_⟩
  have hat (l : Fin 4) := forEach_allFour_at linkSoftReset_visitsOne (arrived s dt []) l
  obtain ⟨ls, os, cs, ns, heq⟩ := linkSoftResets_linksOnly (arrived s dt [])
  generalize forEach allFour (fun l t => t.linkSoftReset l) (arrived s dt []) = t at *
  have hlinks (l : Fin 4) : t.link l = { Link.reset with forward := (s.link l).forward } := by
    obtain ⟨x, hx, hend⟩ := hat l
    rw [hend.2, linkSoftReset_link_forward, hx.2]
    exact congrArg (fun v : Link => { Link.reset with forward := v.forward }) (link_elapse s dt l)
  have hchannels (c : Fin 4) : t.channel c = { (s.elapse dt).channel c with
        failedWrites := bumpBy (s.channel c).failedWrites
          (if (s.link c).state = .up then ((s.link c).awaiting.filter (fun e => e.origin == .ration)).length else 0) } := by
    obtain ⟨x, hx, hend⟩ := hat c
    have hlink : (arrived s dt []).link c = (s.link c).elapse dt := link_elapse s dt c
    have hchannel : (arrived s dt []).channel c = (s.channel c).elapse dt := channel_elapse s dt c
    rw [hend.1, linkSoftReset_channel, hx.1, hx.2, hlink, hchannel, channel_elapse, rationCount_elapse]
    rfl
  subst heq
  exact ⟨rfl, rfl, rfl, rfl, rfl, rfl, rfl, fun _ => Eight.get_fill .., rfl, fun _ => Four.get_fill .., hlinks, hchannels,
    rfl, rfl, rfl, rfl, rfl, rfl, rfl, rfl, rfl, rfl⟩

end Sys2Proof.Machine
end

section
/-! PROOF of PacketsThrownAway (O20), LineRules (O23) and FrameEndRules (O24): the screening of packets, a line, and how a
frame ends. -/

namespace Sys2Proof.Machine

open Sys2Proof.Claims

/-! ### Screening (R33, R210) -/

theorem eight?_of_val {b : Byte} {i : Fin 8} (h : i.val = b.toNat) : eight? b = some i := by
  rw [eight?, dif_pos (h ▸ i.isLt)]
  exact congrArg some (Fin.ext h.symm)

theorem eight?_of_gt {b : Byte} (h : 7 < b.toNat) : eight? b = none := dif_neg (by omega)

/-- No open stream has the packet's stream number. -/
def Unopened (s : State) (stream : Byte) : Prop := ∀ i : Fin 8, i.val = stream.toNat → s.stream i = none

theorem unopened_iff {s : State} {stream : Byte} :
    Unopened s stream ↔ eight? stream = none ∨ ∃ i, eight? stream = some i ∧ s.stream i = none := by
  by_cases hlt : stream.toNat < 8
  · have hsome : eight? stream = some ⟨stream.toNat, hlt⟩ := dif_pos hlt
    refine ⟨fun h => .inr ⟨_, hsome, h _ rfl⟩, fun h i hi => ?_⟩
    obtain hnone | ⟨j, hj, hclosed⟩ := h
    · rw [hsome] at hnone
      cases hnone
    · obtain rfl := Option.some.inj ((eight?_of_val hi).symm.trans hj)
      exact hclosed
  · exact ⟨fun _ => .inl (dif_neg hlt), fun _ i hi => absurd (hi ▸ i.isLt) hlt⟩

theorem Unopened.elapse {s : State} {stream : Byte} (h : Unopened s stream) (dt : Nat) : Unopened (s.elapse dt) stream :=
  fun i hi => by rw [stream_elapse, h i hi]; rfl

theorem strayPacket_awake {s : State} (h : s.mode ≠ .sleep) : s.strayPacket = { s with stray := bump s.stray } :=
  if_neg h

theorem takePacket_sleep {s : State} (h : s.mode = .sleep) (p : Packet) : s.takePacket p = s := if_pos h

theorem takePacket_stray {s : State} (h : s.mode ≠ .sleep) : s.takePacket .stray = { s with stray := bump s.stray } :=
  (if_neg h).trans (strayPacket_awake h)

/-- A frame packet without an open stream is stray. -/
theorem takePacket_unopened {s : State} {stream : Byte} (h : s.mode ≠ .sleep) (hclosed : Unopened s stream)
    (number index count crc : Half) (pixels : List Byte) :
    s.takePacket (.frameStart stream number) = { s with stray := bump s.stray } ∧
    s.takePacket (.line stream index count pixels crc) = { s with stray := bump s.stray } ∧
    s.takePacket (.frameEnd stream count) = { s with stray := bump s.stray } := by
  obtain hnone | ⟨i, hi, hnone⟩ := unopened_iff.mp hclosed
  · simp [State.takePacket, h, hnone, strayPacket_awake h]
  · simp [State.takePacket, h, hi, hnone, strayPacket_awake h]

section
variable {s : State} {stream : Byte} {i : Fin 8} {r : Stream} (hmode : s.mode ≠ .sleep) (hi : i.val = stream.toNat)
  (hr : s.stream i = some r)
include hmode hi hr

theorem takePacket_frameStart (number : Half) : s.takePacket (.frameStart stream number) = s.startFrame i number := by
  simp [State.takePacket, hmode, eight?_of_val hi, hr]

theorem takePacket_line {f : Incoming} (hf : r.state = .receiving f) (index count crc : Half) (pixels : List Byte) :
    s.takePacket (.line stream index count pixels crc) = s.takeLine i r f index count pixels crc := by
  simp [State.takePacket, hmode, eight?_of_val hi, hr, hf]

theorem takePacket_frameEnd {f : Incoming} (hf : r.state = .receiving f) (count : Half) :
    s.takePacket (.frameEnd stream count) = s.takeFrameEnd i r f count := by
  simp [State.takePacket, hmode, eight?_of_val hi, hr, hf]

/-- The lines and ends of a frame that is not being received change nothing. -/
theorem takePacket_not_receiving (hstate : r.state = .idle ∨ r.state = .fixed) (index count crc : Half)
    (pixels : List Byte) : s.takePacket (.line stream index count pixels crc) = s ∧
      s.takePacket (.frameEnd stream count) = s := by
  obtain h | h := hstate <;> simp [State.takePacket, hmode, eight?_of_val hi, hr, h]
end

theorem byte_toNat_eq_iff {b : Byte} {n : Nat} (h : n < 256) : b.toNat = n ↔ b = BitVec.ofNat 8 n := by
  rw [← BitVec.toNat_inj, BitVec.toNat_ofNat, Nat.mod_eq_of_lt h]

/-- R210: the packets that no kind fits. -/
theorem readPacket_eq_stray (bytes : List Byte) : readPacket bytes = .stray ↔
    (bytes.length < 4 ∨ byteAt bytes 0 ∉ ([1, 2, 3] : List Byte) ∨ (byteAt bytes 0 = 2 ∧ bytes.length < 8)) := by
  have hkind (n : Nat) (h : n < 256) := byte_toNat_eq_iff (b := byteAt bytes 0) h
  unfold readPacket
  dsimp only
  split
  next h1 =>
    rw [hkind 1 (by decide)] at h1
    simp [h1]
  next h2 =>
    rw [hkind 2 (by decide)] at h2
    by_cases hshort : bytes.length < 8
    · simp [h2, hshort]
    · simp [h2, hshort]
      omega
  next h3 =>
    rw [hkind 3 (by decide)] at h3
    simp [h3]
  next h1 h2 h3 =>
    have hnot : byteAt bytes 0 ∉ ([1, 2, 3] : List Byte) := by
      simp only [List.mem_cons, List.not_mem_nil, or_false, not_or]
      exact ⟨fun h => h1 ((hkind 1 (by decide)).mpr h), fun h => h2 ((hkind 2 (by decide)).mpr h),
        fun h => h3 ((hkind 3 (by decide)).mpr h)⟩
    exact iff_of_true rfl (.inr (.inl hnot))

/-- Settles O20. -/
theorem packetsThrownAway : Obligations.PacketsThrownAway := by
  unfold Obligations.PacketsThrownAway
  refine ⟨readPacket_eq_stray, fun s dt stream number index count crc pixels bytes => ⟨fun hsleep => ?sleep,
    fun hmode hstray => ?unread, fun hmode hclosed => ?closed, fun i r hmode hi hr hstate => ?idle⟩⟩
  case sleep =>
    have hpacket (p : Packet) : (.next ((s.elapse dt).takePacket p) : Host.Outcome State Fault Refusal) =
        .next (s.elapse dt) := congrArg Host.Outcome.next (takePacket_sleep (s := s.elapse dt) hsleep p)
    exact ⟨hpacket _, hpacket _, hpacket _, hpacket _⟩
  case unread =>
    refine congrArg Host.Outcome.next ?_
    rw [hstray]
    exact takePacket_stray (s := s.elapse dt) hmode
  case closed =>
    obtain ⟨hstart, hline, hend⟩ := takePacket_unopened (s := s.elapse dt) hmode (Unopened.elapse hclosed dt) number index
      count crc pixels
    exact ⟨congrArg Host.Outcome.next hstart, congrArg Host.Outcome.next hline, congrArg Host.Outcome.next hend⟩
  case idle =>
    have hstream : (s.elapse dt).stream i = some r := by
      obtain h | h := hstate <;> simp [stream_elapse, hr, Stream.elapse, h]
    obtain ⟨hline, hend⟩ := takePacket_not_receiving (s := s.elapse dt) hmode hi hstream hstate index count crc pixels
    exact ⟨congrArg Host.Outcome.next hline, congrArg Host.Outcome.next hend⟩

/-! ### A line (R40 to R42) -/

theorem bne_eq_decide_ne (a b : Nat) : (a != b) = decide (a ≠ b) := by
  by_cases h : a = b <;> simp [h]

theorem eight_set_set {α : Type} (v : Eight α) (i : Fin 8) (a b : α) : (v.set i a).set i b = v.set i b := by
  fin_cases i <;> rfl

theorem setStream_setStream (s : State) (i : Fin 8) (a b : Option Stream) :
    (s.setStream i a).setStream i b = s.setStream i b := by
  simp [State.setStream, eight_set_set]

/-- A line error is counted on a stream whose record has just been written. -/
theorem countLineError_setStream (s : State) (i : Fin 8) (r : Stream) :
    (s.setStream i (some r)).countLineError i =
      let counted := s.setStream i (some { r with counts := { r.counts with lineErrors := bump r.counts.lineErrors } })
      if r.counts.lineErrors.toNat ≤ r.config.lineThreshold ∧ r.config.lineThreshold < (bump r.counts.lineErrors).toNat then
        counted.post .streamErrors i.val else counted := by
  simp only [State.countLineError, stream_setStream, setStream_setStream]

theorem lineBad_iff (bytes : Nat) (count : Half) (pixels : List Byte) (crc : Half) :
    lineBad bytes count pixels crc = true ↔
      crc16 pixels ≠ crc ∨ count.toNat ≠ pixels.length / bytes ∨ pixels.length % bytes ≠ 0 := by
  simp [lineBad, or_assoc]

/-- Settles O23. -/
theorem lineRules : Obligations.LineRules := by
  unfold Obligations.LineRules
  intro s dt stream index count crc pixels i r f hmode hi hr hf u k p lineBytes segs carried bad errors noticed line filled
    written
  have hline : line = .next (u.takeLine i r f index count pixels crc) :=
    congrArg Host.Outcome.next (takePacket_line (s := u) hmode hi hr hf index count crc pixels)
  have hbad : lineBad p count pixels crc = true ↔ bad := lineBad_iff ..
  rw [hline]
  unfold State.takeLine
  refine ⟨fun hout => congrArg Host.Outcome.next ?outside, fun hlow hhigh => ?inside⟩
  case outside => exact (if_pos hout).trans (countLineError_setStream ..)
  case inside =>
    have hin : ¬ (index.toNat < f.expected ∨ r.config.height ≤ index.toNat) := by omega
    have hshort : (pixels.length / r.config.format.bytes != r.config.width) = decide (carried ≠ r.config.width) :=
      bne_eq_decide_ne ..
    have hfault : (lineBad r.config.format.bytes count pixels crc || decide (carried ≠ r.config.width) ||
        f.expected != index.toNat) = true ↔ bad ∨ carried ≠ r.config.width ∨ k ≠ f.expected := by
      rw [Bool.or_eq_true, Bool.or_eq_true, hbad, decide_eq_true_iff, bne_iff_ne, or_assoc, ne_comm (a := f.expected)]
    rw [if_neg hin, hshort]
    dsimp only
    refine ⟨fun h => congrArg Host.Outcome.next ?fault, fun hgood hwidth hnext => congrArg Host.Outcome.next ?good⟩
    case fault =>
      rw [hfault.mpr h, Bool.or_true, if_pos rfl]
      exact countLineError_setStream ..
    case good =>
      have hno : ¬ (bad ∨ carried ≠ r.config.width ∨ k ≠ f.expected) := by tauto
      rw [Bool.eq_false_iff.mpr (mt hfault.mp hno), Bool.or_false, if_neg Bool.false_ne_true,
        decide_eq_false (not_not.mpr hwidth), Bool.or_false]
      rfl

/-! ### How a frame ends (R34, R43, R44) -/

/-- The state after a frame has ended (R34). -/
def State.ended (u : State) (i : Fin 8) (r : Stream) (f : Incoming) (damaged : Bool) : State :=
  let counts := { r.counts with damaged := if damaged then bump r.counts.damaged else r.counts.damaged }
  let q : Word := if r.published = 4294967295 then r.published else r.published + 1
  if damaged = true ∧ r.config.damagedPolicy = .dropDamaged then
    { u with streams := u.streams.set i (some { r with
      state := .idle, slots := r.slots.set f.slot.val .empty, counts := counts }) }
  else
    { u with
      store := fillLines u.store (u.slotSegments ⟨i, f.slot⟩) (r.config.width * r.config.format.bytes) f.expected
        (r.config.height - f.expected)
      streams := u.streams.set i (some { r with
        state := if r.config.kind = .still then .fixed else .idle
        slots := r.slots.set f.slot.val (.ready q), published := q, latest := some f.slot
        lastPublish := some u.timeBase, counts := { counts with published := bump r.counts.published } }) }

theorem dropFrame_countDamaged (r : Stream) (damaged : Bool) (j : Fin 4) : (r.countDamaged damaged).dropFrame j = { r with
    state := .idle, slots := r.slots.set j.val .empty
    counts := { r.counts with damaged := if damaged then bump r.counts.damaged else r.counts.damaged } } := by
  cases damaged <;> rfl

theorem showFrame_countDamaged (r : Stream) (damaged : Bool) (j : Fin 4) (time : Word) :
    (r.countDamaged damaged).showFrame j time = { r with
      state := if r.config.kind = .still then .fixed else .idle
      slots := r.slots.set j.val (.ready (nextPublished r.published))
      published := nextPublished r.published, latest := some j, lastPublish := some time
      counts := { r.counts with
        damaged := if damaged then bump r.counts.damaged else r.counts.damaged
        published := bump r.counts.published } } := by
  cases damaged <;> cases hkind : r.config.kind <;>
    simp [Stream.countDamaged, Stream.showFrame, Stream.publish, Stream.setSlot, hkind]

theorem endFrame_eq_ended {s : State} {i : Fin 8} {r : Stream} {f : Incoming} (hr : s.stream i = some r)
    (hf : r.state = .receiving f) (late : Bool) : s.endFrame i late = s.ended i r f (f.damaged || late) := by
  rw [endFrame_of_receiving hr hf, dropFrame_countDamaged, showFrame_countDamaged]
  rfl

/-- A change of the stream's record right before its frame ends. -/
theorem endFrame_setStream {s : State} {i : Fin 8} {r : Stream} {f : Incoming} (hf : r.state = .receiving f)
    (late : Bool) : (s.setStream i (some r)).endFrame i late = s.ended i r f (f.damaged || late) := by
  rw [endFrame_eq_ended (stream_setStream ..) hf, State.ended, State.ended]
  simp only [State.setStream, eight_set_set]
  rfl

theorem frameTimer_of_not_receiving {s : State} {i : Fin 8} (h : ∀ r f, s.stream i = some r → r.state ≠ .receiving f) :
    s.frameTimer i = none := by
  unfold State.frameTimer
  split
  next => rfl
  next r hr =>
    split
    next f hf => exact absurd hf (h r f hr)
    next => rfl
    next => rfl

/-- A change of a stream and a posting do not disturb each other. -/
theorem setStream_post (s : State) (i : Fin 8) (r : Option Stream) (k : NoticeKind) (o : Nat) :
    (s.setStream i r).post k o = (s.post k o).setStream i r := by
  unfold State.post
  by_cases h : s.mode = .init ∨ s.masked k = true
  · rw [if_pos h]
    exact if_pos h
  · rw [if_neg h]
    exact if_neg h

/-- Settles O24. -/
theorem frameEndRules : Obligations.FrameEndRules := by
  unfold Obligations.FrameEndRules
  refine ⟨fun s dt stream count i r f hmode hi hr hf => congrArg Host.Outcome.next ?ends,
    fun s i r f hr hf r' hr' => ?timeout, fun s i h => ?stopped, fun s i r f hr hf => ?late⟩
  case ends =>
    generalize hwrong' : decide (count.toNat ≠ r.config.height ∨ f.expected < r.config.height) = wrong
    have hwrong : (count.toNat != r.config.height || decide (f.expected < r.config.height)) = wrong := by
      rw [← hwrong', bne_eq_decide_ne, Bool.decide_or]
    have hend := endFrame_setStream (s := s.elapse dt) (i := i)
      (r := { r with
        state := .receiving { f with damaged := f.damaged || wrong }
        lineCount := r.lineCount || wrong }) rfl false
    rw [Bool.or_false] at hend
    rw [takePacket_frameEnd (s := s.elapse dt) hmode hi hr hf, State.takeFrameEnd, hwrong, hend]
    rfl
  case timeout =>
    obtain ⟨hstate, hclock⟩ : r'.state = .receiving { f with timeout := 0 } ∧
        (s.elapse f.timeout).stream i = some r' := by
      rw [stream_post, stream_elapse, hr, Option.map_some] at hr'
      refine ⟨?_, by rw [stream_elapse, hr]; exact hr'⟩
      obtain rfl := Option.some.inj hr'
      simp [Stream.elapse, hf]
    have hruns : s.frameTimer i = some f.timeout := by
      simp [State.frameTimer, hr, hf]
    have hexpiry : exec (.frameTimeoutExpiry i) s = .next ((s.elapse f.timeout).frameTimedOut i) :=
      congrArg Host.Outcome.next (by rw [hruns, onExpiry_some])
    rw [hexpiry, State.frameTimedOut, State.modStream, hclock, Option.map_some, setStream_post,
      endFrame_setStream (r := { r' with counts := { r'.counts with timeouts := bump r'.counts.timeouts } }) hstate,
      Bool.or_true]
    rfl
  case stopped => exact congrArg Host.Outcome.next (by rw [frameTimer_of_not_receiving h, onExpiry_none])
  case late =>
    rw [endFrame_eq_ended hr hf, Bool.or_true]
    rfl

end Sys2Proof.Machine
end

section
/-! PROOF of FrameStartRules (O22) and WriteSlotChoice (O21). -/

namespace Sys2Proof.Machine

open Sys2Proof.Claims

/-! ### Timing capture (R35, R36) -/

/-- The record after timing and frame number have been captured. -/
def Stream.captured (r : Stream) (now : Word) (number : Half) : Stream :=
  let history := match r.lastStart with
    | none => r.periods
    | some t => (if r.periods.length < 4 then r.periods else r.periods.drop 1) ++ [now - t]
  let near (p q : Word) : Bool := decide ((max p.toNat q.toNat - min p.toNat q.toNat) * 64 ≤ p.toNat)
  { r with
    periods := history
    stable := match r.lastStart with
      | none => r.stable
      | some _ => (match history with
        | [p₁, p₂, p₃, p₄] => near p₁ p₂ && near p₂ p₃ && near p₃ p₄
        | _ => false)
    counts := { r.counts with sourceGaps := match r.lastNumber with
      | none => r.counts.sourceGaps
      | some n => if number = n + 1 then r.counts.sourceGaps else bump r.counts.sourceGaps }
    lastStart := some now
    lastNumber := some number }

theorem distance_eq (a b : Nat) : b - a + (a - b) = max a b - min a b := by omega

theorem stableOf_four (p₁ p₂ p₃ p₄ : Word) : stableOf [p₁, p₂, p₃, p₄] =
    (decide ((max p₁.toNat p₂.toNat - min p₁.toNat p₂.toNat) * 64 ≤ p₁.toNat) &&
      decide ((max p₂.toNat p₃.toNat - min p₂.toNat p₃.toNat) * 64 ≤ p₂.toNat) &&
      decide ((max p₃.toNat p₄.toNat - min p₃.toNat p₄.toNat) * 64 ≤ p₃.toNat)) := by
  simp [stableOf, steadyPeriods, distance_eq, Bool.and_assoc]

theorem stableOf_eq (periods : List Word) : stableOf periods = match periods with
    | [p₁, p₂, p₃, p₄] => decide ((max p₁.toNat p₂.toNat - min p₁.toNat p₂.toNat) * 64 ≤ p₁.toNat) &&
      decide ((max p₂.toNat p₃.toNat - min p₂.toNat p₃.toNat) * 64 ≤ p₂.toNat) &&
      decide ((max p₃.toNat p₄.toNat - min p₃.toNat p₄.toNat) * 64 ≤ p₃.toNat)
    | _ => false := by
  match periods with
  | [] | [_] | [_, _] | [_, _, _] => rfl
  | [p₁, p₂, p₃, p₄] => exact stableOf_four p₁ p₂ p₃ p₄
  | _ :: _ :: _ :: _ :: _ :: _ => simp [stableOf]

/-- The gap counter at a FRAME_START (R36). -/
theorem capture_counts (r : Stream) (now : Word) (number : Half) : (r.capture now number).counts =
    { r.counts with sourceGaps := match r.lastNumber with
      | none => r.counts.sourceGaps
      | some n => if number = n + 1 then r.counts.sourceGaps else bump r.counts.sourceGaps } := by
  unfold Stream.capture
  cases r.lastStart <;> cases r.lastNumber with
  | none => rfl
  | some n =>
    by_cases h : number = n + 1
    · simp only [bne_eq_false_iff_eq.mpr h, if_pos h, Bool.false_eq_true, if_false]
    · simp only [bne_iff_ne.mpr h, if_neg h, if_true]

theorem capture_rest (r : Stream) (now : Word) (number : Half) : r.capture now number = { r.captured now number with
    counts := (r.capture now number).counts } := by
  unfold Stream.capture Stream.captured
  cases r.lastStart with
  | none => rfl
  | some t => simp only [stableOf_eq]; rfl

theorem capture_eq (r : Stream) (now : Word) (number : Half) : r.capture now number = r.captured now number := by
  rw [capture_rest, capture_counts]
  rfl

/-! ### The start of a frame (R37 to R39) -/

theorem endFrame_only (s : State) (i : Fin 8) (late : Bool) :
    ∃ m rs, s.endFrame i late = { s with store := m, streams := rs } := by
  by_cases hreceiving : ∃ r f, s.stream i = some r ∧ r.state = .receiving f
  · obtain ⟨r, f, hr, hf⟩ := hreceiving
    rw [endFrame_of_receiving hr hf]
    split
    · exact ⟨s.store, _, rfl⟩
    · exact ⟨_, _, rfl⟩
  · rw [endFrame_of_not_receiving fun r f hr hf => hreceiving ⟨r, f, hr, hf⟩]
    exact ⟨s.store, s.streams, rfl⟩

theorem startFrame_eq {s v : State} {i : Fin 8} {r x : Stream} {number : Half} (hr : s.stream i = some r)
    (hv : (s.setStream i (some (r.captured s.timeBase number))).endFrame i true = v) (hx : v.stream i = some x) :
    s.startFrame i number = if s.mode ≠ .run then v
      else if x.state = .fixed then
        v.setStream i (some { x with counts := { x.counts with refused := bump x.counts.refused } })
      else v.decimateOrBegin i x := by
  have hcaptured : (s.modStream i (fun r => r.capture s.timeBase number)).endFrame i true = v := by
    rw [State.modStream, hr, Option.map_some, capture_eq, hv]
  unfold State.startFrame
  rw [hcaptured]
  dsimp only
  rw [hx]

theorem safetySource_iff (s : State) (i : Fin 8) : s.safetySource i = true ↔
    ∃ o p, (s.output o).route.safety ≠ none ∧ (s.output o).route.source = some p ∧ p.stream = i := by
  unfold State.safetySource
  rw [List.any_eq_true]
  have hone (o : Fin 4) : ((s.output o).route.safety.isSome &&
      (match (s.output o).route.source with
        | some p => p.stream == i
        | none => false)) = true ↔
      ∃ p, (s.output o).route.safety ≠ none ∧ (s.output o).route.source = some p ∧ p.stream = i := by
    cases (s.output o).route.source <;> simp [Option.isSome_iff_ne_none]
  exact ⟨fun ⟨o, _, h⟩ => ⟨o, (hone o).mp h⟩, fun ⟨o, h⟩ => ⟨o, mem_allFour o, (hone o).mpr h⟩⟩

theorem decimates_iff (s : State) (i : Fin 8) (r : Stream) : s.decimates i r = true ↔ r.config.kind = .video ∧
    ((r.config.priority = .low ∧ (s.thermal = .hot ∨ s.thermal = .critical ∨ s.thermal = .shutdown)) ∨
      (r.config.priority = .high ∧ (s.thermal = .critical ∨ s.thermal = .shutdown) ∧ ¬ s.safetySource i = true)) := by
  unfold State.decimates
  cases r.config.kind <;> cases r.config.priority <;> cases s.thermal <;> simp

/-- What a frame that is not skipped leaves of the decimation phase (R38). -/
def Stream.decided (x : Stream) (hot : Bool) : Stream :=
  if x.config.kind = .still then x else { x with phase := if hot then .skip else .accept, decimating := hot }

theorem decimateOrBegin_skip {s : State} {i : Fin 8} {x : Stream} (hkind : x.config.kind = .video)
    (hhot : s.decimates i x = true) (hphase : x.phase = .skip) : s.decimateOrBegin i x =
      s.setStream i (some { x with
        phase := .accept, decimating := true, counts := { x.counts with decimated := bump x.counts.decimated } }) := by
  simp [State.decimateOrBegin, hkind, hhot, hphase]

theorem decimateOrBegin_begin {s : State} {i : Fin 8} {x : Stream}
    (h : x.config.kind = .still ∨ s.decimates i x = false ∨ x.phase = .accept) :
    s.decimateOrBegin i x = s.beginFrame i (x.decided (s.decimates i x)) := by
  unfold State.decimateOrBegin Stream.decided
  cases hkind : x.config.kind with
  | still => rfl
  | video =>
    cases hhot : s.decimates i x with
    | false => rfl
    | true =>
      have hphase : x.phase = .accept := by simpa [hkind, hhot] using h
      rw [hphase]
      rfl

theorem oldestReady_congr {a b : Stream} (h : a.slots = b.slots) (l : List (Fin 4)) :
    oldestReady a l = oldestReady b l := by
  have hslot (j : Fin 4) : a.slot j = b.slot j := by rw [Stream.slot, Stream.slot, h]
  induction l with
  | nil => rfl
  | cons j rest ih => rw [oldestReady, oldestReady, hslot, ih]

theorem writeSlot?_congr {a b : Stream} (hslots : a.slots = b.slots) (hlatest : a.latest = b.latest) (s : State)
    (i : Fin 8) : s.writeSlot? i a = s.writeSlot? i b := by
  simp only [State.writeSlot?, State.candidates, oldestReady_congr hslots, Stream.slot, hslots, hlatest]

theorem decided_eq (x : Stream) (hot : Bool) :
    ∃ p d, x.decided hot = { x with phase := p, decimating := d } := by
  unfold Stream.decided
  split
  · exact ⟨x.phase, x.decimating, rfl⟩
  · exact ⟨_, _, rfl⟩

theorem beginFrame_decided_some {s : State} {i : Fin 8} {x : Stream} {j : Fin 4} (h : s.writeSlot? i x = some j)
    (hot : Bool) : s.beginFrame i (x.decided hot) = s.setStream i (some { x.decided hot with
      slots := x.slots.set j.val .filling
      state := .receiving ⟨j, 0, false, x.config.timeoutMs * 1000⟩
      counts := { x.counts with accepted := bump x.counts.accepted } }) := by
  obtain ⟨p, d, hx⟩ := decided_eq x hot
  have hslot : s.writeSlot? i { x with phase := p, decimating := d } = some j :=
    (writeSlot?_congr (a := { x with phase := p, decimating := d }) (b := x) rfl rfl s i).trans h
  rw [hx, State.beginFrame, hslot]
  rfl

theorem beginFrame_decided_none {s : State} {i : Fin 8} {x : Stream} (h : s.writeSlot? i x = none)
    (hot : Bool) : s.beginFrame i (x.decided hot) = (s.setStream i (some { x.decided hot with
      counts := { x.counts with overruns := bump x.counts.overruns } })).post .streamOverrun i.val := by
  obtain ⟨p, d, hx⟩ := decided_eq x hot
  have hslot : s.writeSlot? i { x with phase := p, decimating := d } = none :=
    (writeSlot?_congr (a := { x with phase := p, decimating := d }) (b := x) rfl rfl s i).trans h
  rw [hx, State.beginFrame, hslot]

/-- Settles O22. -/
theorem frameStartRules : Obligations.FrameStartRules := by
  unfold Obligations.FrameStartRules
  intro s dt stream number i r hmode hi hr u history near captured v start
  have hv : (u.setStream i (some (r.captured u.timeBase number))).endFrame i true = v := rfl
  refine ⟨fun hstate => ?quiet, fun x hx => ?_⟩
  case quiet =>
    refine hv.symm.trans (endFrame_of_not_receiving (fun r' f hr' hf => ?_) true)
    rw [stream_setStream] at hr'
    obtain rfl := Option.some.inj hr'
    obtain h | h := hstate <;> exact absurd (h.symm.trans hf) (by nofun)
  have hstart : start = .next (u.startFrame i number) :=
    congrArg Host.Outcome.next (takePacket_frameStart (s := u) hmode hi hr number)
  rw [startFrame_eq hr hv hx] at hstart
  refine ⟨fun hidle => ?idle, fun hrun hfixed => ?fixed, fun hrun hnot => ?_⟩
  case idle => rw [hstart, if_pos (show u.mode ≠ .run from hidle)]
  case fixed => rw [hstart, if_neg (show ¬ u.mode ≠ .run from not_not.mpr hrun), if_pos hfixed]; rfl
  rw [if_neg (show ¬ u.mode ≠ .run from not_not.mpr hrun), if_neg hnot] at hstart
  intro hot warm spared decided
  have hdecided : decided = x.decided hot := rfl
  obtain ⟨m, rs, honly⟩ := endFrame_only (u.setStream i (some (r.captured u.timeBase number))) i true
  have hthermal : v.thermal = s.thermal := by rw [← hv, honly]; rfl
  have hroute (o : Fin 4) : (v.output o).route = (s.output o).route := by
    have hout : v.output o = u.output o := by rw [← hv, honly]; rfl
    rw [hout, output_elapse]
    rfl
  have hspared : v.safetySource i = true ↔ spared := by
    rw [safetySource_iff]
    simp only [hroute]
    rfl
  refine ⟨?hot, fun hkind hhot hphase => ?skip, fun hbegin => ⟨fun j hj => ?slot, fun hnone => ?overrun⟩⟩
  case hot => rw [decimates_iff, hthermal, hspared]
  case skip => rw [hstart, decimateOrBegin_skip hkind hhot hphase]; rfl
  case slot => rw [hstart, decimateOrBegin_begin hbegin, beginFrame_decided_some hj]; rfl
  case overrun => rw [hstart, decimateOrBegin_begin hbegin, beginFrame_decided_none hnone]; rfl

/-! ### The choice of a slot (R7, R8) -/

theorem slot_of_seq? {v : Slot} {q : Word} (h : v.seq? = some q) : v = .ready q := by
  cases v <;> simp_all [Slot.seq?]

theorem oldestReady_none {r : Stream} {l : List (Fin 4)} (h : oldestReady r l = none) {k : Fin 4} (hk : k ∈ l) (p : Word) :
    r.slot k ≠ .ready p := by
  induction l with
  | nil => cases hk
  | cons a rest ih =>
    rw [oldestReady] at h
    split at h
    next hseq =>
      obtain rfl | hk := List.mem_cons.mp hk
      · intro hready
        rw [hready] at hseq
        cases hseq
      · exact ih h hk
    next => cases h
    next => split at h <;> cases h

/-- Among slots in rising order, the oldest frame is the READY one of lowest seq, the lowest index among equals (R7). -/
theorem oldestReady_least {r : Stream} {l : List (Fin 4)} (hl : l.Pairwise (· < ·)) {j : Fin 4} {q : Word}
    (h : oldestReady r l = some (j, q)) {k : Fin 4} (hk : k ∈ l) {p : Word} (hp : r.slot k = .ready p) :
    q.toNat < p.toNat ∨ (q = p ∧ j ≤ k) := by
  induction l generalizing j q with
  | nil => cases hk
  | cons a rest ih =>
    obtain ⟨hfirst, hrest⟩ := List.pairwise_cons.mp hl
    rw [oldestReady] at h
    split at h
    next hseq =>
      obtain rfl | hk := List.mem_cons.mp hk
      · rw [hp] at hseq
        cases hseq
      · exact ih hrest h hk
    next b hseq hnone =>
      obtain ⟨rfl, rfl⟩ : a = j ∧ b = q := by simpa using h
      obtain rfl | hk := List.mem_cons.mp hk
      · rw [slot_of_seq? hseq] at hp
        exact .inr ⟨Slot.ready.inj hp, le_refl _⟩
      · exact absurd hp (oldestReady_none hnone hk p)
    next b m c hseq hsome =>
      split at h
      next hlt =>
        obtain ⟨rfl, rfl⟩ : m = j ∧ c = q := by simpa using h
        obtain rfl | hk := List.mem_cons.mp hk
        · rw [slot_of_seq? hseq] at hp
          obtain rfl := Slot.ready.inj hp
          exact .inl hlt
        · exact ih hrest hsome hk
      next hge =>
        obtain ⟨rfl, rfl⟩ : a = j ∧ b = q := by simpa using h
        obtain rfl | hk := List.mem_cons.mp hk
        · rw [slot_of_seq? hseq] at hp
          exact .inr ⟨Slot.ready.inj hp, le_refl _⟩
        · have hle : a ≤ k := (hfirst k hk).le
          obtain hlt | ⟨rfl, -⟩ := ih hrest hsome hk
          · exact .inl (by omega)
          · obtain hlt | heq := Nat.lt_or_eq_of_le (not_lt.mp hge)
            · exact .inl hlt
            · exact .inr ⟨BitVec.eq_of_toNat_eq heq, hle⟩

/-- The entry found first in a rising list is the least that could be found. -/
theorem le_of_find?_sorted {l : List (Fin 4)} (hl : l.Pairwise (· < ·)) {p : Fin 4 → Bool} {e k : Fin 4}
    (he : l.find? p = some e) (hk : k ∈ l) (hp : p k = true) : e ≤ k := by
  induction l with
  | nil => cases hk
  | cons a rest ih =>
    obtain ⟨hfirst, hrest⟩ := List.pairwise_cons.mp hl
    cases ha : p a with
    | true =>
      obtain rfl : a = e := by simpa [List.find?_cons, ha] using he
      obtain rfl | hk := List.mem_cons.mp hk
      · exact le_refl _
      · exact (hfirst k hk).le
    | false =>
      obtain rfl | hk := List.mem_cons.mp hk
      · rw [ha] at hp
        cases hp
      · exact ih hrest (by simpa [List.find?_cons, ha] using he) hk

theorem candidates_sorted (s : State) (i : Fin 8) (r : Stream) : (s.candidates i r).Pairwise (· < ·) :=
  (List.Pairwise.sublist (List.take_sublist ..) (by decide : [(0 : Fin 4), 1, 2, 3].Pairwise (· < ·))).filter _

/-- Settles O21. -/
theorem writeSlotChoice : Obligations.WriteSlotChoice := by
  unfold Obligations.WriteSlotChoice
  intro s i r candidate
  have hmem (k : Fin 4) : k ∈ s.candidates i r ↔ candidate k := mem_candidates
  have hempty (k : Fin 4) : (r.slot k == .empty) = true ↔ r.slot k = .empty := beq_iff_eq
  unfold State.writeSlot?
  cases hfind : (s.candidates i r).find? (fun j => r.slot j == .empty) with
  | some e =>
    refine ⟨fun j hj => ?_, nofun⟩
    obtain rfl := Option.some.inj hj
    have hslot := (hempty e).mp (List.find?_some (p := fun j => r.slot j == .empty) hfind)
    refine ⟨(hmem e).mp (List.mem_of_find?_eq_some hfind), .inl ⟨hslot, fun k hk hkempty => ?_⟩⟩
    exact le_of_find?_sorted (candidates_sorted s i r) hfind ((hmem k).mpr hk) ((hempty k).mpr hkempty)
  | none =>
    have hfull (k : Fin 4) (hk : candidate k) : r.slot k ≠ .empty := fun h =>
      List.find?_eq_none.mp hfind k ((hmem k).mpr hk) ((hempty k).mpr h)
    refine ⟨fun j hj => ?_, fun hnone j hj => ?_⟩
    · obtain ⟨⟨k, q⟩, hold, rfl⟩ := Option.map_eq_some_iff.mp hj
      obtain ⟨hk, hready⟩ := oldestReady_mem hold
      exact ⟨(hmem k).mp hk, .inr ⟨q, hready, fun m hm => ⟨hfull m hm, fun p hp =>
        oldestReady_least (candidates_sorted s i r) hold ((hmem m).mpr hm) hp⟩⟩⟩
    · have hold := Option.map_eq_none_iff.mp hnone
      cases hslot : r.slot j with
      | empty => exact absurd hslot (hfull j hj)
      | filling => rfl
      | ready p => exact absurd hslot (oldestReady_none hold ((hmem j).mpr hj) p)

end Sys2Proof.Machine
end

section
/-! PROOF of StreamOpenRules (O17) and StreamRequestRules (O19). -/

namespace Sys2Proof.Machine

open Sys2Proof.Claims

/-! ### The fields of STREAM_OPEN (R28) -/

theorem Format.ofByte?_of_le {b : Byte} (h : b.toNat ≤ 1) :
    Format.ofByte? b = some (if b.toNat = 0 then .rgb888 else .rgb565) := by
  obtain hb | hb := zero_or_one h <;> rw [Format.ofByte?, hb] <;> rfl

theorem Format.ofByte?_of_gt {b : Byte} (h : 1 < b.toNat) : Format.ofByte? b = none := by
  unfold Format.ofByte?
  split
  · omega
  · omega
  · rfl

theorem StreamKind.ofByte?_of_le {b : Byte} (h : b.toNat ≤ 1) :
    StreamKind.ofByte? b = some (if b.toNat = 0 then .video else .still) := by
  obtain hb | hb := zero_or_one h <;> rw [StreamKind.ofByte?, hb] <;> rfl

theorem StreamKind.ofByte?_of_gt {b : Byte} (h : 1 < b.toNat) : StreamKind.ofByte? b = none := by
  unfold StreamKind.ofByte?
  split
  · omega
  · omega
  · rfl

theorem Priority.ofByte?_of_le {b : Byte} (h : b.toNat ≤ 1) :
    Priority.ofByte? b = some (if b.toNat = 0 then .high else .low) := by
  obtain hb | hb := zero_or_one h <;> rw [Priority.ofByte?, hb] <;> rfl

theorem Priority.ofByte?_of_gt {b : Byte} (h : 1 < b.toNat) : Priority.ofByte? b = none := by
  unfold Priority.ofByte?
  split
  · omega
  · omega
  · rfl

theorem DamagedPolicy.ofByte?_of_le {b : Byte} (h : b.toNat ≤ 1) :
    DamagedPolicy.ofByte? b = some (if b.toNat = 0 then .dropDamaged else .showDamaged) := by
  obtain hb | hb := zero_or_one h <;> rw [DamagedPolicy.ofByte?, hb] <;> rfl

theorem DamagedPolicy.ofByte?_of_gt {b : Byte} (h : 1 < b.toNat) : DamagedPolicy.ofByte? b = none := by
  unfold DamagedPolicy.ofByte?
  split
  · omega
  · omega
  · rfl

/-- The fields of a STREAM_OPEN body pass check 2 of R28. -/
def OpenFieldsOk (body : List Byte) : Prop :=
  let at' (n : Nat) : Nat := (byteAt body n).toNat
  let w := (half body 1).toNat
  let h := (half body 3).toNat
  let count := at' 7
  (64 ≤ w ∧ w ≤ 3840 ∧ w % 2 = 0 ∧ 64 ≤ h ∧ h ≤ 2160) ∧ at' 5 ≤ 1 ∧ at' 6 ≤ 1 ∧
    (at' 6 = 0 → 2 ≤ count ∧ count ≤ 4 ∧ at' 13 = 0) ∧ (at' 6 = 1 → count = 1) ∧ at' 8 ≤ 1 ∧ at' 9 ≤ 1 ∧ at' 13 ≤ 1

/-- The configuration that such a body asks for. -/
def openConfig (body : List Byte) : StreamConfig :=
  let at' (n : Nat) : Nat := (byteAt body n).toNat
  ⟨(half body 1).toNat, (half body 3).toNat, if at' 5 = 0 then .rgb888 else .rgb565, if at' 6 = 0 then .video else .still,
    at' 7, if at' 8 = 0 then .high else .low, if at' 9 = 0 then .dropDamaged else .showDamaged,
    effectiveTimeout (at' 10), effectiveThreshold (half body 11).toNat, at' 13 == 1⟩

/-- The slot count and the retain field that fit a kind (R28). -/
def StreamKind.fits (kind : StreamKind) (count : Nat) (retain : Bool) : Bool :=
  match kind with
  | .video => decide (2 ≤ count ∧ count ≤ 4) && !retain
  | .still => count == 1

theorem StreamKind.fits_iff {kind count retain : Nat} (hkind : kind ≤ 1) (hretain : retain ≤ 1) :
    (if kind = 0 then StreamKind.video else .still).fits count (retain == 1) = true ↔
      (kind = 0 → 2 ≤ count ∧ count ≤ 4 ∧ retain = 0) ∧ (kind = 1 → count = 1) := by
  obtain rfl | rfl := zero_or_one hkind
  · obtain rfl | rfl := zero_or_one hretain <;> simp [StreamKind.fits]
  · simp [StreamKind.fits]

section
variable {body : List Byte} (hformat : (byteAt body 5).toNat ≤ 1) (hkind : (byteAt body 6).toNat ≤ 1)
  (hpriority : (byteAt body 8).toNat ≤ 1) (hdamaged : (byteAt body 9).toNat ≤ 1) (hretain : (byteAt body 13).toNat ≤ 1)
include hformat hkind hpriority hdamaged hretain

theorem readConfig_of_ranges : readConfig body =
    if 64 ≤ (half body 1).toNat ∧ (half body 1).toNat ≤ 3840 ∧ (half body 1).toNat % 2 = 0 ∧ 64 ≤ (half body 3).toNat ∧
      (half body 3).toNat ≤ 2160 ∧ (openConfig body).kind.fits (byteAt body 7).toNat ((byteAt body 13).toNat == 1) = true
    then some (openConfig body) else none := by
  unfold readConfig
  rw [Format.ofByte?_of_le hformat, StreamKind.ofByte?_of_le hkind, Priority.ofByte?_of_le hpriority,
    DamagedPolicy.ofByte?_of_le hdamaged, yesNo?_of_le hretain]
  rfl

theorem readConfig_of_not_ok_of_ranges (h : ¬ OpenFieldsOk body) : readConfig body = none := by
  rw [readConfig_of_ranges hformat hkind hpriority hdamaged hretain]
  refine if_neg fun ⟨hw, hw', hw'', hh, hh', hfits⟩ => h ?_
  obtain ⟨hvideo, hstill⟩ := (StreamKind.fits_iff hkind hretain).mp hfits
  exact ⟨⟨hw, hw', hw'', hh, hh'⟩, hformat, hkind, hvideo, hstill, hpriority, hdamaged, hretain⟩
end

theorem readConfig_of_ok {body : List Byte} (h : OpenFieldsOk body) : readConfig body = some (openConfig body) := by
  obtain ⟨⟨hw, hw', hw'', hh, hh'⟩, hformat, hkind, hvideo, hstill, hpriority, hdamaged, hretain⟩ := h
  rw [readConfig_of_ranges hformat hkind hpriority hdamaged hretain]
  exact if_pos ⟨hw, hw', hw'', hh, hh', (StreamKind.fits_iff hkind hretain).mpr ⟨hvideo, hstill⟩⟩

theorem readConfig_of_not_ok {body : List Byte} (h : ¬ OpenFieldsOk body) : readConfig body = none := by
  by_cases hformat : (byteAt body 5).toNat ≤ 1
  case neg => unfold readConfig; rw [Format.ofByte?_of_gt (not_le.mp hformat)]
  by_cases hkind : (byteAt body 6).toNat ≤ 1
  case neg => unfold readConfig; rw [StreamKind.ofByte?_of_gt (not_le.mp hkind)]; simp
  by_cases hpriority : (byteAt body 8).toNat ≤ 1
  case neg => unfold readConfig; rw [Priority.ofByte?_of_gt (not_le.mp hpriority)]; simp
  by_cases hdamaged : (byteAt body 9).toNat ≤ 1
  case neg => unfold readConfig; rw [DamagedPolicy.ofByte?_of_gt (not_le.mp hdamaged)]; simp
  by_cases hretain : (byteAt body 13).toNat ≤ 1
  case neg => unfold readConfig; rw [yesNo?_of_gt (not_le.mp hretain)]; simp
  exact readConfig_of_not_ok_of_ranges hformat hkind hpriority hdamaged hretain h

/-! ### STREAM_OPEN -/

theorem openConfig_need (body : List Byte) : (openConfig body).need = ((half body 1).toNat * (half body 3).toNat *
    (if (byteAt body 5).toNat = 0 then 3 else 2) + 4194303) / 4194304 := by
  have hbytes : (if (byteAt body 5).toNat = 0 then Format.rgb888 else .rgb565).bytes =
      if (byteAt body 5).toNat = 0 then 3 else 2 := by
    split <;> rfl
  rw [← hbytes]
  rfl

theorem streamOpenHandler_bad {body : List Byte} (h : 7 < (byteAt body 0).toNat ∨ ¬ OpenFieldsOk body) (s : State) :
    streamOpenHandler body s = s.refuse .badArg := by
  unfold streamOpenHandler
  obtain h | h := h
  · rw [eight?_of_gt h]
  · rw [readConfig_of_not_ok h]
    simp

section
variable {body : List Byte} {s : State} {i : Fin 8} (hi : i.val = (byteAt body 0).toNat) (hok : OpenFieldsOk body)
include hi hok

theorem streamOpenHandler_ok : streamOpenHandler body s =
    if (s.stream i).isSome then s.refuse .wrongState
    else if s.initResult = .storeFault then s.refuse .storeFault
    else if s.freeSegments < (openConfig body).slotCount * (openConfig body).need then s.refuse .noRoom
    else
      ({ s with segments := allocate s.segments i (openConfig body).slotCount (openConfig body).need }.setStream i
        (some (Stream.opened (openConfig body)))).done
        ([byteOf (openConfig body).timeoutMs] ++ halfOf (openConfig body).lineThreshold ++
          [byteOf (openConfig body).need, byteOf ((openConfig body).slotCount * (openConfig body).need)]) := by
  unfold streamOpenHandler
  rw [eight?_of_val hi, readConfig_of_ok hok]
end

/-- Settles O17. -/
theorem streamOpenRules : Obligations.StreamOpenRules := by
  unfold Obligations.StreamOpenRules
  intro s dt tag body hs hlength u at' w h count timeout threshold need fieldsOk refused
  have hl : RequestKind.streamOpen.lengthOk body = true := by simp [RequestKind.lengthOk, hlength]
  have hneed : (openConfig body).need = need := openConfig_need body
  have hstream (i : Fin 8) : u.stream i = (s.stream i).map (Stream.elapse dt) := stream_elapse s dt i
  refine ⟨fun hbad => ?bad, fun i hi hok => ?_⟩
  case bad => exact exec_of_handler (k := .streamOpen) rfl hs hl (streamOpenHandler_bad hbad u)
  have hanswer := streamOpenHandler_ok (s := u) hi hok
  rw [hneed] at hanswer
  refine ⟨fun hopen => ?wrongState, fun hclosed hfault => ?fault, fun hclosed hgood hfew => ?noRoom,
    fun hclosed hgood hroom => ?opens⟩
  case wrongState =>
    have hopen' : (u.stream i).isSome = true := by rw [hstream, Option.isSome_map]; exact hopen
    exact exec_of_handler (k := .streamOpen) rfl hs hl (hanswer.trans (if_pos hopen'))
  all_goals
    have hclosed' : ¬ (u.stream i).isSome = true := by rw [hstream, hclosed]; nofun
    replace hanswer := hanswer.trans (if_neg hclosed')
  case fault => exact exec_of_handler (k := .streamOpen) rfl hs hl (hanswer.trans (if_pos hfault))
  all_goals
    have hgood' : ¬ u.initResult = .storeFault := fun h => by cases hgood.symm.trans h
    replace hanswer := hanswer.trans (if_neg hgood')
  case noRoom => exact exec_of_handler (k := .streamOpen) rfl hs hl (hanswer.trans (if_pos hfew))
  case opens =>
    exact exec_of_handler (k := .streamOpen) rfl hs hl (hanswer.trans (if_neg (not_lt.mpr hroom)))

/-! ### Whether a stream is named (R61) -/

theorem Route.names_iff (r : Route) (i : Fin 8) : r.names i = true ↔
    (∃ p, r.source = some p ∧ p.stream = i) ∨ (∃ p, r.safety = some p ∧ p.fallback = some i) := by
  unfold Route.names
  cases r.source <;> cases r.safety <;> simp

theorem named_iff (s : State) (i : Fin 8) : s.named i = true ↔
    ∃ o r, (r = (s.output o).route ∨ (s.output o).stagedRoute = some r) ∧ r.names i = true := by
  unfold State.named
  rw [List.any_eq_true]
  have hone (o : Fin 4) : ((s.output o).route.names i || (match (s.output o).stagedRoute with
      | some r => r.names i
      | none => false)) = true ↔
      ∃ r, (r = (s.output o).route ∨ (s.output o).stagedRoute = some r) ∧ r.names i = true := by
    cases (s.output o).stagedRoute <;> simp
  exact ⟨fun ⟨o, _, h⟩ => ⟨o, (hone o).mp h⟩, fun ⟨o, h⟩ => ⟨o, mem_allFour o, (hone o).mpr h⟩⟩

/-! ### STREAM_CLOSE and STREAM_REARM (R30, R31) -/

theorem freeStream_eq (segments : List (Option SlotRef)) (i : Fin 8) :
    freeStream segments i = segments.map (fun e => if e.any (fun r => r.stream == i) then none else e) := by
  refine List.map_congr_left fun e _ => ?_
  cases e <;> simp

theorem rearm_eq (r : Stream) : r.rearm = match r.state with
    | .fixed => { r with slots := r.slots.set 0 .empty, latest := none, state := .idle }
    | .receiving f => { r with slots := r.slots.set f.slot.val .empty, state := .idle }
    | .idle => r := by
  cases h : r.state <;> simp [Stream.rearm, Stream.abandon, Stream.setSlot, h]

section
variable {body : List Byte} (h : 7 < (byteAt body 0).toNat) (s : State)
include h

theorem streamCloseHandler_unknown : streamCloseHandler body s = s.refuse .badArg := by
  rw [streamCloseHandler, eight?_of_gt h]

theorem streamRearmHandler_unknown : streamRearmHandler body s = s.refuse .badArg := by
  rw [streamRearmHandler, eight?_of_gt h]

theorem streamStatusHandler_unknown : streamStatusHandler body s = s.refuse .badArg := by
  rw [streamStatusHandler, eight?_of_gt h]
end

section
variable {body : List Byte} {i : Fin 8} (hi : i.val = (byteAt body 0).toNat) {s : State}
include hi

theorem streamCloseHandler_refused (h : s.stream i = none ∨ s.named i = true) :
    streamCloseHandler body s = s.refuse .wrongState := by
  rw [streamCloseHandler, eight?_of_val hi]
  exact if_pos (by rwa [Option.isNone_iff_eq_none])

theorem streamCloseHandler_closes (hopen : s.stream i ≠ none) (hfree : s.named i = false) :
    streamCloseHandler body s = ({ s with segments := s.segments.map (fun e : Option SlotRef =>
      if e.any (fun r : SlotRef => r.stream == i) then none else e) }.setStream i none).done [] := by
  rw [streamCloseHandler, eight?_of_val hi, ← freeStream_eq]
  exact if_neg (by simp [hopen, hfree])

theorem streamRearmHandler_closed (h : s.stream i = none) : streamRearmHandler body s = s.refuse .wrongState := by
  rw [streamRearmHandler, eight?_of_val hi]
  dsimp only
  rw [h]

theorem streamRearmHandler_open {r : Stream} (hr : s.stream i = some r) : streamRearmHandler body s =
    if r.config.kind = .video ∨ s.named i = true ∨ 0 < s.refs ⟨i, 0⟩ then s.refuse .wrongState
    else (s.setStream i (some r.rearm)).done [] := by
  rw [streamRearmHandler, eight?_of_val hi]
  dsimp only
  rw [hr]

theorem streamRearmHandler_refused (h : s.stream i = none ∨ s.named i = true) :
    streamRearmHandler body s = s.refuse .wrongState := by
  cases hr : s.stream i with
  | none => exact streamRearmHandler_closed hi hr
  | some r =>
    have hnamed : s.named i = true := h.resolve_left (by simp [hr])
    exact (streamRearmHandler_open hi hr).trans (if_pos (.inr (.inl hnamed)))

theorem streamStatusHandler_closed (h : s.stream i = none) :
    streamStatusHandler body s = s.done (List.replicate 40 0) := by
  rw [streamStatusHandler, eight?_of_val hi]
  dsimp only
  rw [h]

theorem streamStatusHandler_open {r : Stream} (hr : s.stream i = some r) : streamStatusHandler body s =
    (s.setStream i (some { r with counts := StreamCounters.zero, lineLength := false, lineCount := false })).done
      r.statusBody := by
  rw [streamStatusHandler, eight?_of_val hi]
  dsimp only
  rw [hr]
end

/-! ### STREAM_STATUS (11.2.2) -/

/-- State, kind and priority as STREAM_STATUS shows them. -/
theorem statusHead_eq (r : Stream) :
    [byteOf r.state.code, byteOf r.config.kind.code, byteOf r.config.priority.code] =
    [match r.state with
      | .idle => 1
      | .receiving _ => 2
      | .fixed => 3, if r.config.kind = .video then 0 else 1, if r.config.priority = .high then 0 else 1] := by
  cases r.state <;> cases r.config.kind <;> cases r.config.priority <;> rfl

theorem wordOr0_eq (v : Option Word) : wordOr0 v = wordBytes (v.getD 0) := by
  cases v <;> rfl

theorem latestSeq_eq (r : Stream) : r.latestSeq = match r.latest.map r.slot with
    | some (.ready q) => q
    | _ => 0 := by
  unfold Stream.latestSeq
  cases r.latest with
  | none => rfl
  | some j => cases hslot : r.slot j <;> simp [Slot.seq?, hslot]

theorem wordOf_measuredPeriod (r : Stream) : wordOf r.measuredPeriod = wordBytes (r.periods.getLast?.getD 0) := by
  unfold Stream.measuredPeriod wordOf
  cases r.periods.getLast? <;> simp

theorem packFlags_six (a b c d e f : Bool) : packFlags [a, b, c, d, e, f] = (if a then 1 else 0) + (if b then 2 else 0) +
    (if c then 4 else 0) + (if d then 8 else 0) + (if e then 16 else 0) + if f then 32 else 0 := by
  simp only [packFlags]
  repeat split <;> try rfl

/-! ### STORE_MAP (11.3) -/

theorem streamEntry_eq (i : Fin 8) (r : Stream) : streamEntry i r =
    [BitVec.ofNat 8 (i.val + (if r.config.kind = .still then 8 else 0) + 16 * (r.config.slotCount - 1)),
     BitVec.ofNat 8 ((r.config.width * r.config.height * (if r.config.format = .rgb888 then 3 else 2) + 4194303) / 4194304 +
       16 * (match r.latest with
         | some j => j.val
         | none => 7))] ++ wordBytes r.published := by
  unfold streamEntry StreamConfig.need segmentNeed
  cases r.config.kind <;> cases r.config.format <;> rfl

/-- Settles O19. -/
theorem streamRequestRules : Obligations.StreamRequestRules := by
  unfold Obligations.StreamRequestRules
  intro bit counted status slotEntry' streamEntry' map
  have hstatus (r : Stream) : r.statusBody = status r := by
    have hbits : byteOf (packFlags [r.lastPublish.isSome, r.stable, r.lastNumber.isSome, r.decimating, r.lineLength,
        r.lineCount]) = BitVec.ofNat 8 (bit r.lastPublish.isSome 1 + bit r.stable 2 + bit r.lastNumber.isSome 4 +
          bit r.decimating 8 + bit r.lineLength 16 + bit r.lineCount 32) := by
      rw [packFlags_six]
      rfl
    have hcounts : r.counts.bytes = counted r.counts := by
      simp [StreamCounters.bytes, counted]
    unfold Stream.statusBody
    rw [wordOr0_eq, latestSeq_eq, wordOf_measuredPeriod, hbits, hcounts, statusHead_eq] <;> rfl
  have hslot (s : State) (ref : SlotRef) (v : Slot) : slotEntry s ref v = slotEntry' s ref v := by
    cases v <;> rfl
  have hmap (s : State) : s.storeMapBody = map s := by
    unfold State.storeMapBody
    simp only [streamEntry_eq, hslot]
    rfl
  refine ⟨fun s i => ?named, fun s dt tag n hs => ⟨fun hn => ?unknown, fun i hi => ?known⟩, fun s dt tag hs => ?map⟩
  case named => simp only [named_iff, Route.names_iff]
  case unknown =>
    have hn' : 7 < (byteAt [n] 0).toNat := hn
    exact ⟨exec_of_handler (k := .streamClose) rfl hs rfl (streamCloseHandler_unknown hn' _),
      exec_of_handler (k := .streamRearm) rfl hs rfl (streamRearmHandler_unknown hn' _),
      exec_of_handler (k := .streamStatus) rfl hs rfl (streamStatusHandler_unknown hn' _)⟩
  case known =>
    have hi' : i.val = (byteAt [n] 0).toNat := hi
    refine ⟨fun h => ⟨exec_of_handler (k := .streamClose) rfl hs rfl (streamCloseHandler_refused hi' h),
        exec_of_handler (k := .streamRearm) rfl hs rfl (streamRearmHandler_refused hi' h)⟩,
      fun hopen hfree => exec_of_handler (k := .streamClose) rfl hs rfl (streamCloseHandler_closes hi' hopen hfree),
      fun r hr h => ?shown, fun r hr hfree hkind hrefs => ?rearmed, fun r hr => ?status,
      fun hclosed => exec_of_handler (k := .streamStatus) rfl hs rfl (streamStatusHandler_closed hi' hclosed)⟩
    case shown =>
      have hrefused := (streamRearmHandler_open hi' hr).trans (if_pos (h.imp_right .inr))
      exact exec_of_handler (k := .streamRearm) rfl hs rfl hrefused
    case rearmed =>
      have hdone := (streamRearmHandler_open hi' hr).trans (if_neg (by simp [hkind, hfree, hrefs]))
      rw [rearm_eq] at hdone
      exact exec_of_handler (k := .streamRearm) rfl hs rfl hdone
    case status =>
      have hanswer := streamStatusHandler_open hi' hr
      rw [hstatus] at hanswer
      exact exec_of_handler (k := .streamStatus) rfl hs rfl hanswer
  case map =>
    have hanswer : storeMapHandler [] (arrived s dt []) = (arrived s dt []).done (map (arrived s dt [])) :=
      congrArg (State.done _) (hmap _)
    exact exec_of_handler (k := .storeMap) rfl hs rfl hanswer

end Sys2Proof.Machine
end

section
/-! PROOF of AllocationTakesLowestSegments (O18): what one slot takes, then slot after slot. -/

namespace Sys2Proof.Machine

open Sys2Proof.Claims

/-- The free segments of a map. -/
def freeCount (m : List (Option SlotRef)) : Nat := (m.filter (fun e => e == none)).length

/-- The segments of a slot in a map. -/
def ownCount (ref : SlotRef) (m : List (Option SlotRef)) : Nat := (m.filter (fun e => e == some ref)).length

theorem freeCount_none (m : List (Option SlotRef)) : freeCount (none :: m) = freeCount m + 1 := by
  simp [freeCount]

theorem freeCount_some (x : SlotRef) (m : List (Option SlotRef)) : freeCount (some x :: m) = freeCount m := by
  simp [freeCount]

theorem ownCount_none (ref : SlotRef) (m : List (Option SlotRef)) : ownCount ref (none :: m) = ownCount ref m := by
  simp [ownCount]

theorem ownCount_some (ref x : SlotRef) (m : List (Option SlotRef)) :
    ownCount ref (some x :: m) = (if x = ref then 1 else 0) + ownCount ref m := by
  by_cases h : x = ref <;> simp [ownCount, h, Nat.add_comm]

theorem ownCount_eq_zero {ref : SlotRef} {m : List (Option SlotRef)} (h : some ref ∉ m) : ownCount ref m = 0 := by
  refine List.length_eq_zero_iff.mpr (List.filter_eq_nil_iff.mpr fun e he hr => h ?_)
  rwa [← beq_iff_eq.mp hr]

/-! ### One slot (R3) -/

section
variable (r : SlotRef)

theorem assignSegments_zero (m : List (Option SlotRef)) : assignSegments r 0 m = m := by
  induction m with
  | nil => rfl
  | cons e m ih => cases e <;> simp [assignSegments, ih]

theorem assignSegments_length (n : Nat) (m : List (Option SlotRef)) : (assignSegments r n m).length = m.length := by
  induction m generalizing n with
  | nil => cases n <;> rfl
  | cons e m ih => cases e <;> cases n <;> simp [assignSegments, ih]

theorem assignSegments_free {n : Nat} {m : List (Option SlotRef)} (h : n ≤ freeCount m) :
    freeCount (assignSegments r n m) + n = freeCount m := by
  induction m generalizing n with
  | nil =>
    obtain rfl : n = 0 := Nat.le_zero.mp h
    rfl
  | cons e m ih =>
    cases e with
    | some x =>
      rw [freeCount_some] at h
      cases n <;> simp only [assignSegments, freeCount_some, ih h]
    | none =>
      cases n with
      | zero => rfl
      | succ n =>
        rw [freeCount_none] at h ⊢
        have := ih (Nat.le_of_succ_le_succ h)
        rw [assignSegments, freeCount_some]
        omega

theorem assignSegments_own {n : Nat} {m : List (Option SlotRef)} (h : n ≤ freeCount m) (ref : SlotRef) :
    ownCount ref (assignSegments r n m) = (if ref = r then n else 0) + ownCount ref m := by
  induction m generalizing n with
  | nil =>
    obtain rfl : n = 0 := Nat.le_zero.mp h
    simp [assignSegments]
  | cons e m ih =>
    cases e with
    | some x =>
      rw [freeCount_some] at h
      have := ih h
      cases n <;> simp only [assignSegments, ownCount_some, this] <;> omega
    | none =>
      cases n with
      | zero => simp [assignSegments]
      | succ n =>
        rw [freeCount_none] at h
        rw [assignSegments, ownCount_some, ownCount_none, ih (Nat.le_of_succ_le_succ h)]
        by_cases hr : ref = r
        · simp [hr]; omega
        · simp [hr, Ne.symm hr]

/-- A taken segment stays with its slot. -/
theorem assignSegments_taken (n : Nat) {m : List (Option SlotRef)} {a : Nat} {x : SlotRef} (h : m[a]? = some (some x)) :
    (assignSegments r n m)[a]? = some (some x) := by
  induction m generalizing n a with
  | nil => cases h
  | cons e m ih =>
    cases a with
    | zero =>
      obtain rfl : e = some x := by simpa using h
      cases n <;> rfl
    | succ a =>
      cases n with
      | zero => rwa [assignSegments_zero]
      | succ n => cases e <;> exact ih _ h

/-- A segment of a slot afterwards was its own before, or it was free and the slot is the one being built. -/
theorem assignSegments_origin {n : Nat} {m : List (Option SlotRef)} {b : Nat} {x : SlotRef}
    (h : (assignSegments r n m)[b]? = some (some x)) : m[b]? = some (some x) ∨ (x = r ∧ m[b]? = some none) := by
  induction m generalizing n b with
  | nil => cases n <;> cases h
  | cons e m ih =>
    cases b with
    | zero => cases e <;> cases n <;> simp_all [assignSegments]
    | succ b =>
      cases n with
      | zero => exact .inl (by rwa [assignSegments_zero] at h)
      | succ n => cases e <;> exact ih h

/-- The free segments are taken from the lowest up. -/
theorem assignSegments_lowest {n : Nat} {m : List (Option SlotRef)} {a b : Nat} (hlt : a < b) (ha : m[a]? = some none)
    (hb : m[b]? = some none) (h : (assignSegments r n m)[b]? = some (some r)) :
    (assignSegments r n m)[a]? = some (some r) := by
  cases n with
  | zero =>
    rw [assignSegments_zero, hb] at h
    cases h
  | succ n =>
    induction m generalizing n a b with
    | nil => cases ha
    | cons e m ih =>
      obtain ⟨b, rfl⟩ : ∃ c, b = c + 1 := ⟨b - 1, by omega⟩
      cases a with
      | zero =>
        obtain rfl : e = none := by simpa using ha
        rfl
      | succ a =>
        cases e with
        | some x => exact ih (Nat.lt_of_succ_lt_succ hlt) ha hb n h
        | none =>
          cases n with
          | zero =>
            replace h : (assignSegments r 0 m)[b]? = some (some r) := h
            rw [assignSegments_zero] at h
            cases hb.symm.trans h
          | succ n => exact ih (Nat.lt_of_succ_lt_succ hlt) ha hb n h
end

/-! ### Slot after slot (R3) -/

/-- What the slots of a list, built in its order, have taken of a map. -/
structure Built (i : Fin 8) (need : Nat) (js : List (Fin 4)) (m after : List (Option SlotRef)) : Prop where
  length : after.length = m.length
  taken : ∀ (a : Nat) (r : SlotRef), m[a]? = some (some r) → after[a]? = some (some r)
  origin : ∀ (b : Nat) (r : SlotRef), after[b]? = some (some r) →
    m[b]? = some (some r) ∨ (r.stream = i ∧ r.index ∈ js ∧ m[b]? = some none)
  own : ∀ j, ownCount ⟨i, j⟩ after = (if j ∈ js then need else 0) + ownCount ⟨i, j⟩ m
  free : freeCount after + js.length * need = freeCount m
  lowest : ∀ (a b : Nat) (j : Fin 4), a < b → m[a]? = some none → m[b]? = some none → after[b]? = some (some ⟨i, j⟩) →
    ∃ j' : Fin 4, j' ≤ j ∧ after[a]? = some (some ⟨i, j'⟩)

theorem built_nil (i : Fin 8) (need : Nat) (m : List (Option SlotRef)) : Built i need [] m m where
  length := rfl
  taken := fun _ _ h => h
  origin := fun _ _ h => .inl h
  own := fun j => by simp
  free := by simp
  lowest := fun a b j _ _ hb h => by cases hb.symm.trans h

theorem Built.cons {i : Fin 8} {need : Nat} {j₀ : Fin 4} {js : List (Fin 4)} {m after : List (Option SlotRef)}
    (hfirst : ∀ j ∈ js, j₀ < j) (hfree : (j₀ :: js).length * need ≤ freeCount m)
    (h : Built i need js (assignSegments ⟨i, j₀⟩ need m) after) : Built i need (j₀ :: js) m after := by
  have hneed : need ≤ freeCount m := by
    rw [List.length_cons, Nat.succ_mul] at hfree
    omega
  have hnew : j₀ ∉ js := fun hj => lt_irrefl _ (hfirst j₀ hj)
  have hone := assignSegments_free ⟨i, j₀⟩ hneed
  refine ⟨h.length.trans (assignSegments_length ..), fun a r ha => h.taken a r (assignSegments_taken _ _ ha), ?origin,
    ?own, ?free, ?lowest⟩
  case origin =>
    intro b r hb
    obtain hb | ⟨hstream, hindex, hb⟩ := h.origin b r hb
    · obtain hm | ⟨rfl, hm⟩ := assignSegments_origin _ hb
      · exact .inl hm
      · exact .inr ⟨rfl, List.mem_cons_self .., hm⟩
    · refine .inr ⟨hstream, List.mem_cons_of_mem _ hindex, ?_⟩
      cases hm : m[b]? with
      | none =>
        have hlt := (List.getElem?_eq_some_iff.mp hb).1
        rw [assignSegments_length] at hlt
        exact absurd hlt (not_lt.mpr (List.getElem?_eq_none_iff.mp hm))
      | some e =>
        cases e with
        | none => rfl
        | some x => cases hb.symm.trans (assignSegments_taken _ _ hm)
  case own =>
    intro j
    rw [h.own j, assignSegments_own _ hneed]
    by_cases hj : j = j₀
    · subst hj
      simp [hnew]
    · simp [hj]
  case free =>
    have := h.free
    rw [List.length_cons, Nat.succ_mul]
    omega
  case lowest =>
    intro a b j hlt ha hb hafter
    obtain hb' | ⟨-, hj, hb'⟩ := h.origin b _ hafter
    · obtain hm | ⟨heq, -⟩ := assignSegments_origin _ hb'
      · cases hb.symm.trans hm
      · obtain rfl : j = j₀ := congrArg SlotRef.index heq
        exact ⟨j, le_refl _, h.taken a _ (assignSegments_lowest _ hlt ha hb hb')⟩
    · cases ha' : (assignSegments ⟨i, j₀⟩ need m)[a]? with
      | none =>
        have hlt' := (List.getElem?_eq_some_iff.mp ha).1
        rw [← assignSegments_length ⟨i, j₀⟩ need m] at hlt'
        exact absurd hlt' (not_lt.mpr (List.getElem?_eq_none_iff.mp ha'))
      | some e =>
        cases e with
        | none => exact h.lowest a b j hlt ha' hb' hafter
        | some x =>
          obtain hm | ⟨rfl, -⟩ := assignSegments_origin _ ha'
          · cases ha.symm.trans hm
          · exact ⟨j₀, (hfirst j hj).le, h.taken a _ ha'⟩

theorem built_foldl (i : Fin 8) (need : Nat) {js : List (Fin 4)} (hjs : js.Pairwise (· < ·)) {m : List (Option SlotRef)}
    (hfree : js.length * need ≤ freeCount m) :
    Built i need js m (js.foldl (fun m j => assignSegments ⟨i, j⟩ need m) m) := by
  induction js generalizing m with
  | nil => exact built_nil i need m
  | cons j₀ js ih =>
    obtain ⟨hfirst, hrest⟩ := List.pairwise_cons.mp hjs
    refine Built.cons hfirst hfree (ih hrest ?_)
    rw [List.length_cons, Nat.succ_mul] at hfree
    have := assignSegments_free ⟨i, j₀⟩ (m := m) (n := need) (by omega)
    omega

theorem slotIndices_sorted (count : Nat) : (slotIndices count).Pairwise (· < ·) :=
  List.Pairwise.sublist (List.take_sublist ..) (by decide)

theorem slotIndices_length {count : Nat} (h : count ≤ 4) : (slotIndices count).length = count := by
  simp [slotIndices, h]

/-- Settles O18. -/
theorem allocationTakesLowestSegments : Obligations.AllocationTakesLowestSegments := by
  unfold Obligations.AllocationTakesLowestSegments
  intro m i count need hcount hnew hfree after
  have hbuilt : Built i need (slotIndices count) m after :=
    built_foldl i need (slotIndices_sorted count) (by rwa [slotIndices_length hcount])
  refine ⟨hbuilt.length, hbuilt.taken, fun j => ?own, ?free, fun a b j hlt ha hb => ?lowest⟩
  case own =>
    have hown := hbuilt.own j
    rw [ownCount_eq_zero (hnew j), Nat.add_zero] at hown
    simp only [mem_slotIndices] at hown
    exact hown
  case free =>
    have hleft := hbuilt.free
    rwa [slotIndices_length hcount] at hleft
  case lowest =>
    obtain hm | ⟨-, -, hm⟩ := hbuilt.origin b _ hb
    · exact absurd (List.mem_of_getElem? hm) (hnew j)
    · exact hbuilt.lowest a b j hlt ha hm hb

end Sys2Proof.Machine
end

section
/-! PROOF of StoredBytesReadBack (O25): addresses of a slot, a write through the segments, a written line, filled lines. -/

namespace Sys2Proof.Machine

open Sys2Proof.Claims

/-! ### Addresses (R6) -/

theorem slotAddress_cons_of_lt (seg : Nat) (segs : List Nat) {offset : Nat} (h : offset < 4194304) :
    slotAddress (seg :: segs) offset = seg * 4194304 + offset := by
  simp only [slotAddress, Config.segmentBytes, Nat.div_eq_of_lt h, Nat.mod_eq_of_lt h, List.getD_cons_zero]

theorem slotAddress_cons_add (seg : Nat) (segs : List Nat) (offset : Nat) :
    slotAddress (seg :: segs) (4194304 + offset) = slotAddress segs offset := by
  simp only [slotAddress, Config.segmentBytes, Nat.add_mod_left, Nat.add_div_left _ (by decide : 0 < 4194304),
    List.getD_cons_succ]

/-- The addresses of a slot's later segments lie outside a segment that is not among them. -/
theorem slotAddress_ne {seg : Nat} {segs : List Nat} (hseg : seg ∉ segs) {offset x : Nat}
    (h : offset < segs.length * 4194304) (hx : x < 4194304) : seg * 4194304 + x ≠ slotAddress segs offset := by
  have hlt : offset / 4194304 < segs.length := by omega
  have hmem : segs.getD (offset / 4194304) 0 ∈ segs := by
    rw [List.getD_eq_getElem _ _ hlt]
    exact List.getElem_mem hlt
  intro heq
  simp only [slotAddress, Config.segmentBytes] at heq
  have hsame : segs.getD (offset / 4194304) 0 = seg := by omega
  exact hseg (hsame ▸ hmem)

/-! ### A write through the segments (R6) -/

theorem writeSlot_nil (m : List Host.Cell) (segs : List Nat) (offset : Nat) : writeSlot m segs offset [] = m := by
  cases segs <;> rfl

theorem writeSlot_cons_of_le (m : List Host.Cell) (seg : Nat) (segs : List Nat) {offset : Nat} (bytes : List Byte)
    (h : 4194304 ≤ offset) : writeSlot m (seg :: segs) offset bytes = writeSlot m segs (offset - 4194304) bytes := by
  rw [writeSlot]
  split
  next hempty =>
    obtain rfl := List.isEmpty_iff.mp hempty
    exact (writeSlot_nil ..).symm
  next => exact if_pos h

theorem writeSlot_cons_of_lt (m : List Host.Cell) (seg : Nat) (segs : List Nat) {offset : Nat} {bytes : List Byte}
    (hne : bytes ≠ []) (h : offset < 4194304) : writeSlot m (seg :: segs) offset bytes =
      writeSlot (storeWrite m (seg * 4194304 + offset) (bytes.take (4194304 - offset))) segs 0
        (bytes.drop (4194304 - offset)) := by
  rw [writeSlot, if_neg (by simpa using hne)]
  exact if_neg (not_le.mpr h)

/-- What a write does not reach keeps its value. -/
theorem storeByte_writeSlot_ne {segs : List Nat} {m : List Host.Cell} {offset : Nat} {bytes : List Byte}
    (hfit : offset + bytes.length ≤ segs.length * 4194304) {a : Nat}
    (ha : ∀ k, k < bytes.length → a ≠ slotAddress segs (offset + k)) :
    storeByte (writeSlot m segs offset bytes) a = storeByte m a := by
  induction segs generalizing m offset bytes with
  | nil => rfl
  | cons seg segs ih =>
    rw [List.length_cons, Nat.succ_mul] at hfit
    obtain rfl | hne := eq_or_ne bytes []
    · rw [writeSlot_nil]
    obtain hle | hlt := le_or_gt 4194304 offset
    · rw [writeSlot_cons_of_le _ _ _ _ hle]
      refine ih (by omega) fun k hk => ?_
      rw [← slotAddress_cons_add seg, ← Nat.add_assoc, Nat.add_sub_cancel' hle]
      exact ha k hk
    · rw [writeSlot_cons_of_lt _ _ _ hne hlt, ih (by rw [List.length_drop]; omega), storeByte_storeWrite, if_neg]
      · rintro ⟨hlow, hhigh⟩
        rw [List.length_take] at hhigh
        refine ha (a - (seg * 4194304 + offset)) (by omega) ?_
        rw [slotAddress_cons_of_lt seg segs (by omega)]
        omega
      · intro k hk
        rw [List.length_drop] at hk
        have hk' := ha (4194304 - offset + k) (by omega)
        rwa [← Nat.add_assoc, Nat.add_sub_cancel' hlt.le, slotAddress_cons_add, ← Nat.zero_add k] at hk'

/-- What a write puts at a slot offset reads back there. -/
theorem slotByte_writeSlot {segs : List Nat} (hsegs : segs.Nodup) {m : List Host.Cell} {offset : Nat} {bytes : List Byte}
    (hfit : offset + bytes.length ≤ segs.length * 4194304) {k : Nat} (hk : k < bytes.length) :
    slotByte (writeSlot m segs offset bytes) segs (offset + k) = byteAt bytes k := by
  induction segs generalizing m offset bytes k with
  | nil =>
    rw [List.length_nil, Nat.zero_mul] at hfit
    omega
  | cons seg segs ih =>
    obtain ⟨hseg, hrest⟩ := List.nodup_cons.mp hsegs
    rw [List.length_cons, Nat.succ_mul] at hfit
    have hne : bytes ≠ [] := List.ne_nil_of_length_pos (Nat.lt_of_le_of_lt (Nat.zero_le k) hk)
    obtain hle | hlt := le_or_gt 4194304 offset
    · have hread := ih hrest (m := m) (offset := offset - 4194304) (bytes := bytes) (by omega) hk
      rw [slotByte, ← slotAddress_cons_add seg, ← Nat.add_assoc, Nat.add_sub_cancel' hle] at hread
      rwa [slotByte, writeSlot_cons_of_le _ _ _ _ hle]
    · rw [slotByte, writeSlot_cons_of_lt _ _ _ hne hlt]
      obtain hin | hout := Nat.lt_or_ge (offset + k) 4194304
      · rw [slotAddress_cons_of_lt _ _ hin, storeByte_writeSlot_ne (by rw [List.length_drop]; omega),
          storeByte_storeWrite, if_pos ⟨by omega, by rw [List.length_take]; omega⟩]
        · have hindex : seg * 4194304 + (offset + k) - (seg * 4194304 + offset) = k := by omega
          rw [hindex, byteAt, List.getD_eq_getElem?_getD, List.getD_eq_getElem?_getD, List.getElem?_take_of_lt (by omega)]
        · intro j hj
          rw [List.length_drop] at hj
          exact slotAddress_ne hseg (by omega) hin
      · have hread := ih hrest (m := storeWrite m (seg * 4194304 + offset) (bytes.take (4194304 - offset))) (offset := 0)
          (bytes := bytes.drop (4194304 - offset)) (by rw [List.length_drop]; omega)
          (k := k - (4194304 - offset)) (by rw [List.length_drop]; omega)
        rw [slotByte, ← slotAddress_cons_add seg, Nat.zero_add,
          show 4194304 + (k - (4194304 - offset)) = offset + k by omega] at hread
        rw [hread, byteAt, byteAt, List.getD_eq_getElem?_getD, List.getD_eq_getElem?_getD, List.getElem?_drop,
          Nat.add_sub_cancel' (by omega)]

/-! ### A written line (R41) -/

theorem length_flatten_replicate {α : Type} (n : Nat) (l : List α) : (List.replicate n l).flatten.length = n * l.length := by
  rw [← List.map_replicate (f := fun _ : Unit => l) (a := ()), length_blocks _ l.length _ fun _ => rfl,
    List.length_replicate]

theorem byteAt_flatten_replicate {n : Nat} {l : List Byte} {i c : Nat} (hi : i < n) (hc : c < l.length) :
    byteAt (List.replicate n l).flatten (i * l.length + c) = byteAt l c := by
  rw [byteAt, ← List.map_replicate (f := fun _ : Unit => l) (a := ()),
    getD_blocks _ l.length _ (fun _ => rfl) 0 i c (by rwa [List.length_replicate]) hc]
  rfl

theorem byteAt_append_left {l m : List Byte} {i : Nat} (h : i < l.length) : byteAt (l ++ m) i = byteAt l i := by
  simp [byteAt, List.getElem?_append_left h]

theorem byteAt_append_right {l m : List Byte} {i : Nat} (h : l.length ≤ i) : byteAt (l ++ m) i = byteAt m (i - l.length) := by
  simp [byteAt, List.getElem?_append_right h]

theorem byteAt_take {l : List Byte} {n i : Nat} (h : i < n) : byteAt (l.take n) i = byteAt l i := by
  simp [byteAt, List.getElem?_take_of_lt h]

/-- The pixel that pads a line that is too short (R41). -/
def padPixel (p : Nat) (pixels : List Byte) : List Byte :=
  let n := pixels.length / p
  if n = 0 then List.replicate p 0 else (pixels.drop ((n - 1) * p)).take p

theorem padPixel_length (p : Nat) (pixels : List Byte) : (padPixel p pixels).length = p := by
  have hfit := Nat.div_mul_le_self pixels.length p
  unfold padPixel
  dsimp only
  split
  · exact List.length_replicate
  next hpos =>
    obtain ⟨k, hk⟩ : ∃ k, pixels.length / p = k + 1 := Nat.exists_eq_succ_of_ne_zero hpos
    rw [hk, Nat.succ_mul] at hfit
    rw [hk, List.length_take, List.length_drop, Nat.add_sub_cancel]
    omega

theorem byteAt_padPixel {p : Nat} (pixels : List Byte) {c : Nat} (hc : c < p) : byteAt (padPixel p pixels) c =
    if pixels.length / p = 0 then 0 else byteAt pixels ((pixels.length / p - 1) * p + c) := by
  unfold padPixel
  dsimp only
  split
  · simp [byteAt, hc]
  · rw [byteAt_take hc]
    simp [byteAt]

theorem adjustLine_of_le {width p : Nat} {pixels : List Byte} (h : width ≤ pixels.length / p) :
    adjustLine width p pixels = pixels.take (width * p) := if_pos h

theorem adjustLine_of_lt {width p : Nat} {pixels : List Byte} (h : pixels.length / p < width) : adjustLine width p pixels =
    pixels.take (pixels.length / p * p) ++ (List.replicate (width - pixels.length / p) (padPixel p pixels)).flatten :=
  if_neg (not_le.mpr h)

theorem adjustLine_length (width p : Nat) (pixels : List Byte) : (adjustLine width p pixels).length = width * p := by
  have hfit := Nat.div_mul_le_self pixels.length p
  obtain hle | hlt := le_or_gt width (pixels.length / p)
  · have := Nat.mul_le_mul_right p hle
    rw [adjustLine_of_le hle, List.length_take]
    omega
  · rw [adjustLine_of_lt hlt, List.length_append, List.length_take, length_flatten_replicate, padPixel_length,
      Nat.min_eq_left hfit, ← Nat.add_mul, Nat.add_sub_cancel' hlt.le]

theorem byteAt_adjustLine {width p : Nat} (pixels : List Byte) {x c : Nat} (hx : x < width) (hc : c < p) :
    byteAt (adjustLine width p pixels) (x * p + c) =
      if x < pixels.length / p then byteAt pixels (x * p + c)
      else if pixels.length / p = 0 then 0 else byteAt pixels ((pixels.length / p - 1) * p + c) := by
  have hfit := Nat.div_mul_le_self pixels.length p
  have hin {n : Nat} (h : x < n) : x * p + c < n * p := by
    have := Nat.mul_le_mul_right p (Nat.succ_le_of_lt h)
    rw [Nat.succ_mul] at this
    omega
  obtain hle | hlt := le_or_gt width (pixels.length / p)
  · rw [adjustLine_of_le hle, byteAt_take (hin hx), if_pos (by omega)]
  · have hlen : (pixels.take (pixels.length / p * p)).length = pixels.length / p * p := by
      rw [List.length_take, Nat.min_eq_left hfit]
    rw [adjustLine_of_lt hlt]
    split
    next hxn => rw [byteAt_append_left (by rw [hlen]; exact hin hxn), byteAt_take (hin hxn)]
    next hxn =>
      have hmul := Nat.mul_le_mul_right p (not_lt.mp hxn)
      have hindex : x * p + c - pixels.length / p * p = (x - pixels.length / p) * (padPixel p pixels).length + c := by
        rw [padPixel_length, Nat.sub_mul]
        omega
      rw [byteAt_append_right (by omega), hlen, hindex, byteAt_flatten_replicate (by omega)
        (by rwa [padPixel_length]), byteAt_padPixel _ hc]

/-! ### Filled lines (R34, R40) -/

/-- The line that missing lines are copies of (R34, R40). -/
def fillCopy (m : List Host.Cell) (segs : List Nat) (lineBytes first : Nat) : List Byte :=
  if first = 0 then List.replicate lineBytes 0 else slotBytes m segs ((first - 1) * lineBytes) lineBytes

theorem fillCopy_length (m : List Host.Cell) (segs : List Nat) (lineBytes first : Nat) :
    (fillCopy m segs lineBytes first).length = lineBytes := by
  unfold fillCopy
  split <;> simp [slotBytes]

theorem byteAt_fillCopy (m : List Host.Cell) (segs : List Nat) {lineBytes : Nat} (first : Nat) {c : Nat}
    (hc : c < lineBytes) : byteAt (fillCopy m segs lineBytes first) c =
      if first = 0 then 0 else slotByte m segs ((first - 1) * lineBytes + c) := by
  unfold fillCopy
  split <;> simp [byteAt, slotBytes, hc]

theorem fillLines_eq (m : List Host.Cell) (segs : List Nat) (lineBytes first count : Nat) :
    fillLines m segs lineBytes first count =
      writeSlot m segs (first * lineBytes) (List.replicate count (fillCopy m segs lineBytes first)).flatten := rfl

/-- Settles O25. -/
theorem storedBytesReadBack : Obligations.StoredBytesReadBack := by
  unfold Obligations.StoredBytesReadBack
  refine ⟨fun m segs offset bytes hwf hsegs hfit => ⟨writeSlot_wf _ _ _ _ hwf, fun k hk => slotByte_writeSlot hsegs hfit hk,
      fun a ha => storeByte_writeSlot_ne hfit ha⟩,
    fun width p pixels _ => ⟨adjustLine_length .., fun x c hx hc => byteAt_adjustLine pixels hx hc⟩,
    fun m segs lineBytes first count hwf hsegs hfit => ?fill⟩
  case fill =>
    have hlen : (List.replicate count (fillCopy m segs lineBytes first)).flatten.length = count * lineBytes := by
      rw [length_flatten_replicate, fillCopy_length]
    rw [Nat.add_mul] at hfit
    have hfit' : first * lineBytes + (List.replicate count (fillCopy m segs lineBytes first)).flatten.length ≤
        segs.length * 4194304 := by rwa [hlen]
    refine ⟨fun y c hy hc => ?read, fun a ha => ?rest⟩
    case read =>
      have hlast := Nat.mul_le_mul_right lineBytes (Nat.succ_le_of_lt hy)
      rw [Nat.succ_mul] at hlast
      have hbyte := byteAt_flatten_replicate (l := fillCopy m segs lineBytes first) hy (by rwa [fillCopy_length])
      rw [fillCopy_length, byteAt_fillCopy m segs first hc] at hbyte
      rw [fillLines_eq, Nat.add_mul, Nat.add_assoc, slotByte_writeSlot hsegs hfit' (by rw [hlen]; omega), hbyte]
    case rest =>
      rw [fillLines_eq]
      refine storeByte_writeSlot_ne hfit' fun k hk => ha _ (Nat.le_add_right ..) ?_
      rw [hlen] at hk
      rw [Nat.add_mul]
      omega

end Sys2Proof.Machine
end

section
/-! PROOF of RouteSetRules (O27) and ClearAndTimingRules (O28). -/

namespace Sys2Proof.Machine

open Sys2Proof.Claims

/-! ### The fields of ROUTE_SET (R52, R209) -/

theorem streamOrNone?_of_ok {b : Byte} (h : b.toNat ≤ 7 ∨ b.toNat = 255) : ∃ v, streamOrNone? b = some v ∧
    (v = none ↔ b.toNat = 255) ∧ ∀ i : Fin 8, v = some i → i.val = b.toNat := by
  unfold streamOrNone?
  obtain h | h := h
  · have hne : b ≠ 0xFF := by rintro rfl; simp at h
    have hlt : b.toNat < 8 := by omega
    refine ⟨some ⟨b.toNat, hlt⟩, by rw [if_neg hne, eight?, dif_pos hlt]; rfl, ⟨nofun, fun h' => by omega⟩, ?_⟩
    rintro i hi
    exact congrArg Fin.val (Option.some.inj hi).symm
  · exact ⟨none, if_pos (byte_eq_of_toNat h), ⟨fun _ => h, fun _ => rfl⟩, nofun⟩

theorem ok_of_streamOrNone? {b : Byte} {v : Option (Fin 8)} (h : streamOrNone? b = some v) :
    (b.toNat ≤ 7 ∨ b.toNat = 255) ∧ (v.isSome = true → b.toNat ≠ 255) := by
  unfold streamOrNone? at h
  split at h
  next hb =>
    subst hb
    obtain rfl := Option.some.inj h
    exact ⟨.inr rfl, nofun⟩
  next hne =>
    have hlt : b.toNat < 8 := by
      by_contra hge
      rw [eight?, dif_neg hge] at h
      cases h
    exact ⟨.inl (by omega), fun _ => by omega⟩

theorem le_of_yesNo? {b : Byte} {v : Bool} (h : yesNo? b = some v) : b.toNat ≤ 1 ∧ v = (b.toNat == 1) := by
  have hle : b.toNat ≤ 1 := by
    by_contra hgt
    rw [yesNo?_of_gt (not_le.mp hgt)] at h
    cases h
  rw [yesNo?_of_le hle] at h
  exact ⟨hle, (Option.some.inj h).symm⟩

theorem FaultAction.ofByte?_of_le {b : Byte} (h : b.toNat ≤ 2) : FaultAction.ofByte? b =
    some (if b.toNat = 0 then .notify else if b.toNat = 1 then .fallback else .blank) := by
  obtain hb | hb | hb : b.toNat = 0 ∨ b.toNat = 1 ∨ b.toNat = 2 := by omega
  all_goals (rw [FaultAction.ofByte?, hb]; rfl)

theorem FaultAction.le_of_ofByte? {b : Byte} {v : FaultAction} (h : FaultAction.ofByte? b = some v) : b.toNat ≤ 2 := by
  unfold FaultAction.ofByte? at h
  split at h
  · omega
  · omega
  · omega
  · cases h

/-- What a SAFETY body says of the safety part (R50, R52). -/
def SafetySays (body : List Byte) (q : SafetyPart) : Prop :=
  let at' (n : Nat) : Nat := (byteAt body n).toNat
  let two (n : Nat) : Nat := (half body n).toNat
  (q.fallback = none ↔ at' 25 = 255) ∧ (∀ i, q.fallback = some i → i.val = at' 25) ∧
  q.timeoutMs = (if two 26 = 0 then 100 else if two 26 < 20 then 20 else if 2000 < two 26 then 2000 else two 26) ∧
  q.window = readRect body 28 ∧ q.threshold = (if at' 36 = 0 then 2 else if 8 < at' 36 then 8 else at' 36) ∧
  q.action = (if at' 37 = 0 then .notify else if at' 37 = 1 then .fallback else .blank)

theorem effectiveFreshness_eq (n : Nat) : effectiveFreshness n =
    if n = 0 then 100 else if n < 20 then 20 else if 2000 < n then 2000 else n := by
  unfold effectiveFreshness
  split_ifs <;> omega

theorem effectiveMismatch_eq (n : Nat) : effectiveMismatch n = if n = 0 then 2 else if 8 < n then 8 else n := by
  unfold effectiveMismatch
  split_ifs <;> omega

theorem readSafety_of_ok {body : List Byte} (hfallback : (byteAt body 25).toNat ≤ 7 ∨ (byteAt body 25).toNat = 255)
    (haction : (byteAt body 37).toNat ≤ 2) : ∃ q, readSafety body = some q ∧ SafetySays body q := by
  obtain ⟨v, hv, hnone, hsome⟩ := streamOrNone?_of_ok hfallback
  refine ⟨_, by rw [readSafety, hv, FaultAction.ofByte?_of_le haction], hnone, hsome, ?_, rfl, ?_, rfl⟩
  · exact effectiveFreshness_eq _
  · exact effectiveMismatch_eq _

theorem ok_of_readSafety {body : List Byte} {q : SafetyPart} (h : readSafety body = some q) :
    ((byteAt body 25).toNat ≤ 7 ∨ (byteAt body 25).toNat = 255) ∧ (byteAt body 37).toNat ≤ 2 := by
  unfold readSafety at h
  split at h
  next hfallback haction => exact ⟨(ok_of_streamOrNone? hfallback).1, FaultAction.le_of_ofByte? haction⟩
  next => cases h

theorem readClass_normal {body : List Byte} (h : (byteAt body 24).toNat = 0) : readClass body = some none := by
  rw [readClass, h]
  rfl

theorem readClass_safety {body : List Byte} (h : (byteAt body 24).toNat = 1) :
    readClass body = (readSafety body).map some := by
  rw [readClass, h]
  rfl

theorem ok_of_readClass {body : List Byte} {safety : Option SafetyPart} (h : readClass body = some safety) :
    (byteAt body 24).toNat ≤ 1 ∧ ((byteAt body 24).toNat = 1 → safety.isSome = true ∧
      ((byteAt body 25).toNat ≤ 7 ∨ (byteAt body 25).toNat = 255) ∧ (byteAt body 37).toNat ≤ 2) := by
  unfold readClass at h
  split at h
  next hclass => exact ⟨by omega, fun h' => by omega⟩
  next hclass =>
    obtain ⟨q, hq, rfl⟩ := Option.map_eq_some_iff.mp h
    exact ⟨by omega, fun _ => ⟨rfl, ok_of_readSafety hq⟩⟩
  next => cases h

/-- The fields of a ROUTE_SET body pass checks 2 to 4 of R52. -/
def RouteFieldsOk (body : List Byte) : Prop :=
  let at' (n : Nat) : Nat := (byteAt body n).toNat
  (at' 1 ≤ 7 ∨ at' 1 = 255) ∧ at' 21 ≤ 1 ∧ at' 22 ≤ 1 ∧ (at' 22 = 1 → at' 21 = 1) ∧ at' 24 ≤ 1 ∧
    (at' 24 = 1 → (at' 25 ≤ 7 ∨ at' 25 = 255) ∧ at' 37 ≤ 2 ∧ at' 1 ≠ 255)

theorem ok_of_readRoute {body : List Byte} {r : Route} (h : readRoute body = some r) : RouteFieldsOk body := by
  unfold readRoute at h
  split at h
  next source allow18 allowAlt safety hsource h18 halt hclass =>
    split at h
    next hboth =>
      obtain ⟨hle18, rfl⟩ := le_of_yesNo? h18
      obtain ⟨hlealt, rfl⟩ := le_of_yesNo? halt
      obtain ⟨hsource, hnone⟩ := ok_of_streamOrNone? hsource
      obtain ⟨hclass, hsafety⟩ := ok_of_readClass hclass
      refine ⟨hsource, hle18, hlealt, by simpa using hboth.1, hclass, fun h1 => ?_⟩
      obtain ⟨hsome, hfallback, haction⟩ := hsafety h1
      exact ⟨hfallback, haction, hnone (hboth.2 hsome)⟩
    next => cases h
  next => cases h

/-- The route that a body with a source and a safety part says (R49 to R52). -/
def routeOf (body : List Byte) (source : Option (Fin 8)) (safety : Option SafetyPart) : Route :=
  ⟨source.map (fun i => ⟨i, readRect body 2, readRect body 10⟩), ⟨byteAt body 18, byteAt body 19, byteAt body 20⟩,
    (byteAt body 21).toNat == 1, (byteAt body 22).toNat == 1, min 15 (byteAt body 23).toNat, safety⟩

theorem readRoute_of_parts {body : List Byte} {source : Option (Fin 8)} {safety : Option SafetyPart}
    (hsource : streamOrNone? (byteAt body 1) = some source) (h18 : (byteAt body 21).toNat ≤ 1)
    (halt : (byteAt body 22).toNat ≤ 1) (hboth : (byteAt body 22).toNat = 1 → (byteAt body 21).toNat = 1)
    (hclass : readClass body = some safety) (hwith : safety.isSome = true → source.isSome = true) :
    readRoute body = some (routeOf body source safety) := by
  unfold readRoute
  rw [hsource, yesNo?_of_le h18, yesNo?_of_le halt, hclass]
  exact if_pos ⟨by simpa using hboth, hwith⟩

/-! ### Why a route is refused (R52 to R55) -/

section
variable (s : State) (r : Route)

theorem streamsOpen_iff : s.streamsOpen r = true ↔ (∀ p, r.source = some p → s.stream p.stream ≠ none) ∧
    (∀ q i, r.safety = some q → q.fallback = some i → ∃ x, s.stream i = some x ∧ x.config.kind = .still) := by
  unfold State.streamsOpen
  rw [Bool.and_eq_true]
  refine and_congr ?_ ?_
  · cases r.source <;> simp [Option.isSome_iff_ne_none]
  · cases hsafety : r.safety with
    | none => simp
    | some q =>
      have hfirst (P : Fin 8 → Prop) : (∀ q' i, some q = some q' → q'.fallback = some i → P i) ↔
          ∀ i, q.fallback = some i → P i :=
        ⟨fun h i hi => h q i rfl hi, fun h q' i hq hi => h i (Option.some.inj hq ▸ hi)⟩
      rw [hfirst, Option.bind_some]
      cases q.fallback <;> simp

theorem safetyStateOk_iff : s.safetyStateOk r = true ↔
    ∀ q p, r.safety = some q → r.source = some p → r.allowAlt = false ∧ r.holdAfter = 0 ∧
      ∃ x, s.stream p.stream = some x ∧ x.config.damagedPolicy = .dropDamaged := by
  unfold State.safetyStateOk
  cases r.safety <;> cases r.source <;> simp [and_comm, and_left_comm]
end

theorem inside_iff (r : Rect) (w h least : Nat) :
    r.inside w h least = true ↔ least ≤ r.w ∧ least ≤ r.h ∧ r.x + r.w ≤ w ∧ r.y + r.h ≤ h := decide_eq_true_iff

theorem stepInRange_iff (n d : Nat) :
    stepInRange (axisStep n d) = true ↔ 16384 ≤ n * 65536 / d ∧ n * 65536 / d ≤ 262144 := decide_eq_true_iff

/-- Checks 7 to 11 of R53. -/
def State.Geometry (s : State) (r : Route) (t : Timing) : Prop :=
  let steps (n d : Nat) : Prop := 16384 ≤ n * 65536 / d ∧ n * 65536 / d ≤ 262144
  let within (r : Rect) (w h least : Nat) : Prop := least ≤ r.w ∧ least ≤ r.h ∧ r.x + r.w ≤ w ∧ r.y + r.h ≤ h
  ∀ p, r.source = some p →
    (∀ x, s.stream p.stream = some x → within p.window x.config.width x.config.height 16) ∧
    within p.dest t.hActive t.vActive 16 ∧ steps p.window.w p.dest.w ∧ steps p.window.h p.dest.h ∧
    (∀ q, r.safety = some q → within q.window t.hActive t.vActive 1 ∧
      (∀ i x, q.fallback = some i → s.stream i = some x →
        steps x.config.width p.dest.w ∧ steps x.config.height p.dest.h))

/-- Check 11 of R53: it passes when no fallback stream is named or open. -/
def State.fallbackFits (s : State) (q : SafetyPart) (d : Rect) : Bool :=
  match q.fallback.bind s.stream with
  | none => true
  | some x => stepInRange (axisStep x.config.width d.w) && stepInRange (axisStep x.config.height d.h)

theorem fallbackFits_iff (s : State) (q : SafetyPart) (d : Rect) : s.fallbackFits q d = true ↔
    ∀ i x, q.fallback = some i → s.stream i = some x →
      (16384 ≤ x.config.width * 65536 / d.w ∧ x.config.width * 65536 / d.w ≤ 262144) ∧
      16384 ≤ x.config.height * 65536 / d.h ∧ x.config.height * 65536 / d.h ≤ 262144 := by
  unfold State.fallbackFits
  cases q.fallback with
  | none => exact iff_of_true rfl fun i x h => by cases h
  | some i =>
    rw [Option.bind_some]
    cases hx : s.stream i with
    | none =>
      refine iff_of_true rfl fun j x hj hjx => ?_
      obtain rfl := Option.some.inj hj
      cases hx.symm.trans hjx
    | some x =>
      dsimp only
      rw [Bool.and_eq_true, stepInRange_iff, stepInRange_iff]
      refine ⟨fun h j y hj hy => ?_, fun h => h i x rfl hx⟩
      obtain rfl := Option.some.inj hj
      obtain rfl := Option.some.inj (hx.symm.trans hy)
      exact h

theorem safetyWindowOk_normal {s : State} {r : Route} (h : r.safety = none) (t : Timing) :
    s.safetyWindowOk r t = true := by
  rw [State.safetyWindowOk, h]

section
variable {s : State} {r : Route} {p : Placement} (hp : r.source = some p) (t : Timing)
include hp

theorem placementOk_of_open {x : Stream} (hx : s.stream p.stream = some x) : s.placementOk r t =
    (p.window.inside x.config.width x.config.height 16 && p.dest.inside t.hActive t.vActive 16 &&
      stepInRange (axisStep p.window.w p.dest.w) && stepInRange (axisStep p.window.h p.dest.h)) := by
  rw [State.placementOk, hp]
  dsimp only
  rw [hx]

theorem safetyWindowOk_safety {q : SafetyPart} (h : r.safety = some q) :
    s.safetyWindowOk r t = (q.window.inside t.hActive t.vActive 1 && s.fallbackFits q p.dest) := by
  rw [State.safetyWindowOk, h, hp]
  rfl
end

theorem geometry_iff {s : State} {r : Route} (hopen : s.streamsOpen r = true)
    (hwith : r.safety.isSome = true → r.source.isSome = true) (t : Timing) :
    (s.placementOk r t && s.safetyWindowOk r t) = true ↔ s.Geometry r t := by
  unfold State.Geometry
  cases hsource : r.source with
  | none =>
    have hnormal : r.safety = none := by
      cases hsafety : r.safety with
      | none => rfl
      | some q => simp [hsafety, hsource] at hwith
    exact iff_of_true (by simp [State.placementOk, State.safetyWindowOk, hsource, hnormal]) nofun
  | some p =>
    obtain ⟨x, hx⟩ := Option.ne_none_iff_exists'.mp (((streamsOpen_iff s r).mp hopen).1 p hsource)
    rw [placementOk_of_open hsource t hx]
    cases hsafety : r.safety with
    | none =>
      rw [safetyWindowOk_normal hsafety t]
      simp [inside_iff, stepInRange_iff, hx, and_assoc]
    | some q =>
      rw [safetyWindowOk_safety hsource t hsafety]
      simp [inside_iff, stepInRange_iff, fallbackFits_iff, hx, and_assoc]

section
variable {s : State} {o : Fin 4} {r : Route}

theorem routeRefusal_of_none (h : (s.output o).timingInForce = none) : s.routeRefusal o r = some .wrongState := by
  rw [State.routeRefusal, h]

theorem routeRefusal_of_some {t : Timing} (h : (s.output o).timingInForce = some t) : s.routeRefusal o r =
    if s.streamsOpen r = false then some .wrongState
    else if (s.placementOk r t && s.safetyWindowOk r t) = false then some .badArg
    else if s.safetyStateOk r = false then some .wrongState
    else if s.overBudget o t r = true then some .overBudget
    else none := by
  rw [State.routeRefusal, h]
end

/-! ### What an accepted route does (R55 to R59) -/

theorem contextFor_eq (r : Route) : contextFor r = r.safety.map (fun _ => ⟨.waiting, none, .clean, false, 0, 0, [], 0⟩) := by
  unfold contextFor
  cases r.safety <;> rfl

theorem acceptRoute_off {s : State} {o : Fin 4} (h : (s.output o).state = .off) (r : Route) (reply : List Byte) :
    s.acceptRoute o r reply = ((s.setOutput o { s.output o with
      route := r, stagedRoute := none, lastShown := none
      context := r.safety.map (fun _ => ⟨.waiting, none, .clean, false, 0, 0, [], 0⟩) }).evaluate o).done reply := by
  rw [State.acceptRoute, if_pos h, ← contextFor_eq]
  rfl

theorem acceptRoute_on {s : State} {o : Fin 4} (h : (s.output o).state ≠ .off) (r : Route) (reply : List Byte) :
    s.acceptRoute o r reply = (s.setOutput o { s.output o with stagedRoute := some r }).taken reply := by
  rw [State.acceptRoute, if_neg h]
  rfl

theorem replyBody_eq (r : Route) (b : Byte) : r.replyBody b = [b] ++
    (match r.source with
      | none => List.replicate 8 0
      | some p => wordBytes (BitVec.ofNat 32 (p.window.w * 65536 / p.dest.w)) ++
          wordBytes (BitVec.ofNat 32 (p.window.h * 65536 / p.dest.h))) ++
    [BitVec.ofNat 8 r.holdAfter] ++
    (match r.safety with
      | none => [0, 0, 0]
      | some q => halfBytes (BitVec.ofNat 16 q.timeoutMs) ++ [BitVec.ofNat 8 q.threshold]) := by
  unfold Route.replyBody
  cases r.source <;> cases r.safety <;> simp [wordOf, halfOf, axisStep, byteOf] <;> rfl

theorem routeSetHandler_bad {body : List Byte} (h : readRoute body = none ∨ 3 < (byteAt body 0).toNat) (s : State) :
    routeSetHandler body s = s.refuse .badArg := by
  unfold routeSetHandler
  obtain h | h := h
  · rw [h]
    simp
  · rw [four?_of_gt h]

theorem routeSetHandler_read {body : List Byte} {o : Fin 4} {r : Route} (ho : o.val = (byteAt body 0).toNat)
    (hr : readRoute body = some r) (s : State) : routeSetHandler body s = match s.routeRefusal o r with
      | some status => s.refuse status
      | none => s.acceptRoute o r (r.replyBody (byteAt body 0)) := by
  rw [routeSetHandler, four?_of_val ho, hr] <;> rfl

/-- Settles O27. -/
theorem routeSetRules : Obligations.RouteSetRules := by
  unfold Obligations.RouteSetRules
  intro steps within
  refine ⟨fun body => ⟨fun hbad => ?unread, fun hok => ?read⟩, fun s o r hwith => ?refusal, fun s dt tag body hs hl =>
    ⟨fun hbad => ?bad, fun o r ho hr => ⟨fun status hstatus => ?refused, fun hnone => ⟨fun hoff => ?off, fun hon => ?on⟩⟩⟩⟩
  case unread =>
    cases hr : readRoute body with
    | none => rfl
    | some r => exact absurd (ok_of_readRoute hr) hbad
  case read =>
    obtain ⟨hsource, h18, halt, hboth, hclass, hsafety⟩ := hok
    obtain ⟨source, hv, hnone, hsome⟩ := streamOrNone?_of_ok hsource
    have hparts {safety : Option SafetyPart} (hread : readClass body = some safety)
        (hwith : safety.isSome = true → source.isSome = true) :=
      readRoute_of_parts hv h18 halt hboth hread hwith
    have hnone' (safety : Option SafetyPart) : (routeOf body source safety).source = none ↔ (byteAt body 1).toNat = 255 := by
      rw [← hnone]
      exact Option.map_eq_none_iff
    have hsome' (safety : Option SafetyPart) (p : Placement) (hp : (routeOf body source safety).source = some p) :
        p.stream.val = (byteAt body 1).toNat ∧ p.window = readRect body 2 ∧ p.dest = readRect body 10 := by
      obtain ⟨i, hi, rfl⟩ := Option.map_eq_some_iff.mp hp
      exact ⟨hsome i hi, rfl, rfl⟩
    obtain h0 | h1 := zero_or_one hclass
    · exact ⟨_, hparts (readClass_normal h0) nofun, hnone' none, hsome' none, rfl, rfl, rfl, rfl, fun _ => rfl,
        fun h => absurd (h0.symm.trans h) (by decide)⟩
    · obtain ⟨hfallback, haction, hne⟩ := hsafety h1
      obtain ⟨q, hq, hsays⟩ := readSafety_of_ok hfallback haction
      have hread : readClass body = some (some q) := by rw [readClass_safety h1, hq]; rfl
      have hwith : source.isSome = true := Option.isSome_iff_ne_none.mpr fun h => hne (hnone.mp h)
      exact ⟨_, hparts hread fun _ => hwith, hnone' (some q), hsome' (some q), rfl, rfl, rfl, rfl,
        fun h => absurd (h1.symm.trans h) (by decide), fun _ => ⟨q, rfl, hsays⟩⟩
  case refusal =>
    intro streamsOpen geometry watched timing
    have hopen := streamsOpen_iff s r
    have hwatched := safetyStateOk_iff s r
    refine ⟨fun h => routeRefusal_of_none h, fun t ht => ?_⟩
    intro tier
    have hblocked : s.overBudget o t r = true ↔ tier = .blocked := beq_iff_eq
    rw [routeRefusal_of_some (r := r) ht]
    refine ⟨fun h => ?closed, fun h hg => ?geometry, fun h hg hw => ?unwatched, fun h hg hw hb => ?budget,
      fun h hg hw hb => ?fits⟩
    case closed => exact if_pos (Bool.eq_false_iff.mpr (mt hopen.mp h))
    all_goals
      have hgeometry : _ ↔ geometry t := geometry_iff (hopen.mpr h) hwith t
      rw [if_neg (by simp [hopen.mpr h])]
    case geometry => exact if_pos (Bool.eq_false_iff.mpr (mt hgeometry.mp hg))
    all_goals rw [if_neg (by simp [hgeometry.mpr hg])]
    case unwatched => exact if_pos (Bool.eq_false_iff.mpr (mt hwatched.mp hw))
    all_goals rw [if_neg (by simp [hwatched.mpr hw])]
    case budget => exact if_pos (hblocked.mpr hb)
    case fits => exact if_neg (mt hblocked.mp hb)
  case bad => exact exec_of_handler (k := .routeSet) rfl hs hl (routeSetHandler_bad hbad _)
  all_goals have hanswer := routeSetHandler_read ho hr (arrived s dt body)
  case refused =>
    rw [hstatus] at hanswer
    exact exec_of_handler (k := .routeSet) rfl hs hl hanswer
  all_goals rw [hnone] at hanswer
  case off =>
    replace hanswer := hanswer.trans (acceptRoute_off hoff r _)
    rw [replyBody_eq] at hanswer
    exact exec_of_handler (k := .routeSet) rfl hs hl hanswer
  case on =>
    replace hanswer := hanswer.trans (acceptRoute_on hon r _)
    rw [replyBody_eq] at hanswer
    exact exec_of_handler (k := .routeSet) rfl hs hl hanswer

/-! ### ROUTE_CLEAR and TIMING_SET (R56, R75, R76) -/

theorem routeInForce_eq (v : Output) : v.routeInForce = match v.stagedRoute with
    | some r => r
    | none => v.route := by
  unfold Output.routeInForce
  cases v.stagedRoute <;> rfl

theorem routeClearHandler_unknown {body : List Byte} (h : 3 < (byteAt body 0).toNat) (s : State) :
    routeClearHandler body s = s.refuse .badArg := by
  rw [routeClearHandler, four?_of_gt h]

theorem routeClearHandler_known {body : List Byte} {o : Fin 4} (ho : o.val = (byteAt body 0).toNat) (s : State) :
    routeClearHandler body s = s.acceptRoute o (clearingRoute (s.output o).routeInForce) [] := by
  rw [routeClearHandler, four?_of_val ho]

theorem timingSetHandler_unknown {body : List Byte} (h : 3 < (byteAt body 0).toNat) (s : State) :
    timingSetHandler body s = s.refuse .badArg := by
  rw [timingSetHandler, four?_of_gt h]

theorem timingSetHandler_known {body : List Byte} {o : Fin 4} (ho : o.val = (byteAt body 0).toNat) (s : State) :
    timingSetHandler body s =
      if (readTiming body).inRange = false ∨ (s.output o).routeInForce.fitsTiming (readTiming body) = false then
        s.refuse .badArg
      else if (s.output o).routeInForce.source.isSome = true ∧
          s.overBudget o (readTiming body) (s.output o).routeInForce = true then s.refuse .overBudget
      else if (s.output o).state = .off then
        ((s.setOutput o { s.output o with timing := some (readTiming body) }).evaluate o).done
          ((readTiming body).replyBody (byteAt body 0))
      else (s.setOutput o { s.output o with stagedTiming := some (readTiming body) }).taken
        ((readTiming body).replyBody (byteAt body 0)) := by
  rw [timingSetHandler, four?_of_val ho]
  rfl

theorem fitsTiming_iff (r : Route) (t : Timing) : r.fitsTiming t = true ↔
    (∀ p, r.source = some p → p.dest.x + p.dest.w ≤ t.hActive ∧ p.dest.y + p.dest.h ≤ t.vActive) ∧
    (∀ q, r.safety = some q → q.window.x + q.window.w ≤ t.hActive ∧ q.window.y + q.window.h ≤ t.vActive) := by
  unfold Route.fitsTiming
  rw [Bool.and_eq_true]
  refine and_congr ?_ ?_
  · cases r.source <;> simp [inside_iff]
  · cases r.safety <;> simp [inside_iff]

/-- Settles O28. -/
theorem clearAndTimingRules : Obligations.ClearAndTimingRules := by
  unfold Obligations.ClearAndTimingRules
  refine ⟨fun s dt tag n hs => ⟨fun hn => ?noOutput, fun o ho => ?clear⟩, fun s dt tag body hs hlength =>
    ⟨fun hb => ?noTimed, fun o ho => ?timing⟩⟩
  case noOutput =>
    have hn' : 3 < (byteAt [n] 0).toNat := hn
    exact exec_of_handler (k := .routeClear) rfl hs rfl (routeClearHandler_unknown hn' _)
  case clear =>
    have ho' : o.val = (byteAt [n] 0).toNat := ho
    have hanswer := routeClearHandler_known ho' (arrived s dt [n])
    rw [routeInForce_eq] at hanswer
    exact ⟨fun hoff => exec_of_handler (k := .routeClear) rfl hs rfl (hanswer.trans (acceptRoute_off hoff ..)),
      fun hon => exec_of_handler (k := .routeClear) rfl hs rfl (hanswer.trans (acceptRoute_on hon ..))⟩
  all_goals have hl : RequestKind.timingSet.lengthOk body = true := by simp [RequestKind.lengthOk, hlength]
  case noTimed => exact exec_of_handler (k := .timingSet) rfl hs hl (timingSetHandler_unknown hb _)
  case timing =>
    have hanswer := timingSetHandler_known ho (arrived s dt body)
    rw [routeInForce_eq] at hanswer
    intro v r inRange contains covers tooMuch reply
    have hrange : (readTiming body).inRange = true ↔ inRange := decide_eq_true_iff
    have hcovers : r.fitsTiming (readTiming body) = true ↔ covers := fitsTiming_iff ..
    have hmuch : (r.source.isSome = true ∧ (arrived s dt body).overBudget o (readTiming body) r = true) ↔ tooMuch := by
      rw [Option.isSome_iff_ne_none, State.overBudget, beq_iff_eq]
      exact Iff.rfl
    refine ⟨fun hbad => ?bad, fun hin hfit hover => ?tooMuch, fun hin hfit hunder => ?set⟩
    case bad =>
      have hcheck : (readTiming body).inRange = false ∨ r.fitsTiming (readTiming body) = false := by
        rw [Bool.eq_false_iff, Bool.eq_false_iff, Ne, Ne, hrange, hcovers]
        exact hbad
      exact exec_of_handler (k := .timingSet) rfl hs hl (hanswer.trans (if_pos hcheck))
    all_goals
      have hpass : ¬ ((readTiming body).inRange = false ∨ r.fitsTiming (readTiming body) = false) := by
        simp [hrange.mpr hin, hcovers.mpr hfit]
      replace hanswer := hanswer.trans (if_neg hpass)
    case tooMuch => exact exec_of_handler (k := .timingSet) rfl hs hl (hanswer.trans (if_pos (hmuch.mpr hover)))
    case set =>
      replace hanswer := hanswer.trans (if_neg (mt hmuch.mp hunder))
      exact ⟨fun hoff => exec_of_handler (k := .timingSet) rfl hs hl (hanswer.trans (if_pos hoff)),
        fun hon => exec_of_handler (k := .timingSet) rfl hs hl (hanswer.trans (if_neg hon))⟩

end Sys2Proof.Machine
end

section
/-! A ledger of what a change posts, notice by notice, and of what it makes of one output; staged items as they are applied;
and the PROOF of SelectionCases (O30) and OutputControlRules (O29). -/

namespace Sys2Proof.Machine

open Sys2Proof.Claims

/-! ### What a change posts (R197) -/

/-- Of object n a change posts once each kind that P says, unless INIT or the mask stops it, and nothing else. -/
structure Counted (n : Nat) (P : NoticeKind → Prop) (s t : State) : Prop where
  mode : t.mode = s.mode
  mask : t.mask = s.mask
  ok : NoticesOk s → NoticesOk t
  posted : NoticesOk s → ∀ k, P k → s.mode ≠ .init → s.masked k = false →
    countOf t.notices k n = min 255 (countOf s.notices k n + 1)
  kept : NoticesOk s → ∀ k o, ¬ (P k ∧ o = n ∧ s.mode ≠ .init ∧ s.masked k = false) →
    countOf t.notices k o = countOf s.notices k o

theorem Counted.masked {n : Nat} {P : NoticeKind → Prop} {s t : State} (h : Counted n P s t) (k : NoticeKind) :
    t.masked k = s.masked k := by
  rw [State.masked, State.masked, h.mask]

/-- A change that posts nothing. -/
theorem Counted.none {s t : State} (n : Nat) (hmode : t.mode = s.mode) (hmask : t.mask = s.mask)
    (hnotices : t.notices = s.notices) : Counted n (fun _ => False) s t where
  mode := hmode
  mask := hmask
  ok := fun h => by rwa [NoticesOk, hnotices]
  posted := fun _ _ h => h.elim
  kept := fun _ _ _ _ => by rw [hnotices]

theorem Counted.congr {n : Nat} {P Q : NoticeKind → Prop} {s t : State} (h : Counted n P s t) (hPQ : ∀ k, P k ↔ Q k) :
    Counted n Q s t :=
  (funext fun k => propext (hPQ k) : P = Q) ▸ h

theorem Counted.ofPost (s : State) (k : NoticeKind) (n : Nat) : Counted n (fun k' => k' = k) s (s.post k n) := by
  obtain ⟨ns, hpost⟩ := post_eq s k n
  refine ⟨by rw [hpost], by rw [hpost], post_noticesOk s k n, ?posted, ?kept⟩
  case posted =>
    rintro hok k rfl hmode hmask
    rw [post_of_not_blocked hmode hmask]
    exact countOf_raiseNotice_same k n hok.1
  case kept =>
    intro hok k' o hnot
    by_cases hblocked : s.mode = .init ∨ s.masked k = true
    · rw [post_of_blocked hblocked]
    · obtain ⟨hmode, hmask⟩ := not_or.mp hblocked
      rw [post_of_not_blocked hmode (Bool.eq_false_iff.mpr hmask)]
      refine countOf_raiseNotice_other ?_ s.notices
      by_contra hsame
      obtain ⟨rfl, rfl⟩ := not_or.mp hsame |>.imp not_not.mp not_not.mp
      exact hnot ⟨rfl, rfl, hmode, Bool.eq_false_iff.mpr hmask⟩

/-- Two changes one after the other, which post different kinds. -/
theorem Counted.trans {n : Nat} {P Q : NoticeKind → Prop} {s t u : State} (h : Counted n P s t) (g : Counted n Q t u)
    (hdisjoint : ∀ k, P k → ¬ Q k) : Counted n (fun k => P k ∨ Q k) s u where
  mode := g.mode.trans h.mode
  mask := g.mask.trans h.mask
  ok := fun hok => g.ok (h.ok hok)
  posted := by
    intro hok k hk hmode hmask
    have hmode' : t.mode ≠ .init := by rwa [h.mode]
    have hmask' : t.masked k = false := by rwa [h.masked]
    obtain hP | hQ := hk
    · rw [g.kept (h.ok hok) k n fun hQ => hdisjoint k hP hQ.1, h.posted hok k hP hmode hmask]
    · rw [g.posted (h.ok hok) k hQ hmode' hmask', h.kept hok k n fun hP => hdisjoint k hP.1 hQ]
  kept := by
    intro hok k o hnot
    have hP : ¬ (P k ∧ o = n ∧ s.mode ≠ .init ∧ s.masked k = false) := fun ⟨hk, hrest⟩ => hnot ⟨.inl hk, hrest⟩
    have hQ : ¬ (Q k ∧ o = n ∧ t.mode ≠ .init ∧ t.masked k = false) := by
      rw [h.mode, h.masked]
      exact fun ⟨hk, hrest⟩ => hnot ⟨.inr hk, hrest⟩
    rw [g.kept (h.ok hok) k o hQ, h.kept hok k o hP]

/-- A change before which and after which nothing is posted. -/
theorem Counted.then_none {n : Nat} {P : NoticeKind → Prop} {s t u : State} (h : Counted n P s t)
    (g : Counted n (fun _ => False) t u) : Counted n P s u :=
  (h.trans g fun _ _ hf => hf).congr fun _ => or_iff_left id

theorem Counted.after_none {n : Nat} {P : NoticeKind → Prop} {s t u : State} (g : Counted n P t u)
    (h : Counted n (fun _ => False) s t) : Counted n P s u :=
  (h.trans g fun _ hf => hf.elim).congr fun _ => or_iff_right id

/-- A posting that happens under a condition. -/
theorem Counted.ofPostIf (c : Prop) [Decidable c] (s : State) (k : NoticeKind) (n : Nat) :
    Counted n (fun k' => k' = k ∧ c) s (if c then s.post k n else s) := by
  split
  next h => exact (Counted.ofPost s k n).congr fun k' => ⟨fun e => ⟨e, h⟩, fun e => e.1⟩
  next h => exact (Counted.none n rfl rfl rfl).congr fun k' => ⟨False.elim, fun e => h e.2⟩

/-! ### What a change makes of one output -/

/-- A change leaves output o as w, posts of it the kinds P says, and changes nothing else. -/
structure OutputPosts (o : Fin 4) (P : NoticeKind → Prop) (s : State) (w : Output) (t : State) : Prop where
  only : ∃ ns, t = { s.setOutput o w with notices := ns }
  counts : Counted o.val P s t

section
variable {o : Fin 4} {P Q : NoticeKind → Prop} {s t u : State} {w w' : Output}

theorem OutputPosts.output (h : OutputPosts o P s w t) : t.output o = w := by
  obtain ⟨ns, rfl⟩ := h.only
  exact output_setOutput s o w

theorem OutputPosts.output_ne (h : OutputPosts o P s w t) {p : Fin 4} (hp : p ≠ o) : t.output p = s.output p := by
  obtain ⟨ns, rfl⟩ := h.only
  exact output_setOutput_ne s o p w hp

theorem OutputPosts.link (h : OutputPosts o P s w t) (l : Fin 4) : t.link l = s.link l := by
  obtain ⟨ns, rfl⟩ := h.only
  rfl

theorem OutputPosts.congr (h : OutputPosts o P s w t) (hPQ : ∀ k, P k ↔ Q k) : OutputPosts o Q s w t :=
  ⟨h.only, h.counts.congr hPQ⟩

theorem setOutput_setOutput (s : State) (o : Fin 4) (v w : Output) :
    (s.setOutput o v).setOutput o w = s.setOutput o w := by
  simp [State.setOutput, Four.set_set]

theorem setOutput_output (s : State) (o : Fin 4) : s.setOutput o (s.output o) = s :=
  modOutput_self s o (fun v => v) rfl

theorem OutputPosts.trans (h : OutputPosts o P s w t) (g : OutputPosts o Q t w' u) (hdisjoint : ∀ k, P k → ¬ Q k) :
    OutputPosts o (fun k => P k ∨ Q k) s w' u := by
  refine ⟨?_, h.counts.trans g.counts hdisjoint⟩
  obtain ⟨ns, rfl⟩ := h.only
  obtain ⟨ns', rfl⟩ := g.only
  exact ⟨ns', congrArg (fun x : State => { x with notices := ns' }) (setOutput_setOutput s o w w')⟩

theorem OutputPosts.refl (o : Fin 4) (s : State) : OutputPosts o (fun _ => False) s (s.output o) s :=
  ⟨⟨s.notices, by rw [setOutput_output]⟩, .none _ rfl rfl rfl⟩

/-- The output is changed before or after something is posted. -/
theorem OutputPosts.then_mod (h : OutputPosts o P s w t) (f : Output → Output) :
    OutputPosts o P s (f w) (t.modOutput o f) := by
  refine ⟨?_, h.counts.then_none (.none _ rfl rfl rfl)⟩
  rw [State.modOutput, h.output]
  obtain ⟨ns, rfl⟩ := h.only
  exact ⟨ns, congrArg (fun x : State => { x with notices := ns }) (setOutput_setOutput s o w (f w))⟩

theorem OutputPosts.mod (o : Fin 4) (s : State) (f : Output → Output) :
    OutputPosts o (fun _ => False) s (f (s.output o)) (s.modOutput o f) := (OutputPosts.refl o s).then_mod f

theorem OutputPosts.then_postIf (h : OutputPosts o P s w t) (c : Prop) [Decidable c] {k : NoticeKind} (hk : ¬ P k) :
    OutputPosts o (fun k' => P k' ∨ (k' = k ∧ c)) s w (if c then t.post k o.val else t) := by
  refine ⟨?_, h.counts.trans (.ofPostIf c t k o.val) fun k' hP hQ => hk (hQ.1 ▸ hP)⟩
  obtain ⟨ns, hns⟩ := h.only
  split
  · obtain ⟨ns', hpost⟩ := post_eq t k o.val
    exact ⟨ns', by rw [hpost, hns]⟩
  · exact ⟨ns, hns⟩

theorem OutputPosts.then_post (h : OutputPosts o P s w t) {k : NoticeKind} (hk : ¬ P k) :
    OutputPosts o (fun k' => P k' ∨ k' = k) s w (t.post k o.val) :=
  (h.then_postIf True hk).congr fun k' => by rw [and_true]
end

/-- SEEKING posts LOCK_STATE on a change from LOCKED. -/
theorem seekLock_posts (s : State) (o : Fin 4) :
    OutputPosts o (fun k => k = .lockState ∧ (s.output o).lock = .locked) s (s.output o).seek (s.seekLock o) :=
  ((OutputPosts.mod o s Output.seek).then_postIf ((s.output o).lock = .locked) id).congr fun _ => or_iff_right id

/-- An evaluation posts OUTPUT_TIER on a change of the tier (R99, R101). -/
theorem evaluate_posts (s : State) (o : Fin 4) : OutputPosts o (fun k => k = .outputTier ∧ s.tierNow o ≠ (s.output o).tier) s
    { s.output o with tier := s.tierNow o } (s.evaluate o) := by
  unfold State.evaluate
  dsimp only
  split
  next h =>
    rw [h]
    exact (OutputPosts.refl o s).congr fun k => ⟨False.elim, fun e => e.2 rfl⟩
  next h =>
    exact ((OutputPosts.mod o s fun v => { v with tier := s.tierNow o }).then_post id).congr fun k =>
      ⟨fun e => ⟨e.resolve_left id, h⟩, fun e => .inr e.1⟩

/-! ### Staged timing and route (R58, R59, R77) -/

/-- Does the staged timing change what frame lock counts in (R77)? -/
def Output.seeks (v : Output) : Bool :=
  v.lockOn && match v.stagedTiming with
    | none => false
    | some t => rasterChanged v.timing t

section
variable {s : State} {o : Fin 4}

theorem applyStagedTiming_none (h : (s.output o).stagedTiming = none) : s.applyStagedTiming o = s := by
  rw [State.applyStagedTiming]
  dsimp only
  rw [h]

theorem applyStagedTiming_some {t : Timing} (h : (s.output o).stagedTiming = some t) : s.applyStagedTiming o =
    let s' := s.modOutput o (fun v => { v with timing := some t, stagedTiming := none })
    if (s.output o).seeks then s'.seekLock o else s' := by
  rw [State.applyStagedTiming, Output.seeks]
  dsimp only
  rw [h]
end

/-- The output with its staged timing applied (R77). -/
def Output.applyTiming (v : Output) : Output := { v with
  timing := v.stagedTiming.or v.timing, stagedTiming := none
  lock := if v.seeks then .seeking else v.lock
  goodLocks := if v.seeks then 0 else v.goodLocks
  badLocks := if v.seeks then 0 else v.badLocks
  phaseError := if v.seeks then 0 else v.phaseError }

theorem applyTiming_of_seeks {v : Output} (h : v.seeks = true) :
    v.applyTiming = { v with timing := v.stagedTiming.or v.timing, stagedTiming := none }.seek := by
  simp [Output.applyTiming, h, Output.seek]

theorem applyTiming_of_not_seeks {v : Output} (h : v.seeks = false) :
    v.applyTiming = { v with timing := v.stagedTiming.or v.timing, stagedTiming := none } := by
  simp [Output.applyTiming, h]

theorem applyTiming_none {v : Output} (h : v.stagedTiming = none) : v.applyTiming = v := by
  have hno : v.seeks = false := by rw [Output.seeks, h, Bool.and_false]
  rw [applyTiming_of_not_seeks hno, h, Option.none_or, ← h]

theorem applyStagedTiming_posts (s : State) (o : Fin 4) :
    OutputPosts o (fun k => k = .lockState ∧ (s.output o).seeks = true ∧ (s.output o).lock = .locked) s
      (s.output o).applyTiming (s.applyStagedTiming o) := by
  cases hstaged : (s.output o).stagedTiming with
  | none =>
    have hno : (s.output o).seeks = false := by rw [Output.seeks, hstaged, Bool.and_false]
    rw [applyStagedTiming_none hstaged, applyTiming_none hstaged]
    exact (OutputPosts.refl o s).congr fun k => ⟨False.elim, fun h => absurd (hno.symm.trans h.2.1) Bool.false_ne_true⟩
  | some t =>
    have hset := OutputPosts.mod o s fun v => { v with timing := some t, stagedTiming := none }
    rw [applyStagedTiming_some hstaged]
    dsimp only
    cases hseeks : (s.output o).seeks with
    | false =>
      rw [applyTiming_of_not_seeks hseeks, hstaged, if_neg Bool.false_ne_true]
      exact hset.congr fun k => ⟨False.elim, fun h => absurd h.2.1 Bool.false_ne_true⟩
    | true =>
      have hseek := seekLock_posts (s.modOutput o fun v => { v with timing := some t, stagedTiming := none }) o
      rw [output_modOutput] at hseek
      rw [applyTiming_of_seeks hseeks, hstaged, if_pos rfl]
      exact (hset.trans hseek fun _ hf => hf.elim).congr fun k =>
        ⟨fun h => (h.resolve_left id).imp_right fun hl => ⟨rfl, hl⟩, fun h => .inr (h.imp_right And.right)⟩

/-- The output with its staged route applied (R58 steps 1, 3 and 4). -/
def Output.takeRoute (v : Output) : Output := { v with
  route := v.stagedRoute.getD v.route, stagedRoute := none
  lastShown := if v.stagedRoute = none then v.lastShown else none
  context := if v.stagedRoute = none then v.context else contextFor (v.stagedRoute.getD v.route) }

theorem applyStagedRoute_eq (s : State) (o : Fin 4) : s.applyStagedRoute o = s.modOutput o Output.takeRoute := by
  unfold State.applyStagedRoute
  cases hstaged : (s.output o).stagedRoute with
  | none =>
    refine (modOutput_self s o _ ?_).symm
    simp only [Output.takeRoute, hstaged, Option.getD_none, if_true]
    rw [← hstaged]
  | some r =>
    refine congrArg (s.setOutput o) ?_
    simp [Output.takeRoute, Output.applyRoute, hstaged]

/-- PAUSED ends where a route is applied at a vertical start (R58 step 2). -/
def Output.unpause (c : Bool) (v : Output) : Output := { v with
  state := if c = true ∧ v.state = .paused then .scanning else v.state
  unchanged := if c = true ∧ v.state = .paused then 0 else v.unchanged }

theorem endPauseIf_eq (s : State) (o : Fin 4) (c : Bool) :
    (if c then s.endPause o else s) = s.modOutput o (Output.unpause c) := by
  cases c with
  | false => exact (modOutput_self s o _ (by simp [Output.unpause])).symm
  | true =>
    rw [if_pos rfl, State.endPause]
    split
    next h => exact congrArg (s.setOutput o) (by simp [Output.unpause, h])
    next h => exact (modOutput_self s o _ (by simp [Output.unpause, h])).symm

/-- The output with all its staged items applied and its tier evaluated (R58, R59, R77, R100). -/
def Output.withStaged (v : Output) (atStart : Bool) (tier : Tier) : Output :=
  { (v.applyTiming.unpause (atStart && v.stagedRoute.isSome)).takeRoute with tier := tier }

/-- The tier of an output with its staged items applied. -/
def State.stagedTier (s : State) (o : Fin 4) : Tier :=
  let v := s.output o
  let route := v.stagedRoute.getD v.route
  chooseTier (v.stagedTiming.or v.timing) route.allow18 route.allowAlt (s.link o).governingRate

theorem applyStaged_none {s : State} {o : Fin 4} (h : (s.output o).stagedTiming = none ∧ (s.output o).stagedRoute = none)
    (atStart : Bool) : s.applyStaged o atStart = s := by
  simp [State.applyStaged, h]

/-- Staged items are applied: the output as withStaged says it, ROUTE_APPLIED, and OUTPUT_TIER and LOCK_STATE on a change. -/
theorem applyStaged_posts {s : State} {o : Fin 4}
    (h : (s.output o).stagedTiming ≠ none ∨ (s.output o).stagedRoute ≠ none) (atStart : Bool) :
    OutputPosts o (fun k => ((k = .lockState ∧ (s.output o).seeks = true ∧ (s.output o).lock = .locked) ∨
        (k = .outputTier ∧ s.stagedTier o ≠ (s.output o).tier)) ∨ k = .routeApplied) s
      ((s.output o).withStaged atStart (s.stagedTier o)) (s.applyStaged o atStart) := by
  have hstaged : ¬ ((s.output o).stagedTiming.isNone && (s.output o).stagedRoute.isNone) = true := by
    rw [Bool.and_eq_true, Option.isNone_iff_eq_none, Option.isNone_iff_eq_none]
    tauto
  unfold State.applyStaged
  dsimp only
  rw [if_neg hstaged, endPauseIf_eq, applyStagedRoute_eq]
  have hrouted := ((applyStagedTiming_posts s o).then_mod
    (Output.unpause (atStart && (s.output o).stagedRoute.isSome))).then_mod Output.takeRoute
  have htier := evaluate_posts (((s.applyStagedTiming o).modOutput o
    (Output.unpause (atStart && (s.output o).stagedRoute.isSome))).modOutput o Output.takeRoute) o
  rw [State.tierNow, hrouted.output, hrouted.link] at htier
  exact (hrouted.trans htier fun k hl ht => by cases hl.1.symm.trans ht.1).then_post fun hk =>
    hk.elim (fun hl => by cases hl.1) fun ht => by cases ht.1

end Sys2Proof.Machine
end

section
/-! PROOF of OutputControlRules (O29). -/

namespace Sys2Proof.Machine

open Sys2Proof.Claims

/-! ### OFF (R80) -/

/-- An output as OFF stops it. -/
def Output.switchOff (v : Output) : Output := { v.stop with state := .off, lastShown := none, unchanged := 0 }

/-- The state after an output that was not OFF has been switched off. -/
def State.switchedOff (s : State) (o : Fin 4) : State :=
  let stopped := (s.applyStaged o false).modOutput o Output.switchOff
  if (s.output o).lockOn then stopped.seekLock o else stopped

theorem outputOff_on {s : State} {o : Fin 4} (h : (s.output o).state ≠ .off) :
    s.outputOff o = (s.switchedOff o).done [] := if_neg h

/-- Does an output have staged items? -/
def Output.applies (v : Output) : Bool := decide (v.stagedTiming ≠ none ∨ v.stagedRoute ≠ none)

/-- An output after OFF, with what it applied at once, its tier and the lock (R58, R59, R74, R77, R80). -/
def Output.afterOff (v : Output) (tier : Tier) : Output := { v with
  state := .off, current := none, content := .background, lastShown := none, unchanged := 0, frameLines := 0
  untilStart := ⟨0, 1⟩, timing := v.stagedTiming.or v.timing, stagedTiming := none
  route := v.stagedRoute.getD v.route, stagedRoute := none, tier := tier
  context := if v.stagedRoute = none then v.context
    else (v.stagedRoute.getD v.route).safety.map (fun _ => ⟨.waiting, none, .clean, false, 0, 0, [], 0⟩)
  lock := if v.lockOn then .seeking else v.lock
  goodLocks := if v.lockOn then 0 else v.goodLocks
  badLocks := if v.lockOn then 0 else v.badLocks
  phaseError := if v.lockOn then 0 else v.phaseError }

theorem lockOn_of_seeks {v : Output} (h : v.seeks = true) : v.lockOn = true := (Bool.and_eq_true_iff.mp h).1

theorem afterOff_of_staged (v : Output) (tier : Tier) :
    (if v.lockOn then (v.withStaged false tier).switchOff.seek else (v.withStaged false tier).switchOff) =
      v.afterOff tier := by
  unfold Output.afterOff
  rw [← contextFor_eq]
  cases hlock : v.lockOn with
  | true => simp [Output.switchOff, Output.stop, Output.seek, Output.withStaged, Output.takeRoute, Output.unpause,
      Output.applyTiming, hlock]
  | false =>
    have hno : v.seeks = false := Bool.eq_false_iff.mpr fun h => by simp [lockOn_of_seeks h] at hlock
    simp [Output.switchOff, Output.stop, Output.withStaged, Output.takeRoute, Output.unpause, Output.applyTiming, hno, hlock]

theorem afterOff_of_unstaged {v : Output} (h : v.stagedTiming = none ∧ v.stagedRoute = none) :
    (if v.lockOn then v.switchOff.seek else v.switchOff) = v.afterOff v.tier := by
  obtain ⟨htiming, hroute⟩ := h
  cases hlock : v.lockOn <;>
    simp [Output.afterOff, Output.switchOff, Output.stop, Output.seek, htiming, hroute, hlock]

/-- SEEKING under a condition, after a change that has not left a lock to lose. -/
theorem OutputPosts.then_seekIf {o : Fin 4} {P : NoticeKind → Prop} {s t : State} {w : Output} (h : OutputPosts o P s w t)
    (c : Bool) (hlock : P .lockState → w.lock ≠ .locked) :
    OutputPosts o (fun k => P k ∨ (k = .lockState ∧ c = true ∧ w.lock = .locked)) s (if c then w.seek else w)
      (if c then t.seekLock o else t) := by
  cases c with
  | false =>
    rw [if_neg Bool.false_ne_true, if_neg Bool.false_ne_true]
    exact h.congr fun k => (or_iff_left fun hf => Bool.false_ne_true hf.2.1).symm
  | true =>
    have hseek := seekLock_posts t o
    rw [h.output] at hseek
    rw [if_pos rfl, if_pos rfl]
    refine (h.trans hseek fun k hP hl => ?_).congr fun k => or_congr_right (and_congr_right fun _ => (and_iff_right rfl).symm)
    obtain ⟨rfl, hlocked⟩ := hl
    exact hlock hP hlocked

/-- Switching off posts ROUTE_APPLIED where it applies something, OUTPUT_TIER and LOCK_STATE on a change. -/
theorem switchedOff_posts (s : State) (o : Fin 4) :
    OutputPosts o (fun k => (k = .routeApplied ∧ (s.output o).applies = true) ∨
        (k = .outputTier ∧ (if (s.output o).applies then s.stagedTier o else (s.output o).tier) ≠ (s.output o).tier) ∨
        (k = .lockState ∧ (s.output o).lockOn = true ∧ (s.output o).lock = .locked)) s
      ((s.output o).afterOff (if (s.output o).applies then s.stagedTier o else (s.output o).tier)) (s.switchedOff o) := by
  unfold State.switchedOff
  cases happlies : (s.output o).applies with
  | false =>
    have hnone : (s.output o).stagedTiming = none ∧ (s.output o).stagedRoute = none := by
      simpa [Output.applies] using happlies
    rw [applyStaged_none hnone, if_neg Bool.false_ne_true, ← afterOff_of_unstaged hnone]
    refine ((OutputPosts.mod o s Output.switchOff).then_seekIf (s.output o).lockOn False.elim).congr fun k => ?_
    simp [Output.switchOff, Output.stop]
  | true =>
    have hsome : (s.output o).stagedTiming ≠ none ∨ (s.output o).stagedRoute ≠ none := of_decide_eq_true happlies
    have hlock : ((s.output o).withStaged false (s.stagedTier o)).switchOff.lock =
        if (s.output o).seeks then .seeking else (s.output o).lock := rfl
    rw [if_pos rfl, ← afterOff_of_staged]
    refine (((applyStaged_posts hsome false).then_mod Output.switchOff).then_seekIf (s.output o).lockOn ?_).congr fun k => ?_
    · rintro ((⟨-, hseeks, -⟩ | ⟨hk, -⟩) | hk)
      · rw [hlock, hseeks]
        nofun
      · cases hk
      · cases hk
    · rw [hlock]
      cases hseeks : (s.output o).seeks with
      | true => simp [lockOn_of_seeks hseeks]; tauto
      | false => simp; tauto

/-! ### OUTPUT_CONTROL (R79 to R81) -/

theorem outputControlHandler_unknown {n action : Byte} (h : 3 < n.toNat ∨ 3 < action.toNat) (s : State) :
    outputControlHandler [n, action] s = s.refuse .badArg := by
  unfold outputControlHandler
  cases ho : four? (byteAt [n, action] 0) with
  | none => rfl
  | some o =>
    dsimp only
    obtain hn | ha := h
    · cases (four?_of_gt hn).symm.trans ho
    · split
      next h0 => exact absurd ha (by rw [show action.toNat = 0 from h0]; decide)
      next h1 => exact absurd ha (by rw [show action.toNat = 1 from h1]; decide)
      next h2 => exact absurd ha (by rw [show action.toNat = 2 from h2]; decide)
      next h3 => exact absurd ha (by rw [show action.toNat = 3 from h3]; decide)
      next => rfl

section
variable {n : Byte} {o : Fin 4} (ho : o.val = n.toNat) (s : State)
include ho

theorem outputControlHandler_on : outputControlHandler [n, 0] s = s.outputOn o := by
  rw [outputControlHandler, four?_of_val (show o.val = (byteAt [n, 0] 0).toNat from ho)]
  rfl

theorem outputControlHandler_off : outputControlHandler [n, 1] s = s.outputOff o := by
  rw [outputControlHandler, four?_of_val (show o.val = (byteAt [n, 1] 0).toNat from ho)]
  rfl

theorem outputControlHandler_pause : outputControlHandler [n, 2] s = s.outputPause o := by
  rw [outputControlHandler, four?_of_val (show o.val = (byteAt [n, 2] 0).toNat from ho)]
  rfl

theorem outputControlHandler_resume : outputControlHandler [n, 3] s = s.outputResume o := by
  rw [outputControlHandler, four?_of_val (show o.val = (byteAt [n, 3] 0).toNat from ho)]
  rfl
end

section
variable {s : State} {o : Fin 4}

theorem outputOn_running (h : (s.output o).state ≠ .off) : s.outputOn o = s.done [] := if_pos h

theorem outputOn_untimed (h : (s.output o).state = .off) (ht : (s.output o).timing = none) :
    s.outputOn o = s.refuse .wrongState :=
  (if_neg (not_not.mpr h)).trans (if_pos (by rw [ht]; rfl))

/-- ON begins the raster with the output SEEKING if its lock is on (R79). -/
theorem outputOn_begins (h : (s.output o).state = .off) (ht : (s.output o).timing ≠ none) : s.outputOn o =
    ((s.setOutput o { (s.output o).seekQuietly with
      state := if s.mode = .run then .scanning else .hold
      starts := 0, unchanged := 0, untilStart := ⟨0, 1⟩ }).verticalStart o).done [] := by
  have hon : s.outputOn o = ((s.modOutput o Output.seekQuietly).beginRaster o
      (if s.mode = .run then .scanning else .hold)).done [] :=
    (if_neg (not_not.mpr h)).trans (if_neg (by simpa [Option.isNone_iff_eq_none] using ht))
  rw [hon, State.beginRaster, State.modOutput, output_modOutput, State.modOutput, setOutput_setOutput]

theorem outputOff_off (h : (s.output o).state = .off) : s.outputOff o = s.done [] := if_pos h

theorem outputPause_refused (h : (s.output o).route.safety ≠ none ∨ (s.output o).state = .off ∨
    (∃ r, (s.output o).state = .suspended r) ∨ ((s.output o).state = .hold ∧ s.mode ≠ .run)) :
    s.outputPause o = s.refuse .wrongState := by
  unfold State.outputPause
  dsimp only
  split
  next => rfl
  next hnormal =>
    obtain h | h | ⟨r, h⟩ | ⟨h, hmode⟩ := h
    · exact absurd (Option.isSome_iff_ne_none.mpr h) hnormal
    · rw [h]
    · rw [h]
    · rw [h]
      exact if_neg hmode

theorem outputPause_paused (hnormal : (s.output o).route.safety = none) (h : (s.output o).state = .paused) :
    s.outputPause o = s.done [] := by
  unfold State.outputPause
  dsimp only
  rw [hnormal, h]
  rfl

theorem outputPause_pauses (hnormal : (s.output o).route.safety = none)
    (h : (s.output o).state = .scanning ∨ ((s.output o).state = .hold ∧ s.mode = .run)) : s.outputPause o =
      (s.setOutput o { s.output o with state := .paused, unchanged := 0 }).done [] := by
  unfold State.outputPause
  dsimp only
  rw [hnormal]
  obtain h | ⟨h, hmode⟩ := h
  · rw [h]
    rfl
  · rw [h]
    exact if_pos hmode

theorem outputResume_refused (h : (s.output o).state = .off ∨ ∃ r, (s.output o).state = .suspended r) :
    s.outputResume o = s.refuse .wrongState := by
  unfold State.outputResume
  obtain h | ⟨r, h⟩ := h <;> rw [h]

theorem outputResume_running (h : (s.output o).state = .scanning ∨ (s.output o).state = .hold) :
    s.outputResume o = s.done [] := by
  unfold State.outputResume
  obtain h | h := h <;> rw [h]

theorem outputResume_paused (h : (s.output o).state = .paused) : s.outputResume o =
    (s.setOutput o { s.output o with state := .scanning, unchanged := 0 }).done [] := by
  unfold State.outputResume
  rw [h]
  rfl
end

/-! ### LOCK_SET and OUTPUT_STATUS (R86, R90) -/

theorem lockSetHandler_bad {body : List Byte} (h : 3 < (byteAt body 0).toNat ∨ 1 < (byteAt body 1).toNat ∨
    100000 < (word body 2).toNat) (s : State) : lockSetHandler body s = s.refuse .badArg := by
  unfold lockSetHandler
  dsimp only
  split
  next o on ho hon =>
    obtain h | h | h := h
    · cases (four?_of_gt h).symm.trans ho
    · cases (yesNo?_of_gt h).symm.trans hon
    · exact if_pos h
  next => rfl

theorem lockSetHandler_set {body : List Byte} {o : Fin 4} (ho : o.val = (byteAt body 0).toNat)
    (ht : (word body 2).toNat ≤ 100000) {on : Bool} (hon : yesNo? (byteAt body 1) = some on) (s : State) :
    lockSetHandler body s = if on then (s.modOutput o (fun v => { v.seek with
        lockOn := true, lockTarget := (word body 2).toNat })).done [byteOf LockState.seeking.code]
      else (s.modOutput o (fun v => { v.seek with lockOn := false, lock := .free })).done [byteOf LockState.free.code] := by
  unfold lockSetHandler
  dsimp only
  rw [four?_of_val ho, hon]
  exact if_neg (not_lt.mpr ht)

theorem packFlags_five (a b c d e : Bool) : packFlags [a, b, c, d, e] = (if a then 1 else 0) + (if b then 2 else 0) +
    (if c then 4 else 0) + (if d then 8 else 0) + if e then 16 else 0 := by
  simp only [packFlags]
  repeat split <;> try rfl

theorem currentBytes_eq (s : State) (v : Output) : s.currentBytes v = match v.current with
    | none => [0xFF, 0xFF, 0, 0, 0, 0]
    | some ref => [BitVec.ofNat 8 ref.stream.val, BitVec.ofNat 8 ref.index.val] ++
        wordBytes (match (s.stream ref.stream).map (fun r => r.slot ref.index) with
          | some (Slot.ready q) => q
          | _ => 0) := by
  unfold State.currentBytes
  cases v.current with
  | none => rfl
  | some ref =>
    dsimp only
    rw [wordOr0_eq]
    cases s.stream ref.stream with
    | none => rfl
    | some r => cases hslot : r.slot ref.index <;> simp [Slot.seq?, hslot, byteOf]

/-- The resume state that OUTPUT_STATUS shows (11.2.3). -/
def OutputState.resumeByte : OutputState → Byte
  | .suspended .scanning => 1
  | .suspended .paused => 2
  | _ => 0xFF

/-- The first three bytes of OUTPUT_STATUS with any flags. -/
theorem outputHead_eq (state : OutputState) (flags : Byte) : [byteOf state.code, match state with
      | .suspended r => byteOf r.code
      | .off | .scanning | .paused | .hold => 0xFF, flags] = [byteOf state.code, state.resumeByte, flags] := by
  cases state with
  | suspended r => cases r <;> rfl
  | _ => rfl

theorem outputBody_eq (s : State) (o : Fin 4) : s.outputBody o =
    [byteOf (s.output o).state.code, (s.output o).state.resumeByte, byteOf (packFlags [(s.output o).timing.isSome,
      (s.output o).stagedTiming.isSome, (s.output o).stagedRoute.isSome, (s.output o).route.safety.isSome,
      (s.output o).lockOn])] ++ timingBytes (s.output o).timing ++ [byteOf (s.output o).content.code] ++
    s.currentBytes (s.output o) ++ [byteOf (s.output o).tier.code, byteOf (s.output o).lock.code] ++
    wordOf (s.output o).lockTarget ++ phaseBytes (s.output o).phaseError ++ halfBytes (s.link o).txSeq ++
    wordBytes (s.output o).starts ++ halfBytes (s.output o).unchanged := by
  rw [← outputHead_eq]
  rfl

theorem seekQuietly_of_lockOn {v : Output} (h : v.lockOn = true) : v.seekQuietly = v.seek := if_pos h

theorem seekQuietly_of_not_lockOn {v : Output} (h : v.lockOn = false) : v.seekQuietly = v :=
  if_neg (by rw [h]; exact Bool.false_ne_true)

/-- Settles O29. -/
theorem outputControlRules : Obligations.OutputControlRules := by
  unfold Obligations.OutputControlRules
  intro bit two body
  have hbody (s : State) (o : Fin 4) : s.outputBody o = body s o := by
    have hflags : byteOf (packFlags [(s.output o).timing.isSome, (s.output o).stagedTiming.isSome,
        (s.output o).stagedRoute.isSome, (s.output o).route.safety.isSome, (s.output o).lockOn]) =
        BitVec.ofNat 8 (bit (s.output o).timing.isSome 1 + bit (s.output o).stagedTiming.isSome 2 +
          bit (s.output o).stagedRoute.isSome 4 + bit (s.output o).route.safety.isSome 8 + bit (s.output o).lockOn 16) := by
      rw [packFlags_five]
      rfl
    rw [outputBody_eq, hflags, currentBytes_eq] <;> rfl
  refine ⟨fun i s dt tag n action hi hs h => exec_of_handler hi hs rfl (outputControlHandler_unknown h _),
    fun s dt tag n o hs ho => ?control, fun s dt tag body hs hlength => ⟨fun h => ?lockBad, fun o ho ht => ?lock⟩,
    fun s dt tag n hs => ⟨fun hn => ?noStatus, fun o ho => ?status⟩⟩
  case control =>
    intro v ok stays refused put on off pause resume
    have hon {a : Answer} (h : (arrived s dt [n, 0]).outputOn o = a) :
        on = .next (replied a.after .outputControl tag a.status a.body) :=
      exec_of_handler (k := .outputControl) rfl hs rfl ((outputControlHandler_on ho _).trans h)
    have hoff {a : Answer} (h : (arrived s dt [n, 1]).outputOff o = a) :
        off = .next (replied a.after .outputControl tag a.status a.body) :=
      exec_of_handler (k := .outputControl) rfl hs rfl ((outputControlHandler_off ho _).trans h)
    have hpause {a : Answer} (h : (arrived s dt [n, 2]).outputPause o = a) :
        pause = .next (replied a.after .outputControl tag a.status a.body) :=
      exec_of_handler (k := .outputControl) rfl hs rfl ((outputControlHandler_pause ho _).trans h)
    have hresume {a : Answer} (h : (arrived s dt [n, 3]).outputResume o = a) :
        resume = .next (replied a.after .outputControl tag a.status a.body) :=
      exec_of_handler (k := .outputControl) rfl hs rfl ((outputControlHandler_resume ho _).trans h)
    refine ⟨fun h => hon (outputOn_running h), fun h ht => hon (outputOn_untimed h ht), fun h ht hl => ?free,
      fun h ht hl => ?locking, fun h => hoff (outputOff_off h), fun h htiming hroute hl => ?plainOff, fun h => ?offs,
      fun h => ?noPause, fun hnormal h => hpause (outputPause_paused hnormal h),
      fun hnormal h => hpause (outputPause_pauses hnormal h), fun h => hresume (outputResume_refused h),
      fun h => hresume (outputResume_running h), fun h => hresume (outputResume_paused h)⟩
    case free =>
      have hbegins := outputOn_begins (s := arrived s dt [n, 0]) h ht
      rw [seekQuietly_of_not_lockOn (v := (arrived s dt [n, 0]).output o) hl] at hbegins
      exact hon hbegins
    case locking =>
      have hbegins := outputOn_begins (s := arrived s dt [n, 0]) h ht
      rw [seekQuietly_of_lockOn (v := (arrived s dt [n, 0]).output o) hl] at hbegins
      exact hon hbegins
    case plainOff =>
      refine (hoff (outputOff_on h)).trans (congrArg ok ?_)
      have hnone : ((arrived s dt [n, 1]).output o).stagedTiming = none ∧
          ((arrived s dt [n, 1]).output o).stagedRoute = none := ⟨htiming, hroute⟩
      have hlock : ¬ ((arrived s dt [n, 1]).output o).lockOn = true := by
        rw [show ((arrived s dt [n, 1]).output o).lockOn = false from hl]
        exact Bool.false_ne_true
      exact (if_neg hlock).trans (congrArg (fun t : State => t.modOutput o Output.switchOff) (applyStaged_none hnone false))
    case offs =>
      intro applies route timing tier posted
      have hposts := switchedOff_posts (arrived s dt [n, 1]) o
      obtain ⟨ns, hstate⟩ := hposts.only
      refine ⟨ns, (hoff (outputOff_on h)).trans (congrArg ok hstate), fun hok => ?_⟩
      have hinit : (arrived s dt [n, 1]).mode ≠ .init := by
        rintro hmode
        obtain h | h := hs <;> exact absurd (h.symm.trans hmode) (by decide)
      have hcounts := hposts.counts
      rw [hstate] at hcounts
      refine ⟨hcounts.ok hok, fun kind object => ⟨?_, fun hnot => ?_⟩⟩
      · rintro hposted rfl hmask
        exact hcounts.posted hok kind hposted hinit hmask
      · exact hcounts.kept hok kind object fun ⟨hposted, hobject, _, hmask⟩ => hnot ⟨hposted, hobject, hmask⟩
    case noPause =>
      refine hpause (outputPause_refused (h.imp_right (Or.imp_right (Or.imp_right (And.imp_right fun hmode => ?_)))))
      exact fun hrun => by cases hmode.symm.trans hrun
  case lockBad =>
    have hl : RequestKind.lockSet.lengthOk body = true := by simp [RequestKind.lengthOk, hlength]
    exact exec_of_handler (k := .lockSet) rfl hs hl (lockSetHandler_bad h _)
  case lock =>
    have hl : RequestKind.lockSet.lengthOk body = true := by simp [RequestKind.lengthOk, hlength]
    refine ⟨fun h1 => ?lockOn, fun h0 => ?lockOff⟩
    case lockOn => exact exec_of_handler (k := .lockSet) rfl hs hl (lockSetHandler_set ho ht (on := true) (by rw [h1]; rfl) _)
    case lockOff => exact exec_of_handler (k := .lockSet) rfl hs hl (lockSetHandler_set ho ht (on := false) (by rw [h0]; rfl) _)
  case noStatus =>
    have hnone : four? (byteAt [n] 0) = none := four?_of_gt hn
    have hanswer (t : State) : outputStatusHandler [n] t = t.refuse .badArg := by rw [outputStatusHandler, hnone]
    exact exec_of_handler (k := .outputStatus) rfl hs rfl (hanswer _)
  case status =>
    have hsome : four? (byteAt [n] 0) = some o := four?_of_val ho
    have hanswer (t : State) : outputStatusHandler [n] t = t.done (body t o) := by rw [outputStatusHandler, hsome, ← hbody]
    exact exec_of_handler (k := .outputStatus) rfl hs rfl (hanswer _)

end Sys2Proof.Machine
end

section
/-! PROOF of FrameLockRules (O32) and SelectionCases (O30). -/

namespace Sys2Proof.Machine

open Sys2Proof.Claims

/-! ### The phase (R88) -/

theorem foldPhase_range (d target : Nat) {period : Nat} (h : 0 < period) :
    0 < 2 * foldPhase d target period + period ∧ 2 * foldPhase d target period ≤ period ∧
      ∃ k : Int, foldPhase d target period = (d : Int) - target + k * period := by
  have hperiod : (0 : Int) < period := by exact_mod_cast h
  have hlow := Int.emod_nonneg ((d : Int) - target) hperiod.ne'
  have hhigh := Int.emod_lt_of_pos ((d : Int) - target) hperiod
  have hdiv := Int.emod_add_mul_ediv ((d : Int) - target) period
  unfold foldPhase
  dsimp only
  split
  · refine ⟨by omega, by omega, -(((d : Int) - target) / period) - 1, ?_⟩
    linarith
  · refine ⟨by omega, by omega, -(((d : Int) - target) / period), ?_⟩
    linarith

/-- The quotient rounded half away from zero, of a size. -/
theorem roundAway_size (a : Nat) {d : Nat} (hd : 0 < d) :
    2 * ((2 * a + d) / (2 * d)) * d ≤ 2 * a + d ∧ 2 * a + d < 2 * ((2 * a + d) / (2 * d)) * d + 2 * d := by
  have hmod := Nat.div_add_mod (2 * a + d) (2 * d)
  have hlt := Nat.mod_lt (2 * a + d) (by omega : 0 < 2 * d)
  have hassoc : 2 * ((2 * a + d) / (2 * d)) * d = 2 * d * ((2 * a + d) / (2 * d)) := by ring
  omega

theorem roundAway_near (n : Int) {d : Nat} (hd : 0 < d) :
    2 * |n - roundAway n d * d| ≤ d ∧ (2 * |n - roundAway n d * d| = d → |n| < |roundAway n d * d|) := by
  obtain ⟨hlow, hhigh⟩ := roundAway_size n.natAbs hd
  have hpos : (0 : Int) < d := by exact_mod_cast hd
  unfold roundAway
  dsimp only
  generalize (2 * n.natAbs + d) / (2 * d) = q at hlow hhigh
  zify at hlow hhigh
  have hq : (0 : Int) ≤ q * d := by positivity
  split
  next hneg =>
    rw [abs_of_neg hneg] at hlow hhigh
    rw [abs_of_neg hneg, show |-(q : Int) * d| = q * d by rw [neg_mul, abs_neg, abs_of_nonneg hq]]
    rcases abs_cases (n - -(q : Int) * d) with ⟨habs, _⟩ | ⟨habs, _⟩ <;> rw [habs]
    · exact ⟨by linarith, fun h => by linarith⟩
    · exact ⟨by linarith, fun h => by linarith⟩
  next hpos' =>
    have hn := not_lt.mp hpos'
    rw [abs_of_nonneg hn] at hlow hhigh
    rw [abs_of_nonneg hn, abs_of_nonneg hq]
    rcases abs_cases (n - (q : Int) * d) with ⟨habs, _⟩ | ⟨habs, _⟩ <;> rw [habs]
    · exact ⟨by linarith, fun h => by linarith⟩
    · exact ⟨by linarith, fun h => by linarith⟩

/-! ### The lock state (R89) -/

theorem lockUpdate_cases (v : Output) (e : Int) :
    (v.lock = .seeking → e.natAbs ≤ 1 → v.goodLocks < 7 →
      v.lockUpdate e = ({ v with goodLocks := v.goodLocks + 1 }, false)) ∧
    (v.lock = .seeking → e.natAbs ≤ 1 → 7 ≤ v.goodLocks →
      v.lockUpdate e = ({ v with lock := .locked, goodLocks := 0, badLocks := 0 }, true)) ∧
    (v.lock = .seeking → 1 < e.natAbs → v.lockUpdate e = ({ v with goodLocks := 0 }, false)) ∧
    (v.lock = .locked → 4 < e.natAbs → v.badLocks = 0 → v.lockUpdate e = ({ v with badLocks := 1 }, false)) ∧
    (v.lock = .locked → 4 < e.natAbs → 1 ≤ v.badLocks →
      v.lockUpdate e = ({ v with lock := .seeking, goodLocks := 0, badLocks := 0 }, true)) ∧
    (v.lock = .locked → e.natAbs ≤ 4 → v.lockUpdate e = ({ v with badLocks := 0 }, false)) ∧
    (v.lock = .free → v.lockUpdate e = (v, false)) := by
  refine ⟨fun h he hg => ?_, fun h he hg => ?_, fun h he => ?_, fun h he hb => ?_, fun h he hb => ?_, fun h he => ?_,
    fun h => ?_⟩ <;> rw [Output.lockUpdate, h]
  · exact (if_pos he).trans (if_neg (by omega))
  · exact (if_pos he).trans (if_pos (by omega))
  · exact if_neg (by omega)
  · exact (if_pos he).trans ((if_neg (by omega)).trans (by rw [hb]))
  · exact (if_pos he).trans (if_pos (by omega))
  · exact if_neg (by omega)

/-- LOCK_STATE is posted just when LOCKED is entered or left. -/
theorem lockUpdate_posted (v : Output) (e : Int) :
    (v.lockUpdate e).2 = (decide (v.lock = .locked) != decide ((v.lockUpdate e).1.lock = .locked)) := by
  unfold Output.lockUpdate
  cases hlock : v.lock with
  | free => simp [hlock]
  | seeking => dsimp only; split_ifs <;> simp
  | locked => dsimp only; split_ifs <;> simp

/-- After seeking, one evaluation does not reach LOCKED. -/
theorem lockUpdate_of_sought {v : Output} (hlock : v.lock = .seeking) (hgood : v.goodLocks = 0) (e : Int) :
    (v.lockUpdate e).1.lock = .seeking ∧ (v.lockUpdate e).2 = false := by
  unfold Output.lockUpdate
  rw [hlock, hgood]
  dsimp only
  split_ifs
  · omega
  · exact ⟨rfl, rfl⟩
  · exact ⟨rfl, rfl⟩

/-! ### The time to the next start (R82) -/

theorem span_next (left : Span) (t : Timing) (lines : Nat) (hden : 0 < left.den) (hpclk : 0 < t.pclk) :
    0 < (left.next t lines).den ∧ (left.next t lines).num * (left.den * t.pclk) =
      (left.num * t.pclk + (t.hActive + t.hBlank) * lines * 1000 * left.den) * (left.next t lines).den := by
  unfold Span.next Timing.hTotal
  dsimp only
  split_ifs with hzero hdiv
  · exact ⟨hpclk, by rw [hzero]; ring⟩
  · obtain ⟨k, hk⟩ := Nat.dvd_of_mod_eq_zero hdiv
    rw [hk, Nat.mul_div_cancel_left _ hpclk]
    exact ⟨by rw [← hk]; exact hden, by ring⟩
  · exact ⟨Nat.mul_pos hden hpclk, rfl⟩

/-! ### The source of frame lock (R87) -/

theorem measuredPeriod_eq_iff (r : Stream) {period : Nat} (h : period ≠ 0) :
    r.measuredPeriod = period ↔ r.periods.getLast?.map BitVec.toNat = some period := by
  unfold Stream.measuredPeriod
  cases r.periods.getLast? with
  | none => simp [h.symm]
  | some p => simp

theorem lockSource_iff (s : State) (o : Fin 4) (period d : Nat) : s.lockSource o = some (period, d) ↔
    ∃ p r t, (s.output o).route.source = some p ∧ s.stream p.stream = some r ∧ r.stable = true ∧
      r.periods.getLast?.map BitVec.toNat = some period ∧ period ≠ 0 ∧ r.lastStart = some t ∧
      d = (s.timeBase - t).toNat ∧ d ≤ 2 * period := by
  unfold State.lockSource
  cases hsource : (s.output o).route.source with
  | none => simp
  | some p =>
    dsimp only
    cases hr : s.stream p.stream with
    | none => simp [hr]
    | some r =>
      dsimp only
      cases ht : r.lastStart with
      | none => simp [hr, ht]
      | some t =>
        dsimp only
        constructor
        · intro h
          split at h
          next hok =>
            obtain ⟨hstable, hperiod, hnear⟩ := hok
            obtain ⟨rfl, rfl⟩ : r.measuredPeriod = period ∧ (s.timeBase - t).toNat = d := by simpa using h
            exact ⟨p, r, t, rfl, hr, hstable, (measuredPeriod_eq_iff r hperiod).mp rfl, hperiod, ht, rfl, hnear⟩
          next => cases h
        · rintro ⟨p', r', t', hp, hr', hstable, hperiod, hne, ht', rfl, hnear⟩
          obtain rfl := Option.some.inj hp
          obtain rfl := Option.some.inj (hr.symm.trans hr')
          obtain rfl := Option.some.inj (ht.symm.trans ht')
          obtain rfl := (measuredPeriod_eq_iff r hne).mpr hperiod
          exact if_pos ⟨hstable, hne, hnear⟩

/-! ### Frame lock at a start (R87 to R89) -/

/-- A change of an output and a posting do not disturb each other. -/
theorem setOutput_post (s : State) (o : Fin 4) (w : Output) (k : NoticeKind) (n : Nat) :
    (s.setOutput o w).post k n = (s.post k n).setOutput o w := by
  unfold State.post
  by_cases h : s.mode = .init ∨ s.masked k = true
  · rw [if_pos h]
    exact if_pos h
  · rw [if_neg h]
    exact if_neg h

/-- Output o becomes w, and LOCK_STATE is posted when LOCKED is entered or left. -/
def State.lockBecomes (s : State) (o : Fin 4) (w : Output) : State :=
  if decide ((s.output o).lock = .locked) = decide (w.lock = .locked) then s.setOutput o w
  else (s.setOutput o w).post .lockState o.val

theorem lockBecomes_of_same {s : State} {o : Fin 4} {w : Output}
    (h : decide ((s.output o).lock = .locked) = decide (w.lock = .locked)) : s.lockBecomes o w = s.setOutput o w := if_pos h

theorem lockBecomes_of_changed {s : State} {o : Fin 4} {w : Output}
    (h : decide ((s.output o).lock = .locked) ≠ decide (w.lock = .locked)) :
    s.lockBecomes o w = (s.setOutput o w).post .lockState o.val := if_neg h

theorem seekLock_eq (s : State) (o : Fin 4) : s.seekLock o = s.lockBecomes o (s.output o).seek := by
  unfold State.seekLock State.lockBecomes
  cases hlock : (s.output o).lock <;> rfl

/-- A further change of the output that leaves the lock alone. -/
theorem lockBecomes_setOutput (s : State) (o : Fin 4) {w w' : Output} (h : w'.lock = w.lock) :
    (s.lockBecomes o w).setOutput o w' = s.lockBecomes o w' := by
  unfold State.lockBecomes
  rw [h]
  split
  · exact setOutput_setOutput ..
  · rw [← setOutput_post, setOutput_setOutput]

theorem lockBecomes_output (s : State) (o : Fin 4) (w : Output) : (s.lockBecomes o w).output o = w := by
  unfold State.lockBecomes
  split
  · exact output_setOutput ..
  · rw [output_post, output_setOutput]

section
variable {s : State} {o : Fin 4}

theorem lockFrame_untimed (h : (s.output o).timing = none) (moved : Bool) : s.lockFrame o moved = s := by
  rw [State.lockFrame, h]

theorem lockFrame_lockOff {t : Timing} (ht : (s.output o).timing = some t) (h : (s.output o).lockOn = false)
    (moved : Bool) : s.lockFrame o moved = s.lockBecomes o ((s.output o).beginFrame t t.vTotal) := by
  refine Eq.trans ?_ (lockBecomes_of_same (w := (s.output o).beginFrame t t.vTotal) rfl).symm
  rw [State.lockFrame, ht]
  exact if_pos h

/-- The output as an evaluation of frame lock takes it up: SEEKING if the source stream has moved. -/
def Output.soughtIf (v : Output) (moved : Bool) : Output := if moved then v.seek else v

theorem soughtIf_eq (s : State) (o : Fin 4) (moved : Bool) :
    (if moved then s.seekLock o else s) = s.lockBecomes o ((s.output o).soughtIf moved) := by
  cases moved with
  | false => exact (setOutput_output s o).symm.trans (lockBecomes_of_same rfl).symm
  | true => exact seekLock_eq s o

theorem lockBecomes_lockSource (s : State) (o : Fin 4) {w : Output} (h : w.route = (s.output o).route) :
    (s.lockBecomes o w).lockSource o = s.lockSource o := by
  have hsame (x : State) (hout : x.output o = w) (hstreams : x.streams = s.streams) (htime : x.timeBase = s.timeBase) :
      x.lockSource o = s.lockSource o := by
    simp only [State.lockSource, State.stream, hout, h, hstreams, htime]
  refine hsame _ (lockBecomes_output s o w) ?_ ?_
  · unfold State.lockBecomes
    split
    · rfl
    · obtain ⟨ns, hpost⟩ := post_eq (s.setOutput o w) .lockState o.val
      rw [hpost]
      rfl
  · unfold State.lockBecomes
    split
    · rfl
    · obtain ⟨ns, hpost⟩ := post_eq (s.setOutput o w) .lockState o.val
      rw [hpost]
      rfl

/-- A second change of the lock that stays outside LOCKED, or starts where the lock stood. -/
theorem lockBecomes_lockBecomes (s : State) (o : Fin 4) {w w' : Output}
    (h : decide (w.lock = .locked) = decide (w'.lock = .locked)) :
    (s.lockBecomes o w).lockBecomes o w' = s.lockBecomes o w' := by
  have hsecond : (s.lockBecomes o w).lockBecomes o w' = (s.lockBecomes o w).setOutput o w' :=
    lockBecomes_of_same (by rw [lockBecomes_output]; exact h)
  rw [hsecond]
  unfold State.lockBecomes
  rw [h]
  split
  · exact setOutput_setOutput ..
  · rw [← setOutput_post, setOutput_setOutput]

theorem lockBecomes_self (s : State) (o : Fin 4) : s.lockBecomes o (s.output o) = s :=
  (lockBecomes_of_same rfl).trans (setOutput_output s o)

theorem soughtIf_route (v : Output) (moved : Bool) : (v.soughtIf moved).route = v.route := by
  cases moved <;> rfl

theorem lockFrame_unusable {t : Timing} (ht : (s.output o).timing = some t) (hon : (s.output o).lockOn = true)
    (hsource : s.lockSource o = none) (moved : Bool) :
    s.lockFrame o moved = s.lockBecomes o ((s.output o).seek.beginFrame t t.vTotal) := by
  have hon' : ¬ (s.output o).lockOn = false := by rw [hon]; nofun
  have hnone : (s.lockBecomes o ((s.output o).soughtIf moved)).lockSource o = none := by
    rw [lockBecomes_lockSource s o (soughtIf_route ..), hsource]
  have hseek : (s.lockBecomes o ((s.output o).soughtIf moved)).lockBecomes o ((s.output o).soughtIf moved).seek =
      s.lockBecomes o (s.output o).seek := by
    cases moved with
    | false =>
      change (s.lockBecomes o (s.output o)).lockBecomes o (s.output o).seek = _
      rw [lockBecomes_self]
    | true => exact lockBecomes_lockBecomes s o rfl
  rw [State.lockFrame, ht]
  dsimp only
  rw [if_neg hon', soughtIf_eq, hnone]
  dsimp only
  rw [seekLock_eq, lockBecomes_output, hseek, State.modOutput, lockBecomes_output]
  exact lockBecomes_setOutput s o (w := (s.output o).seek) (w' := (s.output o).seek.beginFrame t t.vTotal) rfl

theorem lockBecomes_lockUpdate {x : State} {v : Output} (hlock : v.lock = (x.output o).lock) (e : Int) :
    (if (v.lockUpdate e).2 then (x.setOutput o (v.lockUpdate e).1).post .lockState o.val
      else x.setOutput o (v.lockUpdate e).1) = x.lockBecomes o (v.lockUpdate e).1 := by
  rw [lockUpdate_posted, hlock, State.lockBecomes]
  split_ifs with hchange hsame hsame
  · exact absurd hsame (by simpa using hchange)
  · rfl
  · rfl
  · exact absurd (by simpa using hchange) hsame

theorem lockFrame_usable {t : Timing} (ht : (s.output o).timing = some t) (hon : (s.output o).lockOn = true)
    {period d : Nat} (hsource : s.lockSource o = some (period, d)) (moved : Bool) :
    let e := phaseLines (foldPhase d (s.output o).lockTarget period) t
    s.lockFrame o moved = s.lockBecomes o
      ({ ((s.output o).soughtIf moved).beginFrame t (adjustedLines t e) with phaseError := e }.lockUpdate e).1 := by
  have hon' : ¬ (s.output o).lockOn = false := by rw [hon]; nofun
  have hsome : (s.lockBecomes o ((s.output o).soughtIf moved)).lockSource o = some (period, d) := by
    rw [lockBecomes_lockSource s o (soughtIf_route ..), hsource]
  intro e
  rw [State.lockFrame, ht]
  dsimp only
  rw [if_neg hon', soughtIf_eq, hsome]
  dsimp only
  rw [lockBecomes_output]
  refine (lockBecomes_lockUpdate (by rw [lockBecomes_output]; rfl) e).trans ?_
  cases moved with
  | false =>
    change (s.lockBecomes o (s.output o)).lockBecomes o _ = _
    rw [lockBecomes_self]
  | true =>
    refine lockBecomes_lockBecomes s o ?_
    have hsought := (lockUpdate_of_sought
      (v := { (s.output o).seek.beginFrame t (adjustedLines t e) with phaseError := e }) rfl rfl e).1
    exact (congrArg (fun l : LockState => decide (l = .locked)) hsought).symm
end

/-- Settles O32. -/
theorem frameLockRules : Obligations.FrameLockRules := by
  unfold Obligations.FrameLockRules
  refine ⟨foldPhase_range, fun phi t ht => ?round, fun t e => ⟨fun h => if_pos h, fun h => ?slower, fun h => ?same⟩,
    lockUpdate_cases, span_next, lockSource_iff, fun s o moved => ⟨fun h => lockFrame_untimed h moved,
      fun t ht => ⟨fun hoff => lockFrame_lockOff ht hoff moved, fun hon hsource => lockFrame_unusable ht hon hsource moved,
        fun period d hon hsource => lockFrame_usable ht hon hsource moved⟩⟩⟩
  case round =>
    have hnear := roundAway_near (phi * t.pclk) (Nat.mul_pos ht (by decide : 0 < 1000))
    push_cast at hnear
    exact hnear
  case slower => exact (if_neg (by omega)).trans (if_pos h)
  case same => exact (if_neg (by omega)).trans (if_neg (by omega))

/-! ### Content selection (R64) -/

section
variable {s : State} {o : Fin 4}

theorem latest?_some {i : Fin 8} {ref : SlotRef} {seq : Word} (h : s.latest? i = some (ref, seq)) :
    ref.stream = i ∧ ∃ r, s.stream i = some r ∧ r.latest = some ref.index ∧ r.slot ref.index = .ready seq := by
  unfold State.latest? at h
  cases hr : s.stream i with
  | none => rw [hr] at h; cases h
  | some r =>
    rw [hr] at h
    dsimp only at h
    cases hj : r.latest with
    | none => rw [hj] at h; cases h
    | some j =>
      rw [hj] at h
      obtain ⟨q, hq, heq⟩ := Option.map_eq_some_iff.mp h
      obtain ⟨rfl, rfl⟩ := Prod.mk.inj heq
      exact ⟨rfl, r, rfl, hj, slot_of_seq? hq⟩

theorem select_none (h : (s.output o).route.source = none) :
    s.select o = ⟨.background, none, (s.output o).lastShown, false⟩ := by
  rw [State.select]
  rw [h]

theorem select_normal {p : Placement} (hp : (s.output o).route.source = some p)
    (h : (s.output o).route.safety = none) : s.select o = s.selectPicture (s.output o) p.stream := by
  rw [State.select]
  rw [hp, h]

theorem select_safety {p : Placement} {q : SafetyPart} {x : Context} (hp : (s.output o).route.source = some p)
    (hq : (s.output o).route.safety = some q) (hx : (s.output o).context = some x) : s.select o =
      if x.blanks q then ⟨.background, none, (s.output o).lastShown, false⟩
      else if x.fallsBack q then
        match q.fallback.bind s.latest? with
        | some (slot, _) => ⟨.fallback, some slot, (s.output o).lastShown, false⟩
        | none => ⟨.background, none, (s.output o).lastShown, true⟩
      else s.selectPicture (s.output o) p.stream := by
  rw [State.select]
  rw [hp, hq, hx] <;> rfl
end

theorem blanks_iff (x : Context) (q : SafetyPart) :
    x.blanks q = true ↔ x.blanked = true ∨ (x.integrity = .fault ∧ q.action = .blank) := by
  simp [Context.blanks]

theorem fallsBack_iff (x : Context) (q : SafetyPart) :
    x.fallsBack q = true ↔ (x.integrity = .fault ∧ q.action = .fallback) ∨ x.freshness ≠ .fresh := by
  simp [Context.fallsBack]

/-- Settles O30. -/
theorem selectionCases : Obligations.SelectionCases := by
  unfold Obligations.SelectionCases
  intro s o v c background picture
  refine ⟨select_none, fun p hp h => select_normal hp h, fun p q x hp hq hx => ?_, fun i ref seq h => latest?_some h⟩
  intro blanks fallsBack
  have hselect := select_safety hp hq hx
  have hblanks : x.blanks q = true ↔ blanks := blanks_iff x q
  have hfalls : x.fallsBack q = true ↔ fallsBack := fallsBack_iff x q
  refine ⟨fun h => hselect.trans (if_pos (hblanks.mpr h)), fun hb hf i slot seq hi hlatest => ?fallback,
    fun hb hf hnone => ?missing, fun hb hf => ?picture⟩
  case picture => exact hselect.trans ((if_neg (mt hblanks.mp hb)).trans (if_neg (mt hfalls.mp hf)))
  all_goals replace hselect := hselect.trans ((if_neg (mt hblanks.mp hb)).trans (if_pos (hfalls.mpr hf)))
  case fallback =>
    rw [hi, Option.bind_some, hlatest] at hselect
    exact hselect
  case missing =>
    have hbind : q.fallback.bind s.latest? = none := Option.bind_eq_none_iff.mpr hnone
    rw [hbind] at hselect
    exact hselect

end Sys2Proof.Machine
end

section
/-! The Integrity Checker: what a freshness evaluation, an integrity step, a record and a report make of the state; and the
PROOF of IntegrityStepRules (O36). -/

namespace Sys2Proof.Machine

open Sys2Proof.Claims

/-! ### Freshness (R178, R179) -/

/-- Is the age of a publish within the freshness timeout (R178)? -/
def ageInTime (age : Option Word) (timeoutMs : Nat) : Bool :=
  match age with
  | none => false
  | some a => decide (a.toNat ≤ timeoutMs * Config.ms)

theorem ageInTime_iff (age : Option Word) (timeoutMs : Nat) :
    ageInTime age timeoutMs = true ↔ ∃ a, age = some a ∧ a.toNat ≤ timeoutMs * 1000 := by
  cases age with
  | none => simp [ageInTime]
  | some a =>
    rw [ageInTime, decide_eq_true_iff]
    exact ⟨fun h => ⟨a, rfl, h⟩, fun ⟨b, hb, h⟩ => Option.some.inj hb ▸ h⟩

section
variable (published : Word) (hasLatest : Bool) (age : Option Word) (timeoutMs : Nat)

theorem evaluateFreshness_waiting : evaluateFreshness .waiting published hasLatest age timeoutMs =
    if hasLatest && ageInTime age timeoutMs then (.fresh, none) else (.waiting, none) := rfl

theorem evaluateFreshness_fresh : evaluateFreshness .fresh published hasLatest age timeoutMs =
    if ageInTime age timeoutMs then (.fresh, none) else (.stale published, some .stale) := rfl

theorem evaluateFreshness_stale (base : Word) : evaluateFreshness (.stale base) published hasLatest age timeoutMs =
    if ageInTime age timeoutMs = true ∧ base.toNat + 2 ≤ published.toNat then (.fresh, some .fresh)
    else (.stale base, none) := rfl
end

/-- The state with the freshness and age of an output's context set, and a notice posted if there is one. -/
def State.freshened (s : State) (o : Fin 4) (c : Context) (age : Option Word) (out : Freshness × Option NoticeKind) :
    State :=
  let s' := s.setOutput o { s.output o with context := some { c with freshness := out.1, age := age } }
  match out.2 with
  | none => s'
  | some k => s'.post k o.val

/-- The freshness of an output after its evaluation, and the notice; none when nothing is evaluated (R178, R179). -/
def State.freshness? (s : State) (o : Fin 4) : Option (Context × Option Word × Freshness × Option NoticeKind) :=
  match (s.output o).context, (s.output o).route.safety, (s.output o).route.source with
  | some c, some p, some src => (s.stream src.stream).map (fun r =>
      let age := r.lastPublish.map (fun t => s.timeBase - t)
      (c, age, evaluateFreshness c.freshness r.published r.latest.isSome age p.timeoutMs))
  | _, _, _ => none

theorem freshenOutput_eq (s : State) (o : Fin 4) : s.freshenOutput o =
    match s.freshness? o with
    | none => s
    | some (c, age, out) => s.freshened o c age out := by
  unfold State.freshenOutput State.freshness?
  dsimp only
  cases (s.output o).context with
  | none => rfl
  | some c =>
    cases (s.output o).route.safety with
    | none => rfl
    | some p =>
      cases (s.output o).route.source with
      | none => rfl
      | some src =>
        dsimp only
        cases s.stream src.stream with
        | none => rfl
        | some r => rfl

theorem freshenOutput_of_parts {s : State} {o : Fin 4} {c : Context} {p : SafetyPart} {src : Placement} {r : Stream}
    (hc : (s.output o).context = some c) (hp : (s.output o).route.safety = some p)
    (hsrc : (s.output o).route.source = some src) (hr : s.stream src.stream = some r) :
    let age := r.lastPublish.map (fun t => s.timeBase - t)
    s.freshenOutput o = s.freshened o c age
      (evaluateFreshness c.freshness r.published r.latest.isSome age p.timeoutMs) := by
  intro age
  have hsome : s.freshness? o = some (c, age, evaluateFreshness c.freshness r.published r.latest.isSome age p.timeoutMs) := by
    rw [State.freshness?, hc, hp, hsrc]
    exact congrArg (Option.map _) hr
  rw [freshenOutput_eq, hsome]

/-! ### Integrity steps (R183 to R186) -/

/-- The state after an integrity step that leaves a context and says whether INTEGRITY is posted. -/
def State.stepped (s : State) (o : Fin 4) (counts : Comparisons) (out : Context × Bool) : State :=
  let s' := s.setOutput o { s.output o with context := some out.1, comparisons := counts }
  if out.2 then s'.post .integrity o.val else s'

theorem integrityStep_of_parts {s : State} {o : Fin 4} {c : Context} {p : SafetyPart}
    (hc : (s.output o).context = some c) (hp : (s.output o).route.safety = some p) (e : IntegrityStep) :
    s.integrityStep o e = s.stepped o ((s.output o).comparisons.count e) (c.step p e) := by
  rw [State.integrityStep]
  dsimp only
  rw [hc, hp] <;> rfl

theorem goodStep_of_not_fault {c : Context} (h : c.integrity ≠ .fault) (p : SafetyPart) :
    c.goodStep p = ({ c with bad := 0, good := bump c.good, integrity := .clean }, false) := by
  unfold Context.goodStep
  cases hi : c.integrity with
  | clean => rfl
  | suspect => rfl
  | fault => exact absurd hi h

theorem goodStep_of_fault {c : Context} (h : c.integrity = .fault) (p : SafetyPart) : c.goodStep p =
    if p.action = .notify ∧ 8 ≤ (bump c.good).toNat then
      ({ c with bad := 0, good := bump c.good, integrity := .clean }, true)
    else ({ c with bad := 0, good := bump c.good }, false) := by
  unfold Context.goodStep
  dsimp only
  rw [h]

theorem badStep_below {c : Context} {p : SafetyPart} (h : (bump c.bad).toNat < p.threshold) : c.badStep p =
    ({ c with good := 0, bad := bump c.bad, integrity := if c.integrity = .clean then .suspect else c.integrity },
      false) := by
  have hnot : ¬ p.threshold ≤ (bump c.bad).toNat := by omega
  unfold Context.badStep
  cases c.integrity <;> simp [hnot]

theorem badStep_crossed {c : Context} {p : SafetyPart} (h : p.threshold ≤ (bump c.bad).toNat) : c.badStep p =
    ({ c with good := 0, bad := 0, integrity := .fault
              blanked := c.blanked || decide (c.integrity = .fault ∧ p.action = .fallback) }, true) := by
  unfold Context.badStep
  cases c.integrity with
  | clean => simp [h]
  | suspect => simp [h]
  | fault =>
    have haction : (p.action == FaultAction.fallback) = decide (p.action = .fallback) := by
      cases p.action <;> rfl
    simp [h, haction]

/-! ### The queue of records (R181, R182) -/

section
variable {s : State} {o : Fin 4} (seq : Half) (crc : Word)

theorem pushCrc_none (h : (s.output o).context = none) : s.pushCrc o seq crc = s := by
  rw [State.pushCrc, h]

/-- The record of a frame and the queue and inject count it leaves (R181). -/
def Context.pushed (c : Context) (seq : Half) (crc : Word) : Context := { c with
  queue := (if 4 ≤ c.queue.length then c.queue.drop 1 else c.queue) ++
    [⟨seq, if 0 < c.inject then crc ^^^ 1 else crc, decide (0 < c.inject)⟩]
  inject := c.inject - 1 }

theorem pushCrc_some {c : Context} (h : (s.output o).context = some c) : s.pushCrc o seq crc =
    let s' := s.setOutput o { s.output o with context := some (c.pushed seq crc) }
    if 4 ≤ c.queue.length then s'.integrityStep o .missing else s' := by
  unfold State.pushCrc
  rw [h]
  dsimp only
  simp only [State.modOutput, h, Option.map_some, decide_eq_true_eq]
  rfl

theorem takeReport_none (h : (s.output o).context = none) : s.takeReport o seq crc = s.modOutput o (fun v =>
    { v with comparisons := { v.comparisons with noContext := bump v.comparisons.noContext } }) := by
  rw [State.takeReport, h]

theorem olderThan_none {q : List CrcRecord} (h : ∀ x ∈ q, x.seq ≠ seq) : olderThan seq q = none := by
  induction q with
  | nil => rfl
  | cons x rest ih =>
    rw [olderThan, if_neg (h x (List.mem_cons_self ..)), ih fun y hy => h y (List.mem_cons_of_mem x hy)]
    rfl

theorem olderThan_split {older newer : List CrcRecord} {q : CrcRecord} (hq : q.seq = seq)
    (h : ∀ x ∈ older, x.seq ≠ seq) : olderThan seq (older ++ q :: newer) = some (older.length, q) := by
  induction older with
  | nil => exact if_pos hq
  | cons x rest ih =>
    rw [List.cons_append, olderThan, if_neg (h x (List.mem_cons_self ..)),
      ih fun y hy => h y (List.mem_cons_of_mem x hy)]
    rfl

theorem takeReport_late {c : Context} (hc : (s.output o).context = some c) (h : ∀ q ∈ c.queue, q.seq ≠ seq) :
    s.takeReport o seq crc = s.modOutput o (fun v =>
      { v with comparisons := { v.comparisons with late := bump v.comparisons.late } }) := by
  rw [State.takeReport, hc]
  dsimp only
  rw [olderThan_none seq h]

theorem setQueue_some {c : Context} (hc : (s.output o).context = some c) (q : List CrcRecord) :
    s.setQueue o q = s.setOutput o { s.output o with context := some { c with queue := q } } := by
  rw [State.setQueue, State.modOutput, hc]
  rfl

theorem takeReport_found {c : Context} (hc : (s.output o).context = some c) {older newer : List CrcRecord}
    {q : CrcRecord} (hqueue : c.queue = older ++ q :: newer) (hq : q.seq = seq) (h : ∀ x ∈ older, x.seq ≠ seq) :
    s.takeReport o seq crc =
      ((s.setOutput o { s.output o with context := some { c with queue := newer } }).missingSteps o
        older.length).integrityStep o (if crc = q.crc then .good else .mismatch q.injected) := by
  have hdrop : (older ++ q :: newer).drop (older.length + 1) = newer := by simp
  rw [State.takeReport, hc]
  dsimp only
  rw [hqueue, olderThan_split seq hq h]
  dsimp only
  rw [hdrop, setQueue_some hc]
end

/-- Settles O36. -/
theorem integrityStepRules : Obligations.IntegrityStepRules := by
  unfold Obligations.IntegrityStepRules
  refine ⟨fun s o c p src r hc hp hsrc hr => ?freshness, fun s o c p injected hc hp => ?steps, fun s o seq crc => ?queue⟩
  case freshness =>
    intro age inTime after evaluated
    have hevaluated : evaluated = s.freshened o c age
        (evaluateFreshness c.freshness r.published r.latest.isSome age p.timeoutMs) := freshenOutput_of_parts hc hp hsrc hr
    have hin : ageInTime age p.timeoutMs = true ↔ inTime := ageInTime_iff age p.timeoutMs
    have hlatest : r.latest.isSome = true ↔ r.latest ≠ none := Option.isSome_iff_ne_none
    refine ⟨fun hfresh => ?waiting, fun hfresh => ?fresh, fun base hfresh => ?stale⟩
    all_goals rw [hfresh] at hevaluated
    case waiting =>
      rw [evaluateFreshness_waiting] at hevaluated
      refine ⟨fun h => ?_, fun h => ?_⟩
      · rw [if_pos (Bool.and_eq_true_iff.mpr (h.imp hlatest.mpr hin.mpr))] at hevaluated
        exact hevaluated
      · rw [if_neg (by rw [Bool.and_eq_true_iff, hlatest, hin]; exact fun hboth => h.elim hboth.1 (absurd hboth.2))]
          at hevaluated
        exact hevaluated
    case fresh =>
      rw [evaluateFreshness_fresh] at hevaluated
      refine ⟨fun h => ?_, fun h => ?_⟩
      · rw [if_pos (hin.mpr h)] at hevaluated
        exact hevaluated
      · rw [if_neg (mt hin.mp h)] at hevaluated
        exact hevaluated
    case stale =>
      rw [evaluateFreshness_stale] at hevaluated
      refine ⟨fun h => ?_, fun h => ?_⟩
      · rw [if_pos (h.imp_left hin.mpr)] at hevaluated
        exact hevaluated
      · rw [if_neg (by rw [hin]; intro hboth; exact h.elim (absurd hboth.1) (by have := hboth.2; omega))] at hevaluated
        exact hevaluated
  case steps =>
    intro k good bad after afterGood badStep
    have hstep := integrityStep_of_parts hc hp
    have hbad (e : IntegrityStep) (h : c.step p e = c.badStep p) : badStep (k.count e) (s.integrityStep o e) := by
      refine ⟨fun hbelow => (hstep e).trans ?_, fun hcrossed => (hstep e).trans ?_⟩
      · rw [h, badStep_below hbelow]
        rfl
      · rw [h, badStep_crossed hcrossed]
        rfl
    have hgood : s.integrityStep o .good = s.stepped o (k.count .good) (c.goodStep p) := hstep .good
    refine ⟨fun h => ?clean, fun h hstay => ?stays, fun h hnotify height => ?clears, hbad (.mismatch injected) rfl,
      hbad .missing rfl⟩
    case clean =>
      rw [goodStep_of_not_fault h] at hgood
      exact hgood
    case stays =>
      rw [goodStep_of_fault h, if_neg fun hboth => hstay.elim (absurd hboth.1) (not_lt_of_ge hboth.2)] at hgood
      exact hgood
    case clears =>
      rw [goodStep_of_fault h, if_pos ⟨hnotify, height⟩] at hgood
      exact hgood
  case queue =>
    refine ⟨fun h => ⟨pushCrc_none seq crc h, takeReport_none seq crc h⟩, fun c hc => ⟨fun h => ?room, fun h => ?full,
      takeReport_late seq crc hc, fun older q newer => takeReport_found seq crc hc⟩⟩
    case room =>
      have hnot : ¬ 4 ≤ c.queue.length := by omega
      have hpush := pushCrc_some seq crc hc
      rw [Context.pushed] at hpush
      simp only [if_neg hnot] at hpush
      exact hpush
    case full =>
      have hpush := pushCrc_some seq crc hc
      rw [Context.pushed] at hpush
      simp only [if_pos h] at hpush
      exact hpush

end Sys2Proof.Machine
end

section
/-! The frame a start sends (R103, R127, R128, R212), case by case. -/

namespace Sys2Proof.Machine

open Sys2Proof.Claims

section
variable {s : State} {o : Fin 4} {odd : Bool}

/-! ### What is sent -/

/-- May output o send at a start: its link is UP, it shows, and its tier sends (R127)? -/
def State.maySend (s : State) (o : Fin 4) : Prop :=
  (s.link o).state = .up ∧ ((s.output o).state = .scanning ∨ (s.output o).state = .paused) ∧
    (s.output o).tier ≠ .noTier ∧ (s.output o).tier ≠ .blocked

theorem sendMark_none (h : ¬ s.maySend o) : s.sendMark o odd = none := by
  unfold State.maySend at h
  unfold State.sendMark
  dsimp only
  split
  next hsends =>
    cases htier : (s.output o).tier with
    | noTier => rfl
    | blocked => rfl
    | t24 => exact absurd ⟨hsends.1, hsends.2, by rw [htier]; decide⟩ h
    | t18 => exact absurd ⟨hsends.1, hsends.2, by rw [htier]; decide⟩ h
    | talt => exact absurd ⟨hsends.1, hsends.2, by rw [htier]; decide⟩ h
  next => rfl

theorem sendMark_talt (h : s.maySend o) (htier : (s.output o).tier = .talt) : s.sendMark o odd =
    if odd then (if (s.link o).halfPending then some .second else none) else some .first := by
  obtain ⟨hup, hstate, _, _⟩ := h
  unfold State.sendMark
  dsimp only
  rw [if_pos ⟨hup, hstate⟩, htier]

theorem sendMark_whole (h : s.maySend o) (htier : (s.output o).tier ≠ .talt) : s.sendMark o odd = some .whole := by
  obtain ⟨hup, hstate, hsome, hblocked⟩ := h
  unfold State.sendMark
  dsimp only
  rw [if_pos ⟨hup, hstate⟩]
  cases ht : (s.output o).tier with
  | noTier => exact absurd ht hsome
  | blocked => exact absurd ht hblocked
  | talt => exact absurd ht htier
  | t24 => rfl
  | t18 => rfl

/-! ### What the link becomes -/

/-- The frame or half that goes out (R127). -/
def State.frameSent (s : State) (o : Fin 4) (t : Timing) (mark : HalfMark) : TxFrame :=
  let v := s.output o
  ⟨if mark = .second then (s.link o).txSeq else (s.link o).txSeq + 1, mark, (mark.span t).1, (mark.span t).2, t, v.tier,
    v.route, v.content, v.current⟩

/-- The link with a frame or half going out (R127, R128). -/
def State.linkSending (s : State) (o : Fin 4) (t : Timing) (mark : HalfMark) : Link :=
  let v := s.output o
  let w := s.link o
  let config := wantedConfig v.tier v.route
  { w with
    txSeq := if mark = .second then w.txSeq else w.txSeq + 1
    halfPending := mark == .first
    lastConfig := if mark = .second then w.lastConfig else some config
    sending := some (s.frameSent o t mark)
    forward := w.forward ++ (if mark != .second && w.lastConfig != some config then [configItem config] else []) ++
      [headerItem (if mark = .second then w.txSeq else w.txSeq + 1) mark t] }

/-- A link on which a start sends nothing. -/
def Link.silent (w : Link) : Link := { w with halfPending := false, sending := none }

theorem sendMarked_plain {t : Timing} {mark : HalfMark}
    (h : mark = .second ∨ (s.output o).context = none ∨ (s.output o).route.safety = none) :
    s.sendMarked o t mark = s.setLink o (s.linkSending o t mark) := by
  unfold State.sendMarked
  dsimp only
  split
  next c p hc hp =>
    have hmark : mark = .second :=
      h.resolve_right fun hnone => hnone.elim (fun h => by rw [hc] at h; cases h) fun h => by rw [hp] at h; cases h
    exact if_pos hmark
  next => rfl

theorem sendMarked_recorded {t : Timing} {mark : HalfMark} (hmark : mark ≠ .second) {c : Context} {p : SafetyPart}
    (hc : (s.output o).context = some c) (hp : (s.output o).route.safety = some p) :
    s.sendMarked o t mark = (s.setLink o (s.linkSending o t mark)).pushCrc o ((s.link o).txSeq + 1)
      (crc32 (s.windowBytes (s.frameSent o t mark) p.window)) := by
  have hseq : (if mark = HalfMark.second then (s.link o).txSeq else (s.link o).txSeq + 1) = (s.link o).txSeq + 1 :=
    if_neg hmark
  rw [← hseq, State.sendMarked]
  rw [hc, hp]
  exact if_neg hmark

theorem sendFrame_some {t : Timing} {mark : HalfMark} (hmark : s.sendMark o odd = some mark)
    (ht : (s.output o).timing = some t) : s.sendFrame o odd = s.sendMarked o t mark := by
  rw [State.sendFrame, hmark, ht]

theorem sendFrame_silent (h : s.sendMark o odd = none ∨ (s.output o).timing = none) :
    s.sendFrame o odd = s.setLink o (s.link o).silent := by
  unfold State.sendFrame
  split
  next mark t hmark ht =>
    exact h.elim (fun h => by rw [hmark] at h; cases h) fun h => by rw [ht] at h; cases h
  next => rfl

/-! ### The bytes -/

theorem headerItem_eq (seq : Half) (mark : HalfMark) (t : Timing) : headerItem seq mark t =
    let bytes := [0x11] ++ halfBytes seq ++ [byteOf mark.code] ++ halfBytes (BitVec.ofNat 16 t.hActive) ++
      halfBytes (BitVec.ofNat 16 t.vActive)
    bytes ++ halfBytes (crc16 bytes) := rfl

theorem configItem_eq (c : Configuration) : configItem c =
    let bytes := [0x10, BitVec.ofNat 8 c.depth, BitVec.ofNat 8 c.pacing] ++ match c.window with
      | none => List.replicate 9 0
      | some r => [1] ++ halfOf r.x ++ halfOf r.y ++ halfOf r.w ++ halfOf r.h
    bytes ++ halfBytes (crc16 bytes) := by
  obtain ⟨depth, pacing, window⟩ := c
  cases window with
  | none =>
    have hzeros : [0x10#8, byteOf depth, byteOf pacing, flagByte false] ++ halfOf 0 ++ halfOf 0 ++ halfOf 0 ++ halfOf 0 =
        [0x10, BitVec.ofNat 8 depth, BitVec.ofNat 8 pacing] ++ List.replicate 9 0 := rfl
    exact congrArg withCrc16 hzeros
  | some r => simp [configItem, withCrc16, byteOf, flagByte]

theorem wantedConfig_of_sending {tier : Tier} (hsome : tier ≠ .noTier) (hblocked : tier ≠ .blocked) (r : Route) :
    wantedConfig tier r = ⟨if tier = .t24 then 24 else 18, if decide (tier = .talt) then 2 else 1,
      r.safety.map (fun p => p.window)⟩ := by
  cases tier with
  | noTier => exact absurd rfl hsome
  | blocked => exact absurd rfl hblocked
  | t24 => rfl
  | t18 => rfl
  | talt => rfl

/-- The mark of a frame that is not a second half. -/
def wholeOrFirst (half : Bool) : HalfMark := if half then .first else .whole

theorem frameSent_wholeOrFirst (t : Timing) (half : Bool) : s.frameSent o t (wholeOrFirst half) =
    ⟨(s.link o).txSeq + 1, if half then .first else .whole, 0, if half then (t.vActive + 1) / 2 else t.vActive, t,
      (s.output o).tier, (s.output o).route, (s.output o).content, (s.output o).current⟩ := by
  cases half <;> rfl

theorem linkSending_wholeOrFirst (t : Timing) (half : Bool) :
    let config := wantedConfig (s.output o).tier (s.output o).route
    s.linkSending o t (wholeOrFirst half) = { s.link o with
      txSeq := (s.link o).txSeq + 1
      halfPending := half
      lastConfig := some config
      sending := some (s.frameSent o t (wholeOrFirst half))
      forward := (s.link o).forward ++ (if (s.link o).lastConfig = some config then [] else [configItem config]) ++
        [headerItem ((s.link o).txSeq + 1) (wholeOrFirst half) t] } := by
  intro config
  have hdue (b : Bool) (hb : b = true) : (if (b && (s.link o).lastConfig != some config) = true then [configItem config]
      else []) = if (s.link o).lastConfig = some config then [] else [configItem config] := by
    rw [hb, Bool.true_and]
    by_cases hsame : (s.link o).lastConfig = some config <;> simp [hsame]
  rw [← hdue true rfl]
  cases half <;> rfl

theorem linkSending_second (t : Timing) : s.linkSending o t .second = { s.link o with
    halfPending := false
    sending := some ⟨(s.link o).txSeq, .second, (t.vActive + 1) / 2, t.vActive / 2, t, (s.output o).tier,
      (s.output o).route, (s.output o).content, (s.output o).current⟩
    forward := (s.link o).forward ++ [headerItem (s.link o).txSeq .second t] } := by
  have hrest : t.vActive - (t.vActive + 1) / 2 = t.vActive / 2 := by omega
  rw [← hrest]
  simp [State.linkSending, State.frameSent, HalfMark.span, firstHalf]

/-! ### The cases of a start -/

theorem sendFrame_nothing
    (h : ¬ s.maySend o ∨ (s.output o).timing = none ∨
      (((s.output o).tier = .talt ∧ odd = true) ∧ (s.link o).halfPending = false)) :
    s.sendFrame o odd = s.setLink o (s.link o).silent := by
  refine sendFrame_silent ?_
  by_cases hmay : s.maySend o
  · obtain htiming | ⟨⟨htier, hodd⟩, hpending⟩ := h.resolve_left (not_not.mpr hmay)
    · exact .inr htiming
    · refine .inl ?_
      rw [sendMark_talt hmay htier, hodd, hpending]
      rfl
  · exact .inl (sendMark_none hmay)

theorem sendFrame_second {t : Timing} (hmay : s.maySend o) (ht : (s.output o).timing = some t)
    (htier : (s.output o).tier = .talt) (hodd : odd = true) (hpending : (s.link o).halfPending = true) :
    s.sendFrame o odd = s.setLink o (s.linkSending o t .second) := by
  have hmark : s.sendMark o odd = some .second := by
    rw [sendMark_talt hmay htier, hodd, hpending]
    rfl
  exact (sendFrame_some hmark ht).trans (sendMarked_plain (.inl rfl))

theorem sendFrame_frame {t : Timing} (hmay : s.maySend o) (ht : (s.output o).timing = some t)
    (h : ¬ ((s.output o).tier = .talt ∧ odd = true)) :
    s.sendFrame o odd = s.sendMarked o t (wholeOrFirst (decide ((s.output o).tier = .talt))) := by
  refine sendFrame_some ?_ ht
  by_cases htier : (s.output o).tier = .talt
  · have hodd : odd = false := Bool.eq_false_iff.mpr fun hodd => h ⟨htier, hodd⟩
    rw [sendMark_talt hmay htier, hodd, htier]
    rfl
  · rw [sendMark_whole hmay htier, decide_eq_false htier]
    rfl
end

/-! ### What sending leaves alone -/

/-- A change of the integrity context and comparison counts of output o, and of the Notice Table. -/
def IntegrityOnly (o : Fin 4) (s t : State) : Prop :=
  ∃ context comparisons notices, t = { s.setOutput o { s.output o with
    context := context, comparisons := comparisons } with notices := notices }

theorem IntegrityOnly.refl (o : Fin 4) (s : State) : IntegrityOnly o s s :=
  ⟨(s.output o).context, (s.output o).comparisons, s.notices, by
    rw [show ({ s.output o with context := (s.output o).context, comparisons := (s.output o).comparisons } : Output) =
      s.output o from rfl, setOutput_output]⟩

theorem IntegrityOnly.trans {o : Fin 4} {s t u : State} (h : IntegrityOnly o s t) (g : IntegrityOnly o t u) :
    IntegrityOnly o s u := by
  obtain ⟨c, k, ns, rfl⟩ := h
  obtain ⟨c', k', ns', rfl⟩ := g
  have hout : ({ s.setOutput o { s.output o with context := c, comparisons := k } with notices := ns } : State).output o =
      { s.output o with context := c, comparisons := k } := output_setOutput ..
  refine ⟨c', k', ns', ?_⟩
  rw [hout]
  exact congrArg (fun x : State => { x with notices := ns' }) (setOutput_setOutput s o _ _)

theorem IntegrityOnly.ofPost (o : Fin 4) (s : State) (k : NoticeKind) (n : Nat) : IntegrityOnly o s (s.post k n) := by
  obtain ⟨ns, hpost⟩ := post_eq s k n
  refine ⟨(s.output o).context, (s.output o).comparisons, ns, hpost.trans ?_⟩
  exact congrArg (fun x : State => { x with notices := ns }) (setOutput_output s o).symm

theorem IntegrityOnly.ofSet (o : Fin 4) (s : State) (c : Option Context) (k : Comparisons) :
    IntegrityOnly o s (s.setOutput o { s.output o with context := c, comparisons := k }) := ⟨c, k, s.notices, rfl⟩

theorem integrityStep_integrityOnly (s : State) (o : Fin 4) (e : IntegrityStep) :
    IntegrityOnly o s (s.integrityStep o e) := by
  unfold State.integrityStep
  dsimp only
  split
  · split
    · exact (IntegrityOnly.ofSet ..).trans (.ofPost ..)
    · exact .ofSet ..
  · exact .refl o s

theorem pushCrc_integrityOnly (s : State) (o : Fin 4) (seq : Half) (crc : Word) :
    IntegrityOnly o s (s.pushCrc o seq crc) := by
  cases hc : (s.output o).context with
  | none =>
    rw [pushCrc_none seq crc hc]
    exact .refl o s
  | some c =>
    have hpush : IntegrityOnly o s (s.setOutput o { s.output o with context := some (c.pushed seq crc) }) := .ofSet ..
    rw [pushCrc_some seq crc hc]
    dsimp only
    split
    · exact hpush.trans (integrityStep_integrityOnly ..)
    · exact hpush

theorem sendMarked_integrityOnly (s : State) (o : Fin 4) (t : Timing) (mark : HalfMark) :
    IntegrityOnly o (s.setLink o (s.linkSending o t mark)) (s.sendMarked o t mark) := by
  by_cases hplain : mark = .second ∨ (s.output o).context = none ∨ (s.output o).route.safety = none
  · rw [sendMarked_plain hplain]
    exact .refl ..
  · obtain ⟨hmark, hc, hp⟩ : mark ≠ .second ∧ (s.output o).context ≠ none ∧ (s.output o).route.safety ≠ none := by
      simpa only [not_or] using hplain
    obtain ⟨c, hc⟩ := Option.ne_none_iff_exists'.mp hc
    obtain ⟨p, hp⟩ := Option.ne_none_iff_exists'.mp hp
    rw [sendMarked_recorded hmark hc hp]
    exact pushCrc_integrityOnly ..

/-- Sending makes of the link of output o a silent one or one that sends; else it changes only the integrity context. -/
theorem sendFrame_integrityOnly (s : State) (o : Fin 4) (odd : Bool) :
    ∃ w, IntegrityOnly o (s.setLink o w) (s.sendFrame o odd) ∧ w.state = (s.link o).state := by
  cases hmark : s.sendMark o odd with
  | none =>
    rw [sendFrame_silent (.inl hmark)]
    exact ⟨_, .refl .., rfl⟩
  | some mark =>
    cases ht : (s.output o).timing with
    | none =>
      rw [sendFrame_silent (.inr ht)]
      exact ⟨_, .refl .., rfl⟩
    | some t =>
      rw [sendFrame_some hmark ht]
      exact ⟨_, sendMarked_integrityOnly .., rfl⟩

end Sys2Proof.Machine
end

section
/-! A vertical start stage by stage, with what each stage makes of the output and posts; and the PROOF of VerticalStartRules
(O31). -/

namespace Sys2Proof.Machine

open Sys2Proof.Claims

/-! ### The stages (R63, R82, R83) -/

/-- A start of an odd count under TALT applies and selects nothing (R103). -/
def Output.skipsStart (v : Output) : Bool := decide (v.tier = .talt) && decide (v.starts.toNat % 2 = 1)

/-- Are there staged items that this start applies? -/
def Output.startApplies (v : Output) : Bool :=
  !v.skipsStart && decide (v.stagedTiming ≠ none ∨ v.stagedRoute ≠ none)

/-- The output with one start more counted. -/
def Output.counted (v : Output) : Output := { v with starts := v.starts + 1 }

/-- The start is counted. -/
def State.startCounted (s : State) (o : Fin 4) : State := s.modOutput o Output.counted

/-- Staged items are applied. -/
def State.startApplied (s : State) (o : Fin 4) : State :=
  if (s.output o).skipsStart then s.startCounted o else (s.startCounted o).applyStaged o true

/-- Lock and freshness are evaluated. -/
def State.startReady (s : State) (o : Fin 4) : State :=
  ((s.startApplied o).lockFrame o
    (decide (sourceStream ((s.startApplied o).output o).route ≠ sourceStream (s.output o).route))).freshenOutput o

/-- The content is selected. -/
def State.startSelected (s : State) (o : Fin 4) : State :=
  if (s.output o).skipsStart then s.startReady o else (s.startReady o).selectContent o

/-- Hold-on-static follows in RUN. -/
def State.startHeld (s : State) (o : Fin 4) : State :=
  let skip := (s.output o).skipsStart
  if s.mode = .run ∧ (skip = false ∨ ((s.startSelected o).output o).state = .paused) then
    (s.startSelected o).modOutput o (fun v => v.holdOnStatic (!skip && (s.output o).stagedRoute.isSome))
  else s.startSelected o

theorem verticalStart_eq (s : State) (o : Fin 4) :
    s.verticalStart o = (s.startHeld o).sendFrame o (decide ((s.output o).starts.toNat % 2 = 1)) := by
  have hodd : (s.output o).starts.getLsbD 0 = decide ((s.output o).starts.toNat % 2 = 1) := Nat.testBit_zero _
  have htalt : ((s.output o).tier == Tier.talt) = decide ((s.output o).tier = .talt) := by
    cases (s.output o).tier <;> rfl
  unfold State.verticalStart
  dsimp only
  rw [hodd, htalt]
  rfl

section
variable {s : State} {o : Fin 4}

theorem startTimer_of_not_running (h : (s.output o).state.running = false) : s.startTimer o = none := by
  rw [State.startTimer, h]
  rfl

theorem startTimer_of_running (h : (s.output o).state.running = true) :
    s.startTimer o = some ((s.output o).untilStart.num / (s.output o).untilStart.den) := if_pos h

/-! ### Applying -/

theorem startApplies_iff (h : (s.output o).startApplies = true) :
    (s.output o).skipsStart = false ∧ ((s.output o).stagedTiming ≠ none ∨ (s.output o).stagedRoute ≠ none) := by
  simpa [Output.startApplies] using h

theorem startApplied_of_not_applies (h : (s.output o).startApplies = false) : s.startApplied o = s.startCounted o := by
  unfold State.startApplied
  split
  next => rfl
  next hskip =>
    have hskip := Bool.eq_false_iff.mpr hskip
    have hnone : (s.output o).stagedTiming = none ∧ (s.output o).stagedRoute = none := by
      rw [Output.startApplies, hskip] at h
      simpa using h
    have hout : (s.startCounted o).output o = (s.output o).counted := output_modOutput ..
    exact applyStaged_none (by rw [hout]; exact hnone) true

/-- The output with a start counted and its staged items applied. -/
def State.startOutput (s : State) (o : Fin 4) : Output :=
  let v := (s.output o).counted
  if (s.output o).startApplies then v.withStaged true (s.stagedTier o) else v

theorem startOutput_of_applies (h : (s.output o).startApplies = true) : s.startOutput o =
    (s.output o).counted.withStaged true (s.stagedTier o) := if_pos h

theorem startOutput_of_not_applies (h : (s.output o).startApplies = false) :
    s.startOutput o = (s.output o).counted := if_neg (Bool.eq_false_iff.mp h)

/-- What is posted where staged items are applied (R58, R77, R99). -/
def State.startPosts (s : State) (o : Fin 4) (k : NoticeKind) : Prop :=
  (k = .lockState ∧ decide ((s.output o).lock = .locked) ≠ decide ((s.startOutput o).lock = .locked)) ∨
  (k = .outputTier ∧ (s.output o).startApplies = true ∧ (s.startOutput o).tier ≠ (s.output o).tier) ∨
  (k = .routeApplied ∧ (s.output o).startApplies = true)

theorem withStaged_lock (v : Output) (atStart : Bool) (tier : Tier) :
    (v.withStaged atStart tier).lock = if v.seeks then .seeking else v.lock := rfl

theorem withStaged_goodLocks (v : Output) (atStart : Bool) (tier : Tier) :
    (v.withStaged atStart tier).goodLocks = if v.seeks then 0 else v.goodLocks := rfl

/-- Where applying leaves LOCKED, the lock is SEEKING with no good lock counted. -/
theorem startOutput_unlocked
    (h : decide ((s.output o).lock = .locked) ≠ decide ((s.startOutput o).lock = .locked)) :
    (s.startOutput o).lock = .seeking ∧ (s.startOutput o).goodLocks = 0 := by
  cases happlies : (s.output o).startApplies with
  | false =>
    rw [startOutput_of_not_applies happlies] at h
    exact absurd rfl h
  | true =>
    rw [startOutput_of_applies happlies, withStaged_lock] at h
    rw [startOutput_of_applies happlies, withStaged_lock, withStaged_goodLocks]
    split_ifs at h ⊢ with hseeks
    · exact ⟨rfl, rfl⟩
    · exact absurd rfl h

theorem startCounted_posts (s : State) (o : Fin 4) : OutputPosts o (fun _ => False) s
    (s.output o).counted (s.startCounted o) := OutputPosts.mod o s _

theorem startApplied_posts (s : State) (o : Fin 4) :
    OutputPosts o (s.startPosts o) s (s.startOutput o) (s.startApplied o) := by
  have hcounted := startCounted_posts s o
  unfold State.startPosts
  cases happlies : (s.output o).startApplies with
  | false =>
    rw [startApplied_of_not_applies happlies, startOutput_of_not_applies happlies]
    have hsame : (s.output o).counted.lock = (s.output o).lock := rfl
    exact hcounted.congr fun k => by simp [hsame]
  | true =>
    obtain ⟨hskip, hstaged⟩ := startApplies_iff happlies
    have happlied := applyStaged_posts (s := s.startCounted o) (o := o) (by rw [hcounted.output]; exact hstaged) true
    have htier : (s.startCounted o).stagedTier o = s.stagedTier o := by
      rw [State.stagedTier, hcounted.output, hcounted.link]
      rfl
    rw [hcounted.output, htier] at happlied
    rw [State.startApplied, if_neg (Bool.eq_false_iff.mp hskip), startOutput_of_applies happlies]
    refine (hcounted.trans happlied fun _ hf => hf.elim).congr fun k => ?_
    have hlock : ((s.output o).counted.seeks = true ∧
        (s.output o).lock = .locked) ↔ decide ((s.output o).lock = .locked) ≠
          decide (((s.output o).counted.withStaged true
            (s.stagedTier o)).lock = .locked) := by
      rw [withStaged_lock]
      split_ifs with hseeks
      · simp [hseeks]
      · exact ⟨fun h => absurd h.1 hseeks, fun h => absurd rfl h⟩
    rw [← hlock]
    constructor
    · rintro (hf | ((⟨rfl, hl⟩ | ⟨rfl, ht⟩) | rfl))
      · exact hf.elim
      · exact .inl ⟨rfl, hl⟩
      · exact .inr (.inl ⟨rfl, rfl, ht⟩)
      · exact .inr (.inr ⟨rfl, rfl⟩)
    · rintro (⟨rfl, hl⟩ | ⟨rfl, _, ht⟩ | ⟨rfl, _⟩)
      · exact .inr (.inl (.inl ⟨rfl, hl⟩))
      · exact .inr (.inl (.inr ⟨rfl, ht⟩))
      · exact .inr (.inr rfl)
end

/-! ### Frame lock -/

/-- What frame lock sets of an output. -/
def Framed (v w : Output) : Prop := ∃ lines span lock good bad error, w = { v with
  frameLines := lines, untilStart := span, lock := lock, goodLocks := good, badLocks := bad, phaseError := error }

theorem Framed.lockUpdate {v w : Output} (h : Framed v w) (e : Int) : Framed v (w.lockUpdate e).1 := by
  obtain ⟨lines, span, lock, good, bad, error, rfl⟩ := h
  obtain ⟨lock', good', bad', hupdate⟩ := lockUpdate_eq { v with
    frameLines := lines, untilStart := span, lock := lock, goodLocks := good, badLocks := bad, phaseError := error } e
  exact ⟨lines, span, lock', good', bad', error, hupdate⟩

theorem lockBecomes_posts (s : State) (o : Fin 4) (w : Output) : OutputPosts o
    (fun k => k = .lockState ∧ decide ((s.output o).lock = .locked) ≠ decide (w.lock = .locked)) s w
    (s.lockBecomes o w) := by
  have hset : OutputPosts o (fun _ => False) s w (s.setOutput o w) := OutputPosts.mod o s fun _ => w
  by_cases hsame : decide ((s.output o).lock = .locked) = decide (w.lock = .locked)
  · rw [lockBecomes_of_same hsame]
    exact hset.congr fun k => by simp [hsame]
  · rw [lockBecomes_of_changed hsame]
    exact (hset.then_post id).congr fun k =>
      ⟨fun h => ⟨h.resolve_left id, hsame⟩, fun h => .inr h.1⟩

theorem soughtIf_seeking {v : Output} (h : v.lock = .seeking) (moved : Bool) : (v.soughtIf moved).lock = .seeking := by
  cases moved with
  | false => exact h
  | true => rfl

theorem soughtIf_goodLocks {v : Output} (h : v.goodLocks = 0) (moved : Bool) : (v.soughtIf moved).goodLocks = 0 := by
  cases moved with
  | false => exact h
  | true => rfl

/-- Frame lock sets the output's frame and lock; a lock that begins SEEKING does not become LOCKED at once. -/
theorem lockFrame_becomes (s : State) (o : Fin 4) (moved : Bool) :
    ∃ w, s.lockFrame o moved = s.lockBecomes o w ∧ Framed (s.output o) w ∧
      ((s.output o).lock = .seeking → (s.output o).goodLocks = 0 → w.lock ≠ .locked) := by
  cases ht : (s.output o).timing with
  | none =>
    refine ⟨s.output o, ?_, ⟨_, _, _, _, _, _, rfl⟩, fun h _ => by rw [h]; decide⟩
    rw [lockFrame_untimed ht, lockBecomes_self]
  | some t =>
    cases hon : (s.output o).lockOn with
    | false =>
      refine ⟨_, lockFrame_lockOff ht hon moved, ⟨_, _, _, _, _, _, rfl⟩, fun h _ => ?_⟩
      rw [Output.beginFrame, h]
      decide
    | true =>
      cases hsource : s.lockSource o with
      | none => exact ⟨_, lockFrame_unusable ht hon hsource moved, ⟨_, _, _, _, _, _, rfl⟩, fun _ _ => nofun⟩
      | some x =>
        obtain ⟨period, d⟩ := x
        refine ⟨_, lockFrame_usable ht hon hsource moved, Framed.lockUpdate ?_ _, fun hlock hgood => ?_⟩
        · cases moved <;> exact ⟨_, _, _, _, _, _, rfl⟩
        · have hsought := (lockUpdate_of_sought (v := {
              ((s.output o).soughtIf moved).beginFrame t (adjustedLines t
                (phaseLines (foldPhase d (s.output o).lockTarget period) t)) with
              phaseError := phaseLines (foldPhase d (s.output o).lockTarget period) t })
            (soughtIf_seeking hlock moved) (soughtIf_goodLocks hgood moved)
            (phaseLines (foldPhase d (s.output o).lockTarget period) t)).1
          rw [hsought]
          decide

/-! ### Freshness -/

/-- Freshness goes stale. -/
def turnsStale : Option Freshness → Option Freshness → Bool
  | some .fresh, some (.stale _) => true
  | _, _ => false

/-- Freshness comes back from stale. -/
def turnsFresh : Option Freshness → Option Freshness → Bool
  | some (.stale _), some .fresh => true
  | _, _ => false

/-- What is posted by a change of an integrity context's freshness (R178). -/
def freshnessPosts (old new : Option Context) (k : NoticeKind) : Prop :=
  (k = .stale ∧ turnsStale (old.map Context.freshness) (new.map Context.freshness) = true) ∨
  (k = .fresh ∧ turnsFresh (old.map Context.freshness) (new.map Context.freshness) = true)

theorem freshnessPosts_same (c : Option Context) (k : NoticeKind) : ¬ freshnessPosts c c k := by
  unfold freshnessPosts
  cases c with
  | none => simp [turnsStale, turnsFresh]
  | some c => cases h : c.freshness <;> simp [h, turnsStale, turnsFresh]

/-- The notice of an evaluation of freshness is the one its change calls for. -/
theorem evaluateFreshness_notice (fr : Freshness) (published : Word) (hasLatest : Bool) (age : Option Word)
    (timeoutMs : Nat) (k : NoticeKind) :
    let out := evaluateFreshness fr published hasLatest age timeoutMs
    out.2 = some k ↔ (k = .stale ∧ turnsStale (some fr) (some out.1) = true) ∨
      (k = .fresh ∧ turnsFresh (some fr) (some out.1) = true) := by
  cases fr with
  | waiting => rw [evaluateFreshness_waiting]; split_ifs <;> simp [turnsStale, turnsFresh]
  | fresh => rw [evaluateFreshness_fresh]; split_ifs <;> simp [turnsStale, turnsFresh, eq_comm]
  | stale base => rw [evaluateFreshness_stale]; split_ifs <;> simp [turnsStale, turnsFresh, eq_comm]

theorem freshness?_context {s : State} {o : Fin 4} {c : Context} {age : Option Word}
    {out : Freshness × Option NoticeKind} (h : s.freshness? o = some (c, age, out)) :
    (s.output o).context = some c ∧ ∃ published hasLatest timeoutMs,
      out = evaluateFreshness c.freshness published hasLatest age timeoutMs := by
  unfold State.freshness? at h
  split at h
  next c' p src hc hp hsrc =>
    obtain ⟨r, hr, heq⟩ := Option.map_eq_some_iff.mp h
    obtain ⟨rfl, hrest⟩ := Prod.mk.inj heq
    obtain ⟨rfl, rfl⟩ := Prod.mk.inj hrest
    exact ⟨hc, _, _, _, rfl⟩
  next => cases h

theorem freshenOutput_posts (s : State) (o : Fin 4) : ∃ context,
    OutputPosts o (freshnessPosts (s.output o).context context) s { s.output o with context := context }
      (s.freshenOutput o) := by
  rw [freshenOutput_eq]
  cases hfr : s.freshness? o with
  | none => exact ⟨(s.output o).context, (OutputPosts.refl o s).congr fun k =>
      ⟨False.elim, freshnessPosts_same _ k⟩⟩
  | some x =>
    obtain ⟨c, age, out⟩ := x
    obtain ⟨hc, published, hasLatest, timeoutMs, hout⟩ := freshness?_context hfr
    have hnotice (k : NoticeKind) : out.2 = some k ↔
        freshnessPosts (s.output o).context (some { c with freshness := out.1, age := age }) k := by
      rw [hc, hout]
      exact evaluateFreshness_notice c.freshness published hasLatest age timeoutMs k
    refine ⟨some { c with freshness := out.1, age := age }, ?_⟩
    have hset := OutputPosts.mod o s fun v => { v with context := some { c with freshness := out.1, age := age } }
    change OutputPosts o _ s _ (s.freshened o c age out)
    unfold State.freshened
    cases hk : out.2 with
    | none => exact hset.congr fun k => by rw [← hnotice, hk]; simp
    | some k' => exact (hset.then_post id).congr fun k => by rw [← hnotice, hk]; simp [eq_comm]

/-! ### Selection and hold-on-static -/

/-- The output with what a selection decided. -/
def Output.shows (v : Output) (c : Selection) : Output :=
  { v with current := c.slot, content := c.content, lastShown := c.lastShown }

theorem selectContent_posts (s : State) (o : Fin 4) : OutputPosts o
    (fun k => k = .fallbackMissing ∧ (s.select o).missing = true) s ((s.output o).shows (s.select o))
    (s.selectContent o) :=
  ((OutputPosts.mod o s fun v => v.shows (s.select o)).then_postIf ((s.select o).missing = true) id).congr fun _ =>
    or_iff_right id

/-- The output after hold-on-static. -/
theorem holdOnStatic_eq {v : Output} (h : v.state.running = true) (applied : Bool) : v.holdOnStatic applied =
    let count := if v.content = .live ∨ applied = true then 0 else bump v.unchanged
    let k := v.route.holdAfter
    { v with
      unchanged := if v.state = .paused then 0 else count
      state := if v.state = .hold then (if count = 0 ∨ k = 0 then .scanning else .hold)
        else if v.state = .scanning then (if 0 < k ∧ k ≤ count.toNat then .hold else .scanning)
        else v.state } := by
  unfold Output.holdOnStatic
  cases hstate : v.state with
  | off => rw [hstate] at h; cases h
  | suspended p => rw [hstate] at h; cases h
  | scanning => simp
  | hold => simp
  | paused => simp

/-! ### The start as a whole -/

section
variable {s : State} {o : Fin 4}

theorem ne_or_ne_iff {a b c : Bool} (h : a ≠ b → b = c) : (a ≠ b ∨ b ≠ c) ↔ a ≠ c := by
  revert a b c
  decide

/-- What is posted of an output until it is ready, its lock becoming `lock` and its context `context`. -/
def State.readyPosts (s : State) (o : Fin 4) (lock : LockState) (context : Option Context) (k : NoticeKind) : Prop :=
  (k = .lockState ∧ decide ((s.output o).lock = .locked) ≠ decide (lock = .locked)) ∨
  (k = .outputTier ∧ (s.output o).startApplies = true ∧ (s.startOutput o).tier ≠ (s.output o).tier) ∨
  (k = .routeApplied ∧ (s.output o).startApplies = true) ∨
  freshnessPosts (s.startOutput o).context context k

/-- LOCKED is left or entered once at a start: by applying or by frame lock. -/
theorem readyPosts_iff {lock : LockState} {context : Option Context}
    (hstays : (s.startOutput o).lock = .seeking → (s.startOutput o).goodLocks = 0 → lock ≠ .locked) (k : NoticeKind) :
    ((s.startPosts o k ∨
      (k = .lockState ∧ decide ((s.startOutput o).lock = .locked) ≠ decide (lock = .locked))) ∨
      freshnessPosts (s.startOutput o).context context k) ↔ s.readyPosts o lock context k := by
  have honce := ne_or_ne_iff (a := decide ((s.output o).lock = .locked)) (b := decide ((s.startOutput o).lock = .locked))
    (c := decide (lock = .locked)) fun hfirst => by
      obtain ⟨hseeking, hgood⟩ := startOutput_unlocked hfirst
      simp [hseeking, hstays hseeking hgood]
  unfold State.readyPosts State.startPosts
  rw [← honce, and_or_left]
  constructor
  · rintro (((h | h | h) | h) | h)
    · exact .inl (.inl h)
    · exact .inr (.inl h)
    · exact .inr (.inr (.inl h))
    · exact .inl (.inr h)
    · exact .inr (.inr (.inr h))
  · rintro ((h | h) | h | h | h)
    · exact .inl (.inl (.inl h))
    · exact .inl (.inr h)
    · exact .inl (.inl (.inr (.inl h)))
    · exact .inl (.inl (.inr (.inr h)))
    · exact .inr h

theorem freshnessPosts_kind {old new : Option Context} {k : NoticeKind} (h : freshnessPosts old new k) :
    k = .stale ∨ k = .fresh := h.imp And.left And.left

theorem startPosts_kind {k : NoticeKind} (h : s.startPosts o k) : k = .lockState ∨ k = .outputTier ∨ k = .routeApplied :=
  h.imp And.left fun h => h.imp And.left And.left

/-- Once ready, the output has its frame, lock and freshness set; LOCK_STATE is posted when LOCKED is entered or left, and
the freshness notices by the change of the context. -/
theorem startReady_posts (s : State) (o : Fin 4) : ∃ w context, Framed (s.startOutput o) w ∧
    OutputPosts o (s.readyPosts o w.lock context) s { w with context := context } (s.startReady o) := by
  have happlied := startApplied_posts s o
  obtain ⟨w, hlocked, hframed, hstays⟩ := lockFrame_becomes (s.startApplied o) o
    (decide (sourceStream ((s.startApplied o).output o).route ≠ sourceStream (s.output o).route))
  have hlock := lockBecomes_posts (s.startApplied o) o w
  rw [happlied.output] at hframed hstays hlock
  have hframe := happlied.trans hlock fun k hk ⟨hkind, hsecond⟩ => by
    obtain ⟨_, hfirst⟩ | ⟨hk, _⟩ | ⟨hk, _⟩ := hk
    · obtain ⟨hseeking, hgood⟩ := startOutput_unlocked hfirst
      exact hsecond (by simp [hseeking, hstays hseeking hgood])
    · cases hkind.symm.trans hk
    · cases hkind.symm.trans hk
  obtain ⟨context, hfresh⟩ := freshenOutput_posts ((s.startApplied o).lockBecomes o w) o
  have hcontext : w.context = (s.startOutput o).context := by
    obtain ⟨lines, span, lock, good, bad, error, rfl⟩ := hframed
    rfl
  rw [lockBecomes_output, hcontext] at hfresh
  have hboth := hframe.trans hfresh fun k hk hnew => by
    have hnew := freshnessPosts_kind hnew
    have hold : k = .lockState ∨ k = .outputTier ∨ k = .routeApplied := hk.elim startPosts_kind fun h => .inl h.1
    obtain rfl | rfl | rfl := hold <;> simp at hnew
  refine ⟨w, context, hframed, ?_⟩
  rw [State.startReady, hlocked]
  exact hboth.congr (readyPosts_iff hstays)

/-- What a start posts before the frame is sent. -/
def State.startNotices (s : State) (o : Fin 4) (k : NoticeKind) : Bool :=
  let v := s.output o
  let a := s.startOutput o
  let r := (s.startReady o).output o
  match k with
  | .routeApplied => v.startApplies
  | .outputTier => v.startApplies && decide (a.tier ≠ v.tier)
  | .lockState => decide (v.lock = .locked) != decide (r.lock = .locked)
  | .stale => turnsStale (a.context.map Context.freshness) (r.context.map Context.freshness)
  | .fresh => turnsFresh (a.context.map Context.freshness) (r.context.map Context.freshness)
  | .fallbackMissing => !v.skipsStart && ((s.startReady o).select o).missing
  | _ => false

theorem startNotices_iff (s : State) (o : Fin 4) (k : NoticeKind) :
    s.startNotices o k = true ↔
      s.readyPosts o ((s.startReady o).output o).lock ((s.startReady o).output o).context k ∨
      (k = .fallbackMissing ∧ (s.output o).skipsStart = false ∧ ((s.startReady o).select o).missing = true) := by
  unfold State.readyPosts freshnessPosts
  cases k <;> simp [State.startNotices]

/-- The output after selection. -/
def State.shownOutput (s : State) (o : Fin 4) : Output :=
  let r := (s.startReady o).output o
  if (s.output o).skipsStart then r else r.shows ((s.startReady o).select o)

/-- The output after selection and hold-on-static. -/
def State.heldOutput (s : State) (o : Fin 4) : Output :=
  let skip := (s.output o).skipsStart
  let shown := s.shownOutput o
  if s.mode = .run ∧ (skip = false ∨ shown.state = .paused) then
    shown.holdOnStatic (!skip && (s.output o).stagedRoute.isSome)
  else shown

theorem startHeld_posts (s : State) (o : Fin 4) :
    OutputPosts o (fun k => s.startNotices o k = true) s (s.heldOutput o) (s.startHeld o) := by
  obtain ⟨w, context, hframed, hready⟩ := startReady_posts s o
  have hout := hready.output
  have hlock : ((s.startReady o).output o).lock = w.lock := by rw [hout]
  have hcontext : ((s.startReady o).output o).context = context := by rw [hout]
  have hselected : OutputPosts o (fun k => s.startNotices o k = true) s (s.shownOutput o) (s.startSelected o) := by
    unfold State.startSelected State.shownOutput
    rw [← hout, ← hlock, ← hcontext] at hready
    cases hskip : (s.output o).skipsStart with
    | true =>
      rw [if_pos rfl, if_pos rfl]
      refine hready.congr fun k => ?_
      rw [startNotices_iff, hskip]
      simp
    | false =>
      have hselect := selectContent_posts (s.startReady o) o
      rw [if_neg Bool.false_ne_true, if_neg Bool.false_ne_true]
      refine (hready.trans hselect ?_).congr fun k => ?_
      · rintro k hk ⟨rfl, _⟩
        obtain ⟨hk, _⟩ | ⟨hk, _⟩ | ⟨hk, _⟩ | ⟨hk, _⟩ | ⟨hk, _⟩ := hk <;> cases hk
      · rw [startNotices_iff, hskip]
        simp
  unfold State.startHeld State.heldOutput
  dsimp only
  rw [hselected.output]
  split
  · exact hselected.then_mod fun v => v.holdOnStatic (!(s.output o).skipsStart && (s.output o).stagedRoute.isSome)
  · exact hselected
end

end Sys2Proof.Machine
end

section
/-! PROOF of VerticalStartRules (O31). -/

namespace Sys2Proof.Machine

open Sys2Proof.Claims

section
variable {s : State} {o : Fin 4}

/-! ### The output, field by field -/

/-- Does the staged timing change what frame lock counts in, written over both timings (R77)? -/
theorem seeks_eq (v : Output) : (v.lockOn && match v.stagedTiming, v.timing with
    | none, _ => false
    | some _, none => true
    | some x, some y => decide (x.pclk ≠ y.pclk ∨ x.hActive + x.hBlank ≠ y.hActive + y.hBlank ∨
        x.vActive + x.vBlank ≠ y.vActive + y.vBlank)) = v.seeks := by
  unfold Output.seeks
  refine congrArg (v.lockOn && ·) ?_
  cases hx : v.stagedTiming with
  | none => rfl
  | some x =>
    cases hy : v.timing with
    | none => rfl
    | some y =>
      dsimp only
      rw [rasterChanged, Bool.eq_iff_iff]
      simp only [decide_eq_true_eq, Bool.or_eq_true, bne_iff_ne, Timing.hTotal, Timing.vTotal, ne_comm, or_assoc]

theorem startOutput_applied (h : (s.output o).startApplies = true) :
    let v := s.output o
    let route := v.stagedRoute.getD v.route
    let timing := v.stagedTiming.or v.timing
    let unpauses := v.stagedRoute ≠ none ∧ v.state = .paused
    s.startOutput o = { v with
      starts := v.starts + 1, timing := timing, stagedTiming := none, route := route, stagedRoute := none
      tier := chooseTier timing route.allow18 route.allowAlt (s.link o).governingRate
      lastShown := if v.stagedRoute = none then v.lastShown else none
      context := if v.stagedRoute = none then v.context
        else route.safety.map (fun _ => ⟨.waiting, none, .clean, false, 0, 0, [], 0⟩)
      state := if unpauses then .scanning else v.state
      unchanged := if unpauses then 0 else v.unchanged
      lock := if v.seeks then .seeking else v.lock
      goodLocks := if v.seeks then 0 else v.goodLocks
      badLocks := if v.seeks then 0 else v.badLocks
      phaseError := if v.seeks then 0 else v.phaseError } := by
  intro v route timing unpauses
  have hunpauses : ((true && v.stagedRoute.isSome) = true ∧ v.state = .paused) = unpauses := by
    rw [Bool.true_and, Option.isSome_iff_ne_none]
  rw [startOutput_of_applies h, ← contextFor_eq]
  simp only [← hunpauses]
  rfl

/-- Lock, frame and context aside, a ready output is as it is once staged items are applied. -/
theorem startReady_output (s : State) (o : Fin 4) : ∃ lines span lock good bad error context,
    (s.startReady o).output o = { s.startOutput o with
      frameLines := lines, untilStart := span, lock := lock, goodLocks := good, badLocks := bad, phaseError := error
      context := context } := by
  obtain ⟨w, context, ⟨lines, span, lock, good, bad, error, rfl⟩, hready⟩ := startReady_posts s o
  exact ⟨lines, span, lock, good, bad, error, context, hready.output⟩

theorem startReady_state (s : State) (o : Fin 4) : ((s.startReady o).output o).state = (s.startOutput o).state := by
  obtain ⟨lines, span, lock, good, bad, error, context, h⟩ := startReady_output s o
  rw [h]

theorem startReady_route (s : State) (o : Fin 4) : ((s.startReady o).output o).route = (s.startOutput o).route := by
  obtain ⟨lines, span, lock, good, bad, error, context, h⟩ := startReady_output s o
  rw [h]

theorem startOutput_skipped (h : (s.output o).skipsStart = true) : s.startOutput o = (s.output o).counted :=
  startOutput_of_not_applies (by rw [Output.startApplies, h]; rfl)

theorem startOutput_running (h : (s.output o).state.running = true) : (s.startOutput o).state.running = true := by
  cases happlies : (s.output o).startApplies with
  | false => rwa [startOutput_of_not_applies happlies]
  | true =>
    rw [startOutput_applied happlies]
    dsimp only
    split
    · rfl
    · exact h

/-- A start that skips: only PAUSED in RUN clears the unchanged count. -/
theorem heldOutput_skipped (hrunning : (s.output o).state.running = true) (hskip : (s.output o).skipsStart = true) :
    s.heldOutput o = { (s.startReady o).output o with
      unchanged := if s.mode = .run ∧ (s.output o).state = .paused then 0
        else ((s.startReady o).output o).unchanged } := by
  have hstate : ((s.startReady o).output o).state = (s.output o).state := by
    rw [startReady_state, startOutput_skipped hskip]
    rfl
  have hcond : (s.mode = .run ∧ (true = false ∨ ((s.startReady o).output o).state = .paused)) =
      (s.mode = .run ∧ (s.output o).state = .paused) := by
    rw [hstate]
    simp
  rw [State.heldOutput, State.shownOutput, hskip]
  dsimp only
  rw [if_pos rfl]
  simp only [hcond]
  split
  next hpaused =>
    rw [holdOnStatic_eq (by rw [hstate]; exact hrunning), hstate, hpaused.2]
    simp
  next => rfl

/-- A start that selects: hold-on-static follows in RUN. -/
theorem heldOutput_selected (hrunning : (s.output o).state.running = true) (hskip : (s.output o).skipsStart = false) :
    let r := (s.startReady o).output o
    let c := (s.startReady o).select o
    let count := if c.content = .live ∨ (s.output o).stagedRoute ≠ none then 0 else bump r.unchanged
    let k := (s.startOutput o).route.holdAfter
    s.heldOutput o = { r with
      current := c.slot, content := c.content, lastShown := c.lastShown
      unchanged := if s.mode ≠ .run then r.unchanged else if r.state = .paused then 0 else count
      state := if s.mode ≠ .run then r.state
        else if r.state = .hold then (if count = 0 ∨ k = 0 then .scanning else .hold)
        else if r.state = .scanning then (if 0 < k ∧ k ≤ count.toNat then .hold else .scanning)
        else r.state } := by
  intro r c count k
  have hroute : k = r.route.holdAfter := congrArg Route.holdAfter (startReady_route s o).symm
  have hrun : (r.shows c).state.running = true := by
    change r.state.running = true
    rw [startReady_state]
    exact startOutput_running hrunning
  have hcount : (if (r.shows c).content = .live ∨ (!false && (s.output o).stagedRoute.isSome) = true then 0
      else bump (r.shows c).unchanged) = count := by
    have hiff : (!false && (s.output o).stagedRoute.isSome) = true ↔ (s.output o).stagedRoute ≠ none := by
      simp [Option.isSome_iff_ne_none]
    simp only [hiff]
    rfl
  have hshown : s.shownOutput o = r.shows c := if_neg (Bool.eq_false_iff.mp hskip)
  rw [State.heldOutput, hshown, hskip]
  by_cases hmode : s.mode = .run
  · rw [if_pos ⟨hmode, .inl rfl⟩, holdOnStatic_eq hrun]
    dsimp only
    rw [hcount, hroute]
    simp only [ne_eq, hmode, not_true_eq_false, if_false]
    rfl
  · rw [if_neg fun h => hmode h.1]
    simp [hmode, Output.shows]

/-! ### The notices -/

/-- What a ledger says of each record of the Notice Table. -/
theorem Counted.countOf {n : Nat} {P : NoticeKind → Prop} {s t : State} (h : Counted n P s t) (hok : NoticesOk s)
    (k : NoticeKind) (object : Nat) [Decidable (s.mode ≠ .init ∧ s.masked k = false ∧ object = n ∧ P k)] :
    Claims.countOf t.notices k object = if s.mode ≠ .init ∧ s.masked k = false ∧ object = n ∧ P k
      then min 255 (Claims.countOf s.notices k object + 1) else Claims.countOf s.notices k object := by
  split
  next hposted =>
    obtain ⟨hmode, hmask, rfl, hP⟩ := hposted
    exact h.posted hok k hP hmode hmask
  next hnot => exact h.kept hok k object fun ⟨hP, hobject, hmode, hmask⟩ => hnot ⟨hmode, hmask, hobject, hP⟩
end

/-! ### What is sent, as the link and the output show it -/

theorem IntegrityOnly.link {o : Fin 4} {s t : State} (h : IntegrityOnly o s t) (l : Fin 4) : t.link l = s.link l := by
  obtain ⟨c, k, ns, rfl⟩ := h
  rfl

theorem IntegrityOnly.output_ne {o : Fin 4} {s t : State} (h : IntegrityOnly o s t) {p : Fin 4} (hp : p ≠ o) :
    t.output p = s.output p := by
  obtain ⟨c, k, ns, rfl⟩ := h
  exact output_setOutput_ne s o p _ hp

theorem IntegrityOnly.output {o : Fin 4} {s t : State} (h : IntegrityOnly o s t) :
    ∃ context comparisons, t.output o = { s.output o with context := context, comparisons := comparisons } := by
  obtain ⟨c, k, ns, rfl⟩ := h
  exact ⟨c, k, output_setOutput s o _⟩

theorem IntegrityOnly.partsOnly {o : Fin 4} {u s t : State} {v : Output} {w : Link} {ns : List Notice}
    (h : IntegrityOnly o (s.setLink o w) t) (hs : s = { u.setOutput o v with notices := ns }) :
    ∃ outputs links notices, t = { u with outputs := outputs, links := links, notices := notices } := by
  subst hs
  obtain ⟨c, k, ns', rfl⟩ := h
  exact ⟨_, _, _, rfl⟩

/-- The reasons why a start that sends nothing does so, as the output after it and the link before it show them. -/
def sendsNot (w : Output) (before : Link) (p : Prop) : Prop :=
  before.state ≠ .up ∨ w.tier = .noTier ∨ w.tier = .blocked ∨ (w.state ≠ .scanning ∧ w.state ≠ .paused) ∨
    (w.tier = .talt ∧ p ∧ before.halfPending = false)

theorem sendsNot_iff (s : State) (o : Fin 4) (p : Prop) : sendsNot (s.output o) (s.link o) p ↔
    ¬ s.maySend o ∨ (((s.output o).tier = .talt ∧ p) ∧ (s.link o).halfPending = false) := by
  unfold sendsNot State.maySend
  tauto

section
variable (s : State) (o : Fin 4) (p : Prop) [Decidable p]

theorem sendFrame_tier : ((s.sendFrame o (decide p)).output o).tier = (s.output o).tier ∧
    ((s.sendFrame o (decide p)).output o).state = (s.output o).state ∧
    ((s.sendFrame o (decide p)).output o).route = (s.output o).route ∧
    ((s.sendFrame o (decide p)).output o).timing = (s.output o).timing := by
  obtain ⟨w, honly, _⟩ := sendFrame_integrityOnly s o (decide p)
  obtain ⟨c, k, hout⟩ := honly.output
  rw [hout]
  exact ⟨rfl, rfl, rfl, rfl⟩

theorem sendFrame_link_silent (h : sendsNot (s.output o) (s.link o) p) :
    (s.sendFrame o (decide p)).link o = (s.link o).silent := by
  rw [sendFrame_nothing, link_setLink]
  obtain h | ⟨⟨htier, hp⟩, hpending⟩ := (sendsNot_iff s o p).mp h
  · exact .inl h
  · exact .inr (.inr ⟨⟨htier, decide_eq_true hp⟩, hpending⟩)

theorem sendFrame_link_second {t : Timing} (h : ¬ sendsNot (s.output o) (s.link o) p) (ht : (s.output o).timing = some t)
    (htier : (s.output o).tier = .talt) (hp : p) :
    (s.sendFrame o (decide p)).link o = s.linkSending o t .second := by
  rw [sendsNot_iff, not_or] at h
  obtain ⟨hmay, hpending⟩ := h
  have hpending : (s.link o).halfPending = true := by
    rw [← Bool.not_eq_false]
    exact fun hno => hpending ⟨⟨htier, hp⟩, hno⟩
  rw [sendFrame_second (not_not.mp hmay) ht htier (decide_eq_true hp) hpending, link_setLink]

theorem sendFrame_link_frame {t : Timing} (h : ¬ sendsNot (s.output o) (s.link o) p) (ht : (s.output o).timing = some t)
    (hframe : (s.output o).tier ≠ .talt ∨ ¬ p) : (s.sendFrame o (decide p)).link o =
      s.linkSending o t (wholeOrFirst (decide ((s.output o).tier = .talt))) := by
  rw [sendsNot_iff, not_or] at h
  have hfirst : ¬ ((s.output o).tier = .talt ∧ decide p = true) := fun ⟨htier, hp⟩ =>
    hframe.elim (absurd htier) (absurd (of_decide_eq_true hp))
  rw [sendFrame_frame (not_not.mp h.1) ht hfirst, (sendMarked_integrityOnly ..).link, link_setLink]
end

theorem headerItem_wholeOrFirst (seq : Half) (half : Bool) (t : Timing) : headerItem seq (wholeOrFirst half) t =
    withCrc16 ([0x11] ++ halfBytes seq ++ [if half then 1 else 0] ++ halfOf t.hActive ++ halfOf t.vActive) := by
  cases half <;> rfl

/-- Settles O31, stage by stage. -/
theorem verticalStartRules : Obligations.VerticalStartRules := by
  unfold Obligations.VerticalStartRules
  intro checked two header
  refine ⟨fun s o => ⟨fun h => ?stopped, fun h => ?runs⟩, fun s o odd => ?sends⟩
  case stopped =>
    refine congrArg Host.Outcome.next ?_
    rw [startTimer_of_not_running h, onExpiry_none]
  case runs =>
    intro u v odd skip applies counted applied a ready r c route timing unpauses seeks count k
    have hrunning : v.state.running = true := by
      rw [show v = (s.output o).elapse _ from output_elapse s _ o]
      exact h
    have ha : a = u.startOutput o := (startApplied_posts u o).output
    have hheld := startHeld_posts u o
    refine ⟨startApplied_of_not_applies (s := u), fun happlies => ?applied, ?ready, u.startHeld o, ?exec, ?only,
      fun o' ho' => hheld.output_ne ho', fun hskip => hheld.output.trans (heldOutput_skipped hrunning hskip),
      fun hskip => ?selected, fun hok => ?notices, ?sent⟩
    case applied =>
      have hseeks : seeks = v.seeks := seeks_eq v
      rw [hseeks, ha]
      exact startOutput_applied happlies
    case ready =>
      rw [ha]
      exact startReady_output u o
    case exec =>
      refine congrArg Host.Outcome.next ?_
      rw [startTimer_of_running h, onExpiry_some]
      exact verticalStart_eq u o
    case only =>
      obtain ⟨ns, honly⟩ := hheld.only
      exact ⟨_, ns, honly⟩
    case selected =>
      have hk : k = (u.startOutput o).route.holdAfter := congrArg (fun w : Output => w.route.holdAfter) ha
      rw [hk]
      exact hheld.output.trans (heldOutput_selected hrunning hskip)
    case notices =>
      refine ⟨hheld.counts.ok hok, ?_⟩
      intro posted kind object
      have hposted : posted kind = u.startNotices o kind := by
        simp only [posted, ha]
        cases kind <;> rfl
      rw [hposted]
      exact hheld.counts.countOf hok kind object
    case sent =>
      intro t w before after mayNot
      have hlink : (u.startHeld o).link o = before := hheld.link o
      obtain ⟨x, honly, hstate⟩ := sendFrame_integrityOnly (u.startHeld o) o odd
      obtain ⟨htier, houtput, hroute, htiming⟩ := sendFrame_tier (u.startHeld o) o (v.starts.toNat % 2 = 1)
      have hmay : mayNot ↔ sendsNot ((u.startHeld o).output o) ((u.startHeld o).link o) (v.starts.toNat % 2 = 1) := by
        rw [hlink, sendsNot, ← htier, ← houtput]
      refine ⟨?only, fun o' ho' => ⟨?outputs, ?links⟩, honly.output, ?state, fun hnot => ?nothing,
        fun hnot htimed htalt hodd => ?second, fun hnot htimed hframe => ?frame⟩
      case only =>
        obtain ⟨ns, hheldOnly⟩ := hheld.only
        exact honly.partsOnly hheldOnly
      case outputs => exact (honly.output_ne ho').trans (hheld.output_ne ho')
      case links =>
        refine (honly.link o').trans ((link_setLink_ne _ o o' x ho').trans (hheld.link o'))
      case state =>
        refine (congrArg Link.state (honly.link o)).trans ?_
        rw [link_setLink, hstate, hlink]
      case nothing =>
        have hafter : after = before.silent := hlink ▸ sendFrame_link_silent _ o _ (hmay.mp hnot)
        rw [hafter]
        exact ⟨rfl, rfl, rfl, rfl⟩
      case second =>
        obtain ⟨timed, htimed⟩ := Option.ne_none_iff_exists'.mp htimed
        have hafter := sendFrame_link_second _ o _ (mt hmay.mpr hnot) (htiming ▸ htimed) (htier ▸ htalt) hodd
        rw [linkSending_second, hlink] at hafter
        change after = _ at hafter
        rw [hafter]
        exact ⟨rfl, rfl⟩
      case frame =>
        obtain ⟨timed, htimed⟩ := Option.ne_none_iff_exists'.mp htimed
        have hafter := sendFrame_link_frame _ o _ (mt hmay.mpr hnot) (htiming ▸ htimed)
          (hframe.imp (fun h => htier ▸ h) (by omega))
        rw [linkSending_wholeOrFirst, hlink, ← htier, ← hroute] at hafter
        change after = _ at hafter
        rw [hafter]
        exact ⟨rfl, decide_eq_true_iff, rfl⟩
  case sends =>
    intro v w allowed second sends
    refine ⟨sendFrame_nothing, fun t hallowed ht hsecond hpending => ?second, fun t hallowed ht hnot => ?frame⟩
    case second =>
      refine (sendFrame_second hallowed ht hsecond.1 hsecond.2 hpending).trans ?_
      rw [linkSending_second]
      rfl
    case frame =>
      intro half seq depth pacing window config record frame sent
      have hconfig : wantedConfig v.tier v.route = config := wantedConfig_of_sending hallowed.2.2.1 hallowed.2.2.2 v.route
      have hrecord : configItem config = record := configItem_eq config
      have hlink : s.setLink o (s.linkSending o t (wholeOrFirst half)) = sent := by
        rw [linkSending_wholeOrFirst, hconfig, hrecord, frameSent_wholeOrFirst, headerItem_wholeOrFirst]
        rfl
      refine ⟨fun hplain => ?_, fun c p hc hp => ?_⟩
      · exact (sendFrame_frame hallowed ht hnot).trans ((sendMarked_plain (.inr hplain)).trans hlink)
      · refine (sendFrame_frame hallowed ht hnot).trans ((sendMarked_recorded ?_ hc hp).trans ?_)
        · cases decide ((s.output o).tier = .talt) <;> nofun
        · rw [frameSent_wholeOrFirst]
          exact congrArg (fun x : State => x.pushCrc o seq (crc32 (s.windowBytes frame p.window))) hlink

end Sys2Proof.Machine
end

section
/-! What a link leaves behind as it leaves UP, goes down or retrains (R101, R110 to R112, R146): the outcome of its remote
requests first, then its own change, LINK_STATE, and the tier of its output. -/

namespace Sys2Proof.Machine

open Sys2Proof.Claims

/-! ### The outcomes of remote requests and the rest of the link -/

/-- A link with what the outcomes of remote requests set. -/
def Link.withOutcome (v : Link) (awaiting : List Awaiting) (result : Result) (errors : Half) : Link :=
  { v with awaiting := awaiting, result := result, postedErrors := errors }

/-- A change of a link that sees and sets nothing of what the outcomes of remote requests set. -/
def OutcomeBlind (f : Link → Link) : Prop := ∀ v awaiting result errors,
  f (v.withOutcome awaiting result errors) = (f v).withOutcome awaiting result errors

section
variable {f : Link → Link}

theorem OutcomeBlind.self (hf : OutcomeBlind f) (v : Link) :
    f v = (f v).withOutcome v.awaiting v.result v.postedErrors := hf v v.awaiting v.result v.postedErrors

theorem OutcomeBlind.result (hf : OutcomeBlind f) (v : Link) : (f v).result = v.result :=
  (congrArg Link.result (hf.self v)).trans rfl

theorem OutcomeBlind.postedErrors (hf : OutcomeBlind f) (v : Link) : (f v).postedErrors = v.postedErrors :=
  (congrArg Link.postedErrors (hf.self v)).trans rfl

theorem OutcomeBlind.awaiting (hf : OutcomeBlind f) (v : Link) : (f v).awaiting = v.awaiting :=
  (congrArg Link.awaiting (hf.self v)).trans rfl

/-- A change of what the outcomes set, seen from the other side. -/
theorem OutcomeBlind.swap (hf : OutcomeBlind f) {a : Link → List Awaiting} {r : Link → Result} {e : Link → Half}
    (ha : ∀ v, a (f v) = a v) (hr : ∀ v, r (f v) = r v) (he : ∀ v, e (f v) = e v) (s : State) (l : Fin 4) :
    (s.modLink l f).modLink l (fun v => v.withOutcome (a v) (r v) (e v)) =
      (s.modLink l (fun v => v.withOutcome (a v) (r v) (e v))).modLink l f := by
  rw [modLink_modLink, modLink_modLink]
  refine congrArg (s.modLink l) (funext fun v => ?_)
  rw [ha, hr, he]
  exact (hf v _ _ _).symm

theorem modLink_post (s : State) (l : Fin 4) (f : Link → Link) (k : NoticeKind) (n : Nat) :
    (s.modLink l f).post k n = (s.post k n).modLink l f := by
  unfold State.post
  by_cases h : s.mode = .init ∨ s.masked k = true
  · rw [if_pos h]
    exact if_pos h
  · rw [if_neg h]
    exact if_neg h

/-- A request's outcome and a change blind to it do not disturb each other. -/
theorem deliver_modLink (hf : OutcomeBlind f) (s : State) (l : Fin 4) (e : Awaiting) (outcome : ResultStatus)
    (data : List Byte) :
    (s.modLink l f).deliver l e outcome data = (s.deliver l e outcome data).modLink l f := by
  unfold State.deliver
  cases e.origin with
  | host =>
    have hswap := hf.swap (a := Link.awaiting) (r := fun v => { v.result with
      status := outcome
      data := match outcome, e.request with
        | .ok, .read _ => data
        | _, _ => [] }) (e := Link.postedErrors) hf.awaiting (fun v => by rw [hf.result]) hf.postedErrors s l
    exact (congrArg (fun t : State => t.post .remoteDone l.val) hswap).trans (modLink_post ..)
  | posted =>
    dsimp only
    split
    · rfl
    · exact hf.swap (a := Link.awaiting) (r := Link.result) (e := fun v => bump v.postedErrors) hf.awaiting hf.result
        (fun v => by rw [hf.postedErrors]) s l
  | ration =>
    dsimp only
    unfold State.rationOutcome
    split <;> rfl

theorem remoteLinkLoss_modLink (hf : OutcomeBlind f) (s : State) (l : Fin 4) :
    (s.modLink l f).remoteLinkLoss l = (s.remoteLinkLoss l).modLink l f := by
  have hempty : (s.modLink l f).modLink l (fun v => { v with awaiting := [] }) =
      (s.modLink l (fun v => { v with awaiting := [] })).modLink l f :=
    hf.swap (a := fun _ => []) (r := Link.result) (e := Link.postedErrors) (fun _ => rfl) hf.result hf.postedErrors s l
  unfold State.remoteLinkLoss
  rw [link_modLink, hf.awaiting, hempty]
  generalize s.modLink l (fun v => { v with awaiting := [] }) = t
  induction (s.link l).awaiting generalizing t with
  | nil => rfl
  | cons e rest ih => rw [List.foldl_cons, List.foldl_cons, deliver_modLink hf, ih]
end

theorem remoteLinkLoss_link (s : State) (l : Fin 4) : ∃ rs pe, (s.remoteLinkLoss l).link l =
    { s.link l with awaiting := [], result := rs, postedErrors := pe } := by
  obtain ⟨rs, pe, fl, ns, h⟩ := remoteLinkLoss_outcomeOnly s l
  refine ⟨rs, pe, ?_⟩
  rw [h]
  simp [State.link, State.modLink, State.setLink, State.modChannel, State.setChannel]

/-- What the outcomes of remote requests leave of a state: the rest of link l and of channel l, every other part, and a
Notice Table of good form. -/
structure Handed (l : Fin 4) (s t : State) : Prop where
  only : ∃ w pe ns, t = { (s.setLink l w).modChannel l (fun c => { c with failedWrites := pe }) with notices := ns }
  ok : NoticesOk s → NoticesOk t

theorem Handed.refl (l : Fin 4) (s : State) : Handed l s s :=
  ⟨⟨s.link l, (s.channel l).failedWrites, s.notices, by rw [setLink_link, modChannel_self s l _ rfl]⟩, id⟩

theorem Handed.loss (l : Fin 4) (s : State) : Handed l s (s.remoteLinkLoss l) := by
  refine ⟨?_, (remoteLinkLoss_keeps s l).law .notices List.not_mem_nil⟩
  obtain ⟨rs, pe, fl, ns, h⟩ := remoteLinkLoss_outcomeOnly s l
  refine ⟨{ s.link l with awaiting := [], result := rs, postedErrors := pe }, fl, ns, h.trans ?_⟩
  rw [modLink_modLink]
  rfl

/-! ### Leaving UP (R112) -/

/-- The link as it leaves UP, its remote requests apart. -/
def Link.left (v : Link) : Link := { v with
  errorWindow := none, windowSum := 0, sending := none, halfPending := false, lastConfig := none, lockChanged := true }

/-- The output with its queue of CRC records emptied (R187). -/
def Output.emptied (v : Output) : Output :=
  { v with context := v.context.map (fun c => { c with queue := [] }) }

theorem leaveUp_eq (s : State) (l : Fin 4) :
    s.leaveUp l = ((s.remoteLinkLoss l).modLink l Link.left).modOutput l Output.emptied := by
  have hblind : OutcomeBlind (fun v => { v with
      errorWindow := none, windowSum := 0, sending := none, halfPending := false, lastConfig := none }) :=
    fun _ _ _ _ => rfl
  rw [State.leaveUp, remoteLinkLoss_modLink hblind]
  exact congrArg (fun t : State => t.modOutput l Output.emptied) (modLink_modLink (s.remoteLinkLoss l) l (fun v => { v with
    errorWindow := none, windowSum := 0, sending := none, halfPending := false, lastConfig := none })
    (fun v => { v with lockChanged := true }))

theorem left_blind : OutcomeBlind Link.left := fun _ _ _ _ => rfl

/-! ### A change that is announced -/

/-- LINK_STATE is posted and the tier of the link's output evaluated (R99, R110). -/
def State.announced (s : State) (l : Fin 4) : State := (s.postLink l).evaluate l

/-- A link and its output are changed, and that is announced. -/
def State.changed (s : State) (l : Fin 4) (f : Link → Link) (g : Output → Output) : State :=
  ((s.modLink l f).modOutput l g).announced l

theorem tierNow_post (s : State) (k : NoticeKind) (n : Nat) (o : Fin 4) : (s.post k n).tierNow o = s.tierNow o := by
  obtain ⟨ns, hpost⟩ := post_eq s k n
  rw [hpost]
  rfl

/-- An announced change is posted as LINK_STATE and, if the tier changes, as OUTPUT_TIER. -/
theorem announced_counts (s : State) (l : Fin 4) : Counted l.val
    (fun k => k = .linkState ∨ (k = .outputTier ∧ s.tierNow l ≠ (s.output l).tier)) s (s.announced l) := by
  have htier := (evaluate_posts (s.postLink l) l).counts
  rw [State.postLink, tierNow_post, output_post] at htier
  exact (Counted.ofPost s .linkState l.val).trans htier fun k hlink ht => by cases hlink.symm.trans ht.1

/-- An announced change sets the tier and changes the Notice Table. -/
theorem announced_eq (s : State) (l : Fin 4) :
    ∃ ns, s.announced l = { s.modOutput l (fun v => { v with tier := s.tierNow l }) with notices := ns } := by
  obtain ⟨ns, hevaluate⟩ := evaluate_eq (s.postLink l) l
  obtain ⟨ns', hpost⟩ := post_eq s .linkState l.val
  refine ⟨ns, hevaluate.trans ?_⟩
  rw [State.postLink, tierNow_post, hpost]
  rfl

theorem announced_tier (s : State) (l : Fin 4) : ((s.announced l).output l).tier = (s.announced l).tierNow l :=
  evaluate_tier (s.postLink l) l

section
variable {s h : State} {l : Fin 4} {f : Link → Link} {g : Output → Output}

theorem changed_link (s : State) (l : Fin 4) (f : Link → Link) (g : Output → Output) :
    (s.changed l f g).link l = f (s.link l) := by
  obtain ⟨ns, heq⟩ := announced_eq ((s.modLink l f).modOutput l g) l
  rw [State.changed, heq]
  exact link_modLink s l f

theorem changed_output (s : State) (l : Fin 4) (f : Link → Link) (g : Output → Output) :
    (s.changed l f g).output l = { g (s.output l) with tier := (s.changed l f g).tierNow l } := by
  obtain ⟨ns, heq⟩ := announced_eq ((s.modLink l f).modOutput l g) l
  have htier : ((s.changed l f g).output l).tier = (s.changed l f g).tierNow l :=
    announced_tier ((s.modLink l f).modOutput l g) l
  have hout : (s.changed l f g).output l = { g (s.output l) with tier := ((s.modLink l f).modOutput l g).tierNow l } := by
    rw [State.changed, heq]
    simp [State.output, State.modOutput, State.setOutput, State.modLink, State.setLink]
  rw [← htier, hout]

theorem changed_away (s : State) (l : Fin 4) (f : Link → Link) (g : Output → Output) {m : Fin 4} (hm : m ≠ l) :
    (s.changed l f g).link m = s.link m ∧ (s.changed l f g).output m = s.output m := by
  obtain ⟨ns, heq⟩ := announced_eq ((s.modLink l f).modOutput l g) l
  rw [State.changed, heq]
  refine ⟨link_setLink_ne s l m _ hm, ?_⟩
  exact (output_modOutput_ne ((s.modLink l f).modOutput l g) l m (fun v => { v with
    tier := ((s.modLink l f).modOutput l g).tierNow l }) hm).trans (output_modOutput_ne (s.modLink l f) l m g hm)

theorem changed_rest (s : State) (l : Fin 4) (f : Link → Link) (g : Output → Output) :
    (s.changed l f g).channels = s.channels ∧ (s.changed l f g).streams = s.streams ∧
    (s.changed l f g).store = s.store ∧ (s.changed l f g).aliases = s.aliases ∧ (s.changed l f g).mode = s.mode := by
  obtain ⟨ns, heq⟩ := announced_eq ((s.modLink l f).modOutput l g) l
  rw [State.changed, heq]
  exact ⟨rfl, rfl, rfl, rfl, rfl⟩

theorem Handed.output (hh : Handed l s h) (o : Fin 4) : h.output o = s.output o := by
  obtain ⟨w, pe, ns, rfl⟩ := hh.only
  rfl

theorem Handed.away (hh : Handed l s h) {m : Fin 4} (hm : m ≠ l) : h.link m = s.link m ∧ h.channel m = s.channel m := by
  obtain ⟨w, pe, ns, rfl⟩ := hh.only
  exact ⟨link_setLink_ne s l m w hm,
    channel_modChannel_ne (s.setLink l w) l m (fun c => { c with failedWrites := pe }) hm⟩

theorem Handed.rest (hh : Handed l s h) : h.streams = s.streams ∧ h.store = s.store ∧ h.aliases = s.aliases ∧
    h.mode = s.mode ∧ h.mask = s.mask := by
  obtain ⟨w, pe, ns, rfl⟩ := hh.only
  exact ⟨rfl, rfl, rfl, rfl, rfl⟩

/-- What an announced change hands over (R101, R112, R146). -/
theorem changed_handedOver (hh : Handed l s h) (hf : OutcomeBlind f) (hg : ∀ v, (g v).tier = v.tier) :
    HandedOver s h (h.changed l f g) l := by
  obtain ⟨_, _, _, hmode, hmask⟩ := hh.rest
  have hcounts : Counted l.val (fun k => k = .linkState ∨ (k = .outputTier ∧ ((h.changed l f g).output l).tier ≠
      (s.output l).tier)) h (h.changed l f g) := by
    have hchange : Counted l.val (fun _ => False) h ((h.modLink l f).modOutput l g) := .none _ rfl rfl rfl
    refine ((announced_counts ((h.modLink l f).modOutput l g) l).after_none hchange).congr fun k => ?_
    have hbefore : (((h.modLink l f).modOutput l g).output l).tier = (s.output l).tier := by
      rw [output_modOutput, hg, ← hh.output l]
      rfl
    have hafter : ((h.changed l f g).output l).tier = ((h.modLink l f).modOutput l g).tierNow l := by
      obtain ⟨ns, heq⟩ := announced_eq ((h.modLink l f).modOutput l g) l
      rw [State.changed, heq]
      exact congrArg Output.tier (output_modOutput ((h.modLink l f).modOutput l g) l (fun v => { v with
        tier := ((h.modLink l f).modOutput l g).tierNow l }))
    rw [hbefore, hafter]
  have hmasked (kind : NoticeKind) : h.masked kind = s.masked kind := by rw [State.masked, State.masked, hmask]
  refine ⟨?_, ?_, ?_, fun hok => ⟨hcounts.ok (hh.ok hok), fun kind object => ?_⟩⟩
  · rw [changed_link, hf.result]
  · rw [changed_link, hf.postedErrors]
  · exact congrArg (fun cs : Four Channel => cs.get l) (changed_rest h l f g).1
  · rw [← hmode, ← hmasked]
    exact hcounts.countOf (hh.ok hok) kind object
end

/-! ### Going down (R110, R111) -/

/-- The link as it goes down, out of UP or from elsewhere. -/
def Link.downTo (target : LinkState) (v : Link) : Link :=
  { v.stopTimers.clearTouch.unlock.endDemotion with state := target }

theorem goDown_of_not_up {s : State} {l : Fin 4} (h : (s.link l).state ≠ .up) (target : LinkState) :
    s.goDown l target = s.changed l (Link.downTo target) id := by
  have hself : (s.modLink l (Link.downTo target)).modOutput l id = s.modLink l (Link.downTo target) :=
    modOutput_self _ l id rfl
  rw [State.goDown, State.windDown, if_neg h, modLink_modLink, State.changed, hself]
  rfl

theorem goDown_of_up {s : State} {l : Fin 4} (h : (s.link l).state = .up) (target : LinkState) :
    s.goDown l target = (s.remoteLinkLoss l).changed l (fun v => v.left.downTo target) Output.emptied := by
  have hswap (t : State) (f : Link → Link) (g : Output → Output) :
      (t.modOutput l g).modLink l f = (t.modLink l f).modOutput l g := rfl
  rw [State.goDown, State.windDown, if_pos h, leaveUp_eq, hswap, hswap, modLink_modLink, modLink_modLink]
  rfl

theorem downTo_blind (target : LinkState) : OutcomeBlind (Link.downTo target) := fun _ _ _ _ => rfl

theorem left_downTo_blind (target : LinkState) : OutcomeBlind (fun v => v.left.downTo target) := fun _ _ _ _ => rfl

end Sys2Proof.Machine
end

section
/-! PROOF of LinkControlRules (O38). -/

namespace Sys2Proof.Machine

open Sys2Proof.Claims

/-! ### Training begins (R113, R114) -/

/-- A link as it enters TRAINING. -/
def Link.trained (v : Link) : Link := { v with
  state := .training, searchPolicy := v.policy
  drive := if v.policy.start = .middle then (v.policy.driveMin + v.policy.driveMax) / 2 else v.policy.driveMin
  rate := if v.policy.rate = .halfOnly ∨ (v.policy.rate = .auto ∧ v.demoted = true) then .half else .full
  search := none, backWait := some 50000, silence := none, errorWindow := none, retry := none }

theorem startSetting_eq (p : LinkPolicy) :
    p.startSetting = if p.start = .middle then (p.driveMin + p.driveMax) / 2 else p.driveMin := by
  unfold LinkPolicy.startSetting
  cases p.start <;> rfl

theorem searchRates_headD (p : LinkPolicy) (demoted : Bool) (rate : Rate) : (searchRates p demoted).headD rate =
    if p.rate = .halfOnly ∨ (p.rate = .auto ∧ demoted = true) then .half else .full := by
  unfold searchRates
  cases p.rate with
  | auto => cases demoted <;> rfl
  | fullOnly => rfl
  | halfOnly => rfl

theorem setLink_setLink (s : State) (l : Fin 4) (v w : Link) : (s.setLink l v).setLink l w = s.setLink l w := by
  simp [State.setLink, Four.set_set]

theorem enterTraining_eq (s : State) (l : Fin 4) :
    s.enterTraining l = (s.setLink l (s.link l).trained).post .linkState l.val := by
  unfold Link.trained
  rw [← startSetting_eq, ← searchRates_headD (s.link l).policy (s.link l).demoted (s.link l).rate]
  rfl

/-- An intent set before TRAINING begins. -/
theorem enableLink_of_active {s : State} {l : Fin 4} (h : (s.channel l).state = .active) :
    (s.modLink l (fun v => { v with intent := true })).enableLink l =
      (s.setLink l { (s.link l).trained with intent := true }).post .linkState l.val := by
  refine (if_pos h).trans ?_
  rw [enterTraining_eq, link_modLink, State.modLink, setLink_setLink]
  rfl

theorem enableLink_of_not_active {s : State} {l : Fin 4} (h : (s.channel l).state ≠ .active) :
    (s.modLink l (fun v => { v with intent := true })).enableLink l =
      (s.setLink l { s.link l with intent := true, state := .waitPower }).post .linkState l.val := by
  refine (if_neg h).trans ?_
  rw [modLink_modLink]
  rfl

/-! ### Requests -/

section
variable {body : List Byte} {s : State} {l : Fin 4}

theorem linkControlHandler_of_none (h : four? (byteAt body 0) = none) : linkControlHandler body s = s.refuse .badArg := by
  rw [linkControlHandler, h]

theorem linkControlHandler_of_unknown (h : 2 < (byteAt body 1).toNat) : linkControlHandler body s = s.refuse .badArg := by
  unfold linkControlHandler
  cases four? (byteAt body 0) with
  | none => rfl
  | some l =>
    obtain ⟨k, hk⟩ : ∃ k, (byteAt body 1).toNat = k + 3 := ⟨(byteAt body 1).toNat - 3, by omega⟩
    dsimp only
    rw [hk]
    cases (s.link l).state <;> rfl

theorem linkControlHandler_enable_dark (hl : four? (byteAt body 0) = some l) (ha : (byteAt body 1).toNat = 0)
    (h : (s.link l).state = .disabled) :
    linkControlHandler body s = ((s.modLink l (fun v => { v with intent := true })).enableLink l).done [] := by
  rw [linkControlHandler, hl]
  dsimp only
  rw [ha, h]
  rfl

theorem linkControlHandler_enable_lit (hl : four? (byteAt body 0) = some l) (ha : (byteAt body 1).toNat = 0)
    (h : (s.link l).state ≠ .disabled) : linkControlHandler body s = s.done [] := by
  rw [linkControlHandler, hl]
  dsimp only
  rw [ha]
  cases hstate : (s.link l).state with
  | disabled => exact absurd hstate h
  | waitPower => rfl
  | training => rfl
  | up => rfl
  | retrain => rfl
  | failed => rfl

theorem linkControlHandler_disable_dark (hl : four? (byteAt body 0) = some l) (ha : (byteAt body 1).toNat = 1)
    (h : (s.link l).state = .disabled) : linkControlHandler body s = s.done [] := by
  rw [linkControlHandler, hl]
  dsimp only
  rw [ha, h]
  rfl

theorem linkControlHandler_disable_lit (hl : four? (byteAt body 0) = some l) (ha : (byteAt body 1).toNat = 1)
    (h : (s.link l).state ≠ .disabled) : linkControlHandler body s =
      ((s.goDown l .disabled).modLink l (fun v => { v with intent := false })).done [] := by
  rw [linkControlHandler, hl]
  dsimp only
  rw [ha]
  cases hstate : (s.link l).state with
  | disabled => exact absurd hstate h
  | waitPower => rfl
  | training => rfl
  | up => rfl
  | retrain => rfl
  | failed => rfl

theorem linkControlHandler_retrain (hl : four? (byteAt body 0) = some l) (ha : (byteAt body 1).toNat = 2) :
    linkControlHandler body s = match (s.link l).state with
      | .up => (s.enterRetrain l).done []
      | .training | .retrain => s.done []
      | .failed => (s.enterTraining l).done []
      | .disabled | .waitPower => s.refuse .wrongState := by
  rw [linkControlHandler, hl]
  dsimp only
  rw [ha]
  cases (s.link l).state <;> rfl

/-! ### What the transmission of a request sets -/

/-- The state with the transaction parts of another one. -/
def State.driven (s x : State) : State := { s with spiOut := x.spiOut, wakeWindow := x.wakeWindow, reply := x.reply }

theorem arrived_driven (s : State) (dt : Nat) (body : List Byte) :
    arrived s dt body = (s.elapse dt).driven (arrived s dt body) := rfl

theorem post_driven (s x : State) (k : NoticeKind) (n : Nat) : (s.driven x).post k n = (s.post k n).driven x := by
  unfold State.post
  by_cases h : s.mode = .init ∨ s.masked k = true
  · rw [if_pos h]
    exact if_pos h
  · rw [if_neg h]
    exact if_neg h

theorem deliver_driven (s x : State) (l : Fin 4) (e : Awaiting) (outcome : ResultStatus) (data : List Byte) :
    (s.driven x).deliver l e outcome data = (s.deliver l e outcome data).driven x := by
  unfold State.deliver
  cases e.origin with
  | host =>
    exact post_driven (s.modLink l (fun v => { v with result := { v.result with
      status := outcome
      data := match outcome, e.request with
        | .ok, .read _ => data
        | _, _ => [] } })) x .remoteDone l.val
  | posted =>
    dsimp only
    split <;> rfl
  | ration =>
    dsimp only
    unfold State.rationOutcome
    split <;> rfl

theorem remoteLinkLoss_driven (s x : State) (l : Fin 4) :
    (s.driven x).remoteLinkLoss l = (s.remoteLinkLoss l).driven x := by
  unfold State.remoteLinkLoss
  change (s.link l).awaiting.foldl (fun t e => t.deliver l e .linkDown [])
    ((s.modLink l (fun v => { v with awaiting := [] })).driven x) = _
  generalize s.modLink l (fun v => { v with awaiting := [] }) = t
  induction (s.link l).awaiting generalizing t with
  | nil => rfl
  | cons e rest ih => rw [List.foldl_cons, List.foldl_cons, deliver_driven, ih]

theorem evaluate_driven (s x : State) (o : Fin 4) : (s.driven x).evaluate o = (s.evaluate o).driven x := by
  unfold State.evaluate
  by_cases h : s.tierNow o = (s.output o).tier
  · exact (if_pos h).trans (congrArg (fun t : State => t.driven x) (if_pos h).symm)
  · exact (if_neg h).trans ((post_driven (s.modOutput o (fun v => { v with tier := s.tierNow o })) x .outputTier o.val).trans
      (congrArg (fun t : State => t.driven x) (if_neg h).symm))

theorem changed_driven (s x : State) (l : Fin 4) (f : Link → Link) (g : Output → Output) :
    (s.driven x).changed l f g = (s.changed l f g).driven x := by
  have hpost : (((s.driven x).modLink l f).modOutput l g).postLink l =
      (((s.modLink l f).modOutput l g).postLink l).driven x := post_driven ((s.modLink l f).modOutput l g) x ..
  rw [State.changed, State.announced, hpost, evaluate_driven]
  rfl

theorem goDown_driven (s x : State) (l : Fin 4) (target : LinkState) :
    (s.driven x).goDown l target = (s.goDown l target).driven x := by
  by_cases h : (s.link l).state = .up
  · rw [goDown_of_up h, goDown_of_up (s := s.driven x) h, remoteLinkLoss_driven, changed_driven]
  · rw [goDown_of_not_up h, goDown_of_not_up (s := s.driven x) h, changed_driven]

/-! ### Going down -/

theorem handedOver_congr {h d t : State} (hover : HandedOver s h d l) (hresult : (t.link l).result = (d.link l).result)
    (herrors : (t.link l).postedErrors = (d.link l).postedErrors) (hchannel : t.channel l = d.channel l)
    (hnotices : t.notices = d.notices) (houtput : t.output l = d.output l) : HandedOver s h t l := by
  unfold HandedOver NoticesOk
  rw [hresult, herrors, hchannel, hnotices, houtput]
  exact hover

/-- Going down is an announced change from the state that the outcomes of the link's remote requests leave. -/
theorem goDown_shape (s : State) (l : Fin 4) (target : LinkState) :
    ∃ h f g, s.goDown l target = h.changed l f g ∧ Handed l s h := by
  by_cases hup : (s.link l).state = .up
  · exact ⟨_, _, _, goDown_of_up hup target, .loss l s⟩
  · exact ⟨_, _, _, goDown_of_not_up hup target, .refl l s⟩
end

/-- The state that an intent and transaction parts are set of, after the link has gone down. -/
def State.wentDown (s : State) (l : Fin 4) (target : LinkState) (intent : Bool) (x : State) : State :=
  ((s.goDown l target).modLink l (fun v => { v with intent := intent })).driven x

theorem downTo_intent (target : LinkState) (v : Link) : (v.downTo target).intent = v.intent := rfl

theorem goDown_intent (s : State) (l : Fin 4) (target : LinkState) :
    ((s.goDown l target).link l).intent = (s.link l).intent := by
  by_cases hup : (s.link l).state = .up
  · obtain ⟨rs, pe, hlink⟩ := remoteLinkLoss_link s l
    rw [goDown_of_up hup, changed_link, hlink, downTo_intent]
    rfl
  · rw [goDown_of_not_up hup, changed_link, downTo_intent]

theorem wentDown_self (s : State) (l : Fin 4) (target : LinkState) :
    s.goDown l target = s.wentDown l target (s.link l).intent (s.goDown l target) := by
  have hself : (s.goDown l target).modLink l (fun v => { v with intent := (s.link l).intent }) = s.goDown l target := by
    refine modLink_self _ l _ ?_
    rw [← goDown_intent s l target]
  exact congrArg (fun d : State => d.driven (s.goDown l target)) hself.symm

theorem wentDown_link (s : State) (l : Fin 4) (target : LinkState) (intent : Bool) (x : State) :
    (s.wentDown l target intent x).link l = { (s.goDown l target).link l with intent := intent } :=
  link_modLink (s.goDown l target) l (fun v => { v with intent := intent })

theorem wentDown_tierNow (s : State) (l : Fin 4) (target : LinkState) (intent : Bool) (x : State) :
    (s.wentDown l target intent x).tierNow l = (s.goDown l target).tierNow l := by
  rw [State.tierNow, State.tierNow, wentDown_link]
  rfl

theorem wentDown_handedOver {s h d : State} {l : Fin 4} {target : LinkState} (intent : Bool) (x : State)
    (hd : s.goDown l target = d) (hover : HandedOver s h d l) : HandedOver s h (s.wentDown l target intent x) l := by
  subst hd
  refine handedOver_congr hover ?_ ?_ rfl rfl rfl
  · rw [wentDown_link]
  · rw [wentDown_link]

/-- A link as it has gone down, however it went. -/
def Link.gone (v : Link) (target : LinkState) (intent : Bool) : Link := { v with
  state := target, intent := intent, search := none, backWait := none, silence := none, errorWindow := none, retry := none
  touch := [], touchLost := bumpBy v.touchLost v.touch.length, rxLock := false
  lockChanged := v.lockChanged || v.rxLock, demoted := false, history := [] }

theorem downTo_eq (v : Link) (target : LinkState) (intent : Bool) :
    { v.downTo target with intent := intent } = v.gone target intent := by
  simp only [Link.downTo, Link.stopTimers, Link.clearTouch, Link.unlock, Link.endDemotion, Link.gone]

theorem wentDown_link_of_not_up {s : State} {l : Fin 4} (h : (s.link l).state ≠ .up) (target : LinkState) (intent : Bool)
    (x : State) : (s.wentDown l target intent x).link l = (s.link l).gone target intent := by
  rw [wentDown_link, goDown_of_not_up h, changed_link, downTo_eq]

/-- What a link loses as it leaves UP. -/
def Link.lost (v : Link) (result : Result) (errors : Half) : Link := { v with
  lockChanged := true, awaiting := [], lastConfig := none, halfPending := false, sending := none, windowSum := 0
  result := result, postedErrors := errors }

theorem gone_left (v : Link) (result : Result) (errors : Half) (target : LinkState) (intent : Bool) :
    (v.withOutcome [] result errors).left.gone target intent = (v.gone target intent).lost result errors := by
  simp only [Link.gone, Link.left, Link.withOutcome, Link.lost, Bool.true_or]

theorem wentDown_link_of_up {s : State} {l : Fin 4} (h : (s.link l).state = .up) (target : LinkState) (intent : Bool)
    (x : State) : ∃ result errors,
      (s.wentDown l target intent x).link l = ((s.link l).gone target intent).lost result errors := by
  obtain ⟨rs, pe, hlink⟩ := remoteLinkLoss_link s l
  refine ⟨rs, pe, ?_⟩
  rw [wentDown_link, goDown_of_up h, changed_link, downTo_eq, hlink, ← gone_left]
  rfl

theorem wentDown_output {s : State} {l : Fin 4} {target : LinkState} {h : State} {f : Link → Link} {g : Output → Output}
    (heq : s.goDown l target = h.changed l f g) (hh : Handed l s h) (intent : Bool) (x : State) :
    (s.wentDown l target intent x).output l = { g (s.output l) with
      tier := (s.wentDown l target intent x).tierNow l } := by
  rw [wentDown_tierNow, heq, ← hh.output l]
  exact (congrArg (fun d : State => d.output l) heq).trans (changed_output h l f g)

/-- The other links, outputs and channels, and the rest of the state. -/
theorem wentDown_rest (s : State) (l : Fin 4) (target : LinkState) (intent : Bool) (x : State) :
    let t := s.wentDown l target intent x
    (∀ m, m ≠ l → t.link m = s.link m ∧ t.output m = s.output m ∧ t.channel m = s.channel m) ∧
    t.streams = s.streams ∧ t.store = s.store ∧ t.aliases = s.aliases ∧ t.mode = s.mode := by
  obtain ⟨h, f, g, heq, hh⟩ := goDown_shape s l target
  obtain ⟨hchannels, hstreams, hstore, haliases, hmode⟩ := changed_rest h l f g
  obtain ⟨hstreams', hstore', haliases', hmode', _⟩ := hh.rest
  have hd {α : Type} (p : State → α) : p (s.goDown l target) = p (h.changed l f g) := congrArg p heq
  refine ⟨fun m hm => ?_, ((hd State.streams).trans hstreams).trans hstreams', ((hd State.store).trans hstore).trans hstore',
    ((hd State.aliases).trans haliases).trans haliases', ((hd State.mode).trans hmode).trans hmode'⟩
  obtain ⟨hlink, hchannel⟩ := hh.away hm
  obtain ⟨hlink', houtput'⟩ := changed_away h l f g hm
  refine ⟨(link_modLink_ne (s.goDown l target) l m (fun v => { v with intent := intent }) hm).trans
      ((hd (fun d => d.link m)).trans (hlink'.trans hlink)),
    (hd (fun d => d.output m)).trans (houtput'.trans (hh.output m)), (hd (fun d => d.channel m)).trans ?_⟩
  exact (congrArg (fun cs : Four Channel => cs.get m) hchannels).trans hchannel

theorem transmitter_iff (v : Link) : (v.transmitter = .traffic ↔ v.state = .up) ∧
    (v.transmitter = .pattern ↔ v.state = .training ∨ v.state = .retrain) ∧
    (v.transmitter = .off ↔ v.state = .disabled ∨ v.state = .waitPower ∨ v.state = .failed) := by
  unfold Link.transmitter
  cases v.state <;> simp

/-- Settles O38. -/
theorem linkControlRules : Obligations.LinkControlRules := by
  unfold Obligations.LinkControlRules
  intro trained put wentDown
  have hdown (s : State) (l : Fin 4) (target : LinkState) (intent : Bool) (x : State) :
      wentDown target intent s (s.wentDown l target intent x) l := by
    have hrest := wentDown_rest s l target intent x
    by_cases hup : (s.link l).state = .up
    · have heq := goDown_of_up hup target
      have hover := wentDown_handedOver intent x heq
        (changed_handedOver (.loss l s) (left_downTo_blind target) fun _ => rfl)
      have hout := wentDown_output heq (.loss l s) intent x
      obtain ⟨rs, pe, hlink⟩ := wentDown_link_of_up hup target intent x
      simp only [wentDown]
      rw [hlink, hout]
      exact ⟨rfl, rfl, rfl, rfl, rfl, rfl, rfl, rfl, rfl, rfl, rfl, rfl, rfl, rfl, rfl, rfl, rfl, rfl, rfl, rfl, rfl, rfl,
        fun h => absurd hup h, fun _ => ⟨hover, rfl, rfl, rfl, rfl, rfl, rfl, rfl⟩, rfl, rfl, rfl, rfl, hrest⟩
    · have heq := goDown_of_not_up hup target
      have hover := wentDown_handedOver intent x heq
        (changed_handedOver (.refl l s) (downTo_blind target) fun _ => rfl)
      have hout := wentDown_output heq (.refl l s) intent x
      simp only [wentDown]
      rw [wentDown_link_of_not_up hup, hout]
      exact ⟨rfl, rfl, rfl, rfl, rfl, rfl, rfl, rfl, rfl, rfl, rfl, rfl, rfl, rfl, rfl, rfl, rfl, rfl, rfl, rfl, rfl, rfl,
        fun _ => ⟨rfl, rfl, hover⟩, fun h => absurd h hup, rfl, rfl, rfl, rfl, hrest⟩
  refine ⟨fun i s dt tag n action hi hs hbad => ?bad, fun s dt tag n l hs hl => ?known, fun s l => ?power, transmitter_iff⟩
  case bad =>
    have hhandler : linkControlHandler [n, action] (arrived s dt [n, action]) =
        (arrived s dt [n, action]).refuse .badArg := by
      obtain hn | haction := hbad
      · exact linkControlHandler_of_none (four?_of_gt hn)
      · exact linkControlHandler_of_unknown haction
    exact exec_of_handler (k := .linkControl) hi hs rfl hhandler
  case known =>
    intro u v ok enable disable retrain
    have hfour (action : Byte) : four? (byteAt [n, action] 0) = some l := four?_of_val hl
    refine ⟨fun h => ?enableLit, fun h hactive => ?enableActive, fun h hpower => ?enableWait, fun h => ?disableDark,
      fun h => ?disable, fun h => ?retrainUp, fun h => ?retrainBusy, fun h => ?retrainFailed, fun h => ?retrainDark⟩
    case enableLit =>
      exact exec_of_handler (k := .linkControl) rfl hs rfl
        (linkControlHandler_enable_lit (s := arrived s dt [n, 0]) (hfour 0) rfl h)
    case enableActive =>
      have hhandler := linkControlHandler_enable_dark (s := arrived s dt [n, 0]) (hfour 0) rfl h
      rw [enableLink_of_active (s := arrived s dt [n, 0]) ((congrArg Channel.state (channel_elapse s dt l)).trans hactive)] at hhandler
      exact exec_of_handler (k := .linkControl) rfl hs rfl hhandler
    case enableWait =>
      have hhandler := linkControlHandler_enable_dark (s := arrived s dt [n, 0]) (hfour 0) rfl h
      rw [enableLink_of_not_active (s := arrived s dt [n, 0]) fun hactive =>
        hpower ((congrArg Channel.state (channel_elapse s dt l)).symm.trans hactive)] at hhandler
      exact exec_of_handler (k := .linkControl) rfl hs rfl hhandler
    case disableDark =>
      exact exec_of_handler (k := .linkControl) rfl hs rfl
        (linkControlHandler_disable_dark (s := arrived s dt [n, 1]) (hfour 1) rfl h)
    case disable =>
      have hexec := exec_of_handler (i := .linkControlDisable dt tag [n, 1]) (k := .linkControl) rfl hs rfl
        (linkControlHandler_disable_lit (s := arrived s dt [n, 1]) (hfour 1) rfl h)
      refine ⟨_, hexec, rfl, ?_⟩
      rw [arrived_driven, goDown_driven]
      exact hdown (s.elapse dt) l .disabled false (replied (arrived s dt [n, 1]) .linkControl tag .ok [])
    case retrainUp =>
      have hhandler := linkControlHandler_retrain (s := arrived s dt [n, 2]) (hfour 2) rfl
      rw [show ((arrived s dt [n, 2]).link l).state = .up from h] at hhandler
      exact exec_of_handler (k := .linkControl) rfl hs rfl hhandler
    case retrainBusy =>
      have hhandler := linkControlHandler_retrain (s := arrived s dt [n, 2]) (hfour 2) rfl
      obtain h | h := h
      all_goals
        rw [show ((arrived s dt [n, 2]).link l).state = _ from h] at hhandler
        exact exec_of_handler (k := .linkControl) rfl hs rfl hhandler
    case retrainFailed =>
      have hhandler := linkControlHandler_retrain (s := arrived s dt [n, 2]) (hfour 2) rfl
      rw [show ((arrived s dt [n, 2]).link l).state = .failed from h, enterTraining_eq] at hhandler
      exact exec_of_handler (k := .linkControl) rfl hs rfl hhandler
    case retrainDark =>
      have hhandler := linkControlHandler_retrain (s := arrived s dt [n, 2]) (hfour 2) rfl
      obtain h | h := h
      all_goals
        rw [show ((arrived s dt [n, 2]).link l).state = _ from h] at hhandler
        exact exec_of_handler (k := .linkControl) rfl hs rfl hhandler
  case power =>
    refine ⟨fun h => ?_, fun h => if_neg h, fun h => if_pos h, fun h => ?_⟩
    · exact (if_pos h).trans (enterTraining_eq s l)
    · have hunpowered : s.linkUnpowered l = s.goDown l .waitPower := if_neg h
      rw [hunpowered, wentDown_self]
      exact hdown s l .waitPower (s.link l).intent (s.goDown l .waitPower)

end Sys2Proof.Machine
end

section
/-! PROOF of RetrainRules (O41). -/

namespace Sys2Proof.Machine

open Sys2Proof.Claims

/-! ### The search begins -/

theorem passOrder_eq_cons {lo hi c : Nat} (hlo : lo ≤ c) (hhi : c ≤ hi) :
    passOrder lo hi c = c :: (passOrder lo hi c).drop 1 := by
  have hhead := passOrder_head hlo hhi
  cases hpass : passOrder lo hi c with
  | nil => rw [hpass] at hhead; cases hhead
  | cons d rest =>
    rw [hpass] at hhead
    obtain rfl := Option.some.inj hhead
    rfl

/-- A pass begins at its first setting. -/
theorem beginPass_headD (v : Link) (c : Nat) (rates : List Rate) :
    let pass := passOrder v.searchPolicy.driveMin v.searchPolicy.driveMax c
    v.beginPass c rates = v.beginCandidate (pass.headD c) (pass.drop 1) rates := by
  intro pass
  unfold Link.beginPass
  cases hpass : passOrder v.searchPolicy.driveMin v.searchPolicy.driveMax c with
  | nil => rw [show pass = [] from hpass]; rfl
  | cons d rest => rw [show pass = d :: rest from hpass]; rfl

/-- A start setting lies between the bounds of its policy. -/
theorem startSetting_bounds {p : LinkPolicy} (h : p.driveMin ≤ p.driveMax) :
    p.driveMin ≤ p.startSetting ∧ p.startSetting ≤ p.driveMax := by
  rw [startSetting_eq]
  split <;> omega

section
variable (v : Link)

/-- The rate of a RETRAIN search: the current one where it is allowed (R114). -/
def Link.retrainRate : Rate :=
  let rates := searchRates v.policy v.demoted
  if rates.contains v.rate then v.rate else rates.headD v.rate

/-- The rates that are left after it. -/
def Link.retrainRest : List Rate :=
  ((searchRates v.policy v.demoted).dropWhile (fun r => r != v.retrainRate)).drop 1

/-- The setting that a RETRAIN search begins from: the current one where it is allowed (R114). -/
def Link.retrainDrive : Nat :=
  if v.policy.driveMin ≤ v.drive ∧ v.drive ≤ v.policy.driveMax then v.drive else v.policy.startSetting

/-- The first candidate of a RETRAIN search. -/
def Link.retraining : Link := { v with
  state := .retrain, searchPolicy := v.policy, rate := v.retrainRate
  drive := (passOrder v.policy.driveMin v.policy.driveMax v.retrainDrive).headD v.retrainDrive
  search := some ⟨(passOrder v.policy.driveMin v.policy.driveMax v.retrainDrive).drop 1, v.retrainRest,
    v.policy.dwellMs * 1000, if v.policy.twoStep then some (v.policy.dwellMs * 1000 / 2) else none, none, none⟩
  silence := some 5000 }

theorem beginRetrain_retraining : v.beginRetrain = v.retraining :=
  beginPass_headD { v with state := .retrain, searchPolicy := v.policy, rate := v.retrainRate } v.retrainDrive v.retrainRest

/-- The rates of a search, whose policy is pinned or not. -/
theorem searchRates_eq (p : LinkPolicy) (demoted : Bool) : searchRates p demoted = match p.rate with
    | .auto => if demoted = true then [.half] else [.full, .half]
    | .fullOnly => [.full]
    | .halfOnly => [.half] := rfl

theorem searchRates_cases (p : LinkPolicy) (demoted : Bool) : searchRates p demoted = [.full, .half] ∨
    searchRates p demoted = [.full] ∨ searchRates p demoted = [.half] := by
  unfold searchRates
  cases p.rate with
  | auto => cases demoted <;> simp
  | fullOnly => simp
  | halfOnly => simp

theorem retrainRate_of_mem (h : v.rate ∈ searchRates v.policy v.demoted) : v.retrainRate = v.rate :=
  if_pos (List.contains_iff_mem.mpr h)

theorem retrainRate_of_not_mem (h : v.rate ∉ searchRates v.policy v.demoted) :
    (searchRates v.policy v.demoted).head? = some v.retrainRate := by
  have hrate : v.retrainRate = (searchRates v.policy v.demoted).headD v.rate :=
    if_neg fun hmem => h (List.contains_iff_mem.mp hmem)
  rw [hrate]
  obtain hr | hr | hr := searchRates_cases v.policy v.demoted <;> rw [hr] <;> rfl

theorem retrainRest_eq : v.retrainRest =
    if searchRates v.policy v.demoted = [.full, .half] ∧ v.retrainRate = .full then [.half] else [] := by
  unfold Link.retrainRest Link.retrainRate
  obtain hr | hr | hr := searchRates_cases v.policy v.demoted
  all_goals
    rw [hr]
    cases v.rate <;> rfl
end

/-! ### The demotion check (R126) -/

section
variable (v : Link) (now : Word)

/-- The link as a RETRAIN entry counts and checks it. -/
def Link.retrained : Link := { v with retrains := bump v.retrains }.demotionCheck now

/-- The RETRAIN entries of the last ten seconds, with this one. -/
def Link.recentRetrains : List Word :=
  v.history.filter (fun h => decide ((now - h).toNat ≤ 10000000)) ++ [now]

/-- Demotion and history after the check of a RETRAIN entry. -/
def Link.demotion : Bool × List Word :=
  if v.searchPolicy.rate = .auto ∧ v.rate = .full then
    if 3 ≤ (v.recentRetrains now).length then (true, []) else (v.demoted, v.recentRetrains now)
  else (v.demoted, v.history)

theorem retrained_eq : v.retrained now = { v with
    retrains := bump v.retrains, demoted := (v.demotion now).1, history := (v.demotion now).2 } := by
  unfold Link.retrained Link.demotionCheck Link.demotion
  dsimp only
  split
  · change (if 3 ≤ (v.recentRetrains now).length then _ else _) = _
    split <;> rfl
  · rfl

theorem demotion_of_unchecked (h : ¬ (v.searchPolicy.rate = .auto ∧ v.rate = .full)) :
    v.demotion now = (v.demoted, v.history) := if_neg h

theorem demotion_of_few (h : v.searchPolicy.rate = .auto ∧ v.rate = .full) (hfew : (v.recentRetrains now).length < 3) :
    v.demotion now = (v.demoted, v.recentRetrains now) := (if_pos h).trans (if_neg (by omega))

theorem demotion_of_many (h : v.searchPolicy.rate = .auto ∧ v.rate = .full) (hmany : 3 ≤ (v.recentRetrains now).length) :
    v.demotion now = (true, []) := (if_pos h).trans (if_pos hmany)
end

/-! ### The entry -/

/-- The link after a RETRAIN entry, its remote requests apart. -/
def Link.enteredRetrain (v : Link) (now : Word) : Link := (v.retrained now).left.retraining

theorem enteredRetrain_blind (now : Word) : OutcomeBlind (fun v => v.enteredRetrain now) := by
  intro v awaiting result errors
  unfold Link.enteredRetrain
  dsimp only
  rw [retrained_eq, retrained_eq]
  rfl

theorem retrained_blind (now : Word) : OutcomeBlind (fun v => v.retrained now) := by
  intro v awaiting result errors
  dsimp only
  rw [retrained_eq, retrained_eq]
  rfl

theorem enterRetrain_changed (s : State) (l : Fin 4) : s.enterRetrain l =
    (s.remoteLinkLoss l).changed l (fun v => v.enteredRetrain s.timeBase) Output.emptied := by
  have hswap (t : State) (f : Link → Link) (g : Output → Output) :
      (t.modOutput l g).modLink l f = (t.modLink l f).modOutput l g := rfl
  have hloss : (s.modLink l (fun v => v.retrained s.timeBase)).remoteLinkLoss l =
      (s.remoteLinkLoss l).modLink l (fun v => v.retrained s.timeBase) := remoteLinkLoss_modLink (retrained_blind _) s l
  have hleft : s.leftForRetrain l =
      ((s.remoteLinkLoss l).modLink l (fun v => (v.retrained s.timeBase).left)).modOutput l Output.emptied := by
    rw [← modLink_modLink, ← hloss, ← leaveUp_eq]
    rfl
  have hbegin : Link.beginRetrain = Link.retraining := funext beginRetrain_retraining
  rw [enterRetrain_eq, hleft, hbegin, hswap, modLink_modLink]
  rfl

theorem enterRetrain_link (s : State) (l : Fin 4) : ∃ result errors, (s.enterRetrain l).link l =
    ((s.link l).enteredRetrain s.timeBase).withOutcome [] result errors := by
  obtain ⟨rs, pe, hlink⟩ := remoteLinkLoss_link s l
  refine ⟨rs, pe, ?_⟩
  rw [enterRetrain_changed, changed_link, hlink]
  exact enteredRetrain_blind s.timeBase (s.link l) [] rs pe

theorem retrainDrive_bounds {v : Link} (h : v.policy.driveMin ≤ v.policy.driveMax) :
    v.policy.driveMin ≤ v.retrainDrive ∧ v.retrainDrive ≤ v.policy.driveMax := by
  unfold Link.retrainDrive
  split
  next hfits => exact hfits
  next => exact startSetting_bounds h

theorem retraining_drive {v : Link} (h : v.policy.driveMin ≤ v.policy.driveMax) :
    v.retraining.drive = v.retrainDrive := by
  obtain ⟨hlo, hhi⟩ := retrainDrive_bounds h
  change (passOrder _ _ _).headD _ = _
  rw [passOrder_eq_cons hlo hhi]
  rfl

/-- Settles O41. -/
theorem retrainRules : Obligations.RetrainRules := by
  unfold Obligations.RetrainRules
  intro s l hpolicy v t w p start checked history rates
  have heq := enterRetrain_changed s l
  have hover : HandedOver s (s.remoteLinkLoss l) t l := by
    change HandedOver s _ (s.enterRetrain l) l
    rw [heq]
    exact changed_handedOver (.loss l s) (enteredRetrain_blind s.timeBase) fun _ => rfl
  have hout : t.output l = { (s.output l).emptied with tier := t.tierNow l } := by
    change (s.enterRetrain l).output l = _
    rw [heq, changed_output, (Handed.loss l s).output l, ← heq]
  obtain ⟨rs, pe, hlink⟩ := enterRetrain_link s l
  have hlink : w = ((v.retrained s.timeBase).left.retraining).withOutcome [] rs pe := hlink
  rw [retrained_eq] at hlink
  generalize hdemotion : v.demotion s.timeBase = demotion at hlink
  obtain ⟨demoted, past⟩ := demotion
  generalize hm : ({ v with retrains := bump v.retrains, demoted := demoted, history := past } : Link).left = m at hlink
  have hpolicy' : m.policy = p := hm ▸ rfl
  have hrate : m.rate = v.rate := hm ▸ rfl
  have hdrive : m.drive = v.drive := hm ▸ rfl
  have hw {α : Type} (f : Link → α) : f w = f (m.retraining.withOutcome [] rs pe) := congrArg f hlink
  have hdemoted : w.demoted = demoted := (hw Link.demoted).trans (hm ▸ rfl)
  have hhistory : w.history = past := (hw Link.history).trans (hm ▸ rfl)
  have hrates : rates = searchRates m.policy m.demoted := by
    have hsame : m.demoted = w.demoted := (hm ▸ rfl : m.demoted = demoted).trans hdemoted.symm
    rw [hpolicy', hsame]
    rfl
  have hfirst : w.drive = m.retrainDrive := (hw Link.drive).trans (retraining_drive (hpolicy' ▸ hpolicy))
  obtain ⟨_, hstreams, hstore, _, _⟩ := changed_rest (s.remoteLinkLoss l) l (fun v => v.enteredRetrain s.timeBase)
    Output.emptied
  obtain ⟨hstreams', hstore', _⟩ := (Handed.loss l s).rest
  rw [← heq] at hstreams hstore
  refine ⟨hw Link.state, (hw Link.retrains).trans (hm ▸ rfl), (hw Link.searchPolicy).trans hpolicy',
    (hw Link.policy).trans hpolicy', (hw Link.intent).trans (hm ▸ rfl), fun hno => ?unchecked, hover,
    fun hcheck hfew => ?few, fun hcheck hmany => ?many, fun hmem => ?keepsRate, fun hmem => ?newRate, ?drive, ?search,
    hw Link.silence, (hw Link.errorWindow).trans (hm ▸ rfl), (hw Link.windowSum).trans (hm ▸ rfl),
    (hw Link.sending).trans (hm ▸ rfl), (hw Link.halfPending).trans (hm ▸ rfl), (hw Link.lastConfig).trans (hm ▸ rfl),
    hw Link.awaiting, (hw Link.lockChanged).trans (hm ▸ rfl), (hw Link.txSeq).trans (hm ▸ rfl),
    (hw Link.touch).trans (hm ▸ rfl), (hw Link.rxLock).trans (hm ▸ rfl), (hw Link.forward).trans (hm ▸ rfl),
    by rw [hout]; rfl, by rw [hout], by rw [hout]; rfl, by rw [hout]; rfl, fun m hm => ?away,
    hstreams.trans hstreams', hstore.trans hstore'⟩
  case unchecked =>
    rw [demotion_of_unchecked v _ hno] at hdemotion
    obtain ⟨rfl, rfl⟩ := Prod.mk.inj hdemotion
    exact ⟨hdemoted, hhistory⟩
  case few =>
    rw [demotion_of_few v _ hcheck hfew] at hdemotion
    obtain ⟨rfl, rfl⟩ := Prod.mk.inj hdemotion
    exact ⟨hdemoted, hhistory⟩
  case many =>
    rw [demotion_of_many v _ hcheck hmany] at hdemotion
    obtain ⟨rfl, rfl⟩ := Prod.mk.inj hdemotion
    exact ⟨hdemoted, hhistory⟩
  case keepsRate =>
    rw [hrates, ← hrate] at hmem
    exact (hw Link.rate).trans ((retrainRate_of_mem m hmem).trans hrate)
  case newRate =>
    rw [hrates, ← hrate] at hmem
    rw [hrates, retrainRate_of_not_mem m hmem]
    exact congrArg some (hw Link.rate).symm
  case drive =>
    have hstart : m.policy.startSetting = start := by
      rw [hpolicy']
      exact startSetting_eq p
    rw [hfirst, Link.retrainDrive, hpolicy', hdrive, ← hpolicy', hstart]
  case search =>
    have hrest : m.retrainRest = if rates = [.full, .half] ∧ w.rate = .full then [.half] else [] := by
      rw [retrainRest_eq, hrates, hw Link.rate]
      rfl
    rw [← hrest, hfirst, ← hpolicy']
    exact hw Link.search
  case away =>
    obtain ⟨hlink, hchannel⟩ := (Handed.loss l s).away hm
    obtain ⟨hlink', hout'⟩ := changed_away (s.remoteLinkLoss l) l (fun v => v.enteredRetrain s.timeBase) Output.emptied hm
    obtain ⟨hchannels, _⟩ := changed_rest (s.remoteLinkLoss l) l (fun v => v.enteredRetrain s.timeBase) Output.emptied
    rw [← heq] at hlink' hout' hchannels
    exact ⟨hlink'.trans hlink, hout'.trans ((Handed.loss l s).output m),
      (congrArg (fun cs : Four Channel => cs.get m) hchannels).trans hchannel⟩

end Sys2Proof.Machine
end

section
/-! PROOF of LinkTimerRules (O40) and StatusRecordRules (O43). -/

namespace Sys2Proof.Machine

open Sys2Proof.Claims

/-! ### The timers of a link -/

/-- A search is under way (R107). -/
def Link.Searching (v : Link) : Prop := v.state = .training ∨ v.state = .retrain

theorem candidate_of_searching {v : Link} (h : v.Searching) : v.candidate = v.search := by
  unfold Link.candidate
  obtain h | h := h <;> rw [h]

theorem candidate_of_not_searching {v : Link} (h : ¬ v.Searching) : v.candidate = none := by
  unfold Link.candidate
  cases hstate : v.state with
  | training => exact absurd (.inl hstate) h
  | retrain => exact absurd (.inr hstate) h
  | disabled => rfl
  | waitPower => rfl
  | up => rfl
  | failed => rfl

theorem halfDwell_bind_none {v : Link} (h : ¬ (v.Searching ∧ ∃ c, v.search = some c ∧ c.halfDwell ≠ none)) :
    v.candidate.bind Search.halfDwell = none := by
  by_cases hsearching : v.Searching
  · rw [candidate_of_searching hsearching, Option.bind_eq_none_iff]
    exact fun c hc => by_contra fun hhalf => h ⟨hsearching, c, hc, hhalf⟩
  · rw [candidate_of_not_searching hsearching]
    rfl

theorem dwell_map_none {v : Link} (h : ¬ (v.Searching ∧ v.search ≠ none)) : v.candidate.map Search.dwell = none := by
  by_cases hsearching : v.Searching
  · rw [candidate_of_searching hsearching, Option.map_eq_none_iff]
    exact by_contra fun hsome => h ⟨hsearching, hsome⟩
  · rw [candidate_of_not_searching hsearching]
    rfl

/-- What follows the expiry of a timer that runs. -/
theorem onExpiry_of_some {s : State} {t : Timer} {left : Nat} (h : t = some left) (effect : State → State) :
    s.onExpiry t effect = effect (s.elapse left) := by
  rw [h, onExpiry_some]

theorem onExpiry_of_none {s : State} {t : Timer} (h : t = none) (effect : State → State) : s.onExpiry t effect = s := by
  rw [h, onExpiry_none]

theorem searching_elapse (v : Link) (dt : Nat) : (v.elapse dt).Searching ↔ v.Searching := Iff.rfl

section
variable {s : State} {l : Fin 4}

/-- The candidate of a link some time later. -/
theorem candidate_elapse {c : Search} (left : Nat) (hc : (s.link l).search = some c)
    (h : ((s.elapse left).link l).Searching) : ((s.elapse left).link l).candidate = some (c.elapse left) := by
  rw [candidate_of_searching h, link_elapse]
  exact congrArg (Option.map (Search.elapse left)) hc

theorem backWaitExpired_training (h : (s.link l).state = .training) :
    s.backWaitExpired l = s.enterFailed l .noBackchannel := if_pos h

/-- A link as it enters FAILED (R122). -/
def Link.failedFor (v : Link) (cause : FailureCause) : Link := { v with
  state := .failed, cause := cause, search := none, backWait := none, silence := none, errorWindow := none
  retry := some 1000000 }

theorem enterFailed_eq (s : State) (l : Fin 4) (cause : FailureCause) :
    s.enterFailed l cause = (s.setLink l ((s.link l).failedFor cause)).post .linkState l.val := rfl

theorem halfDwell_seen {c : Search} (hc : (s.link l).candidate = some c) (h : c.seen = some true) :
    s.halfDwell l = s.setLink l { s.link l with search := some { c with halfDwell := none, sum := some 0 } } := by
  rw [State.halfDwell, hc]
  exact if_pos h

theorem halfDwell_unseen {c : Search} (hc : (s.link l).candidate = some c) (h : c.seen ≠ some true) :
    s.halfDwell l = s.candidateFails l := by
  rw [State.halfDwell, hc]
  exact if_neg h

theorem dwellExpired_seen {c : Search} (hc : (s.link l).candidate = some c) (h : c.seen = some true) :
    s.dwellExpired l = s.candidatePasses l := by
  rw [State.dwellExpired, hc]
  exact if_pos h

theorem dwellExpired_unseen {c : Search} (hc : (s.link l).candidate = some c) (h : c.seen ≠ some true) :
    s.dwellExpired l = s.candidateFails l := by
  rw [State.dwellExpired, hc]
  exact if_neg h

theorem silenceExpired_searching (h : (s.link l).Searching) : s.silenceExpired l = s.candidateFails l := by
  unfold State.silenceExpired
  obtain h | h := h <;> rw [h]

theorem silenceExpired_up (h : (s.link l).state = .up) : s.silenceExpired l = s.enterRetrain l := by
  rw [State.silenceExpired, h]

theorem retryExpired_failed (h : (s.link l).state = .failed) : s.retryExpired l = s.enterTraining l := if_pos h

/-! ### The outcome of a candidate -/

theorem candidateFails_next {c : Search} {d : Nat} {rest : List Nat} (hc : (s.link l).search = some c)
    (h : c.settings = d :: rest) : s.candidateFails l = s.setLink l ((s.link l).beginCandidate d rest c.rates) := by
  rw [State.candidateFails, hc]
  dsimp only
  rw [h]
  rfl

theorem candidateFails_rate {c : Search} {rate : Rate} {rates : List Rate} (hc : (s.link l).search = some c)
    (hsettings : c.settings = []) (hrates : c.rates = rate :: rates) : s.candidateFails l =
      (s.setLink l ({ s.link l with rate := rate }.beginPass (s.link l).searchPolicy.startSetting rates)).post .linkState
        l.val := by
  rw [State.candidateFails, hc]
  dsimp only
  rw [hsettings, hrates]
  rfl

theorem candidateFails_last {c : Search} (hc : (s.link l).search = some c) (hsettings : c.settings = [])
    (hrates : c.rates = []) : s.candidateFails l = s.enterFailed l .noSetting := by
  rw [State.candidateFails, hc]
  dsimp only
  rw [hsettings, hrates]

/-- A link that has entered UP (R119). -/
def State.enteredUp (s : State) (l : Fin 4) : State :=
  ((s.setLink l { s.link l with
    state := .up, search := none, errorWindow := some 100000, windowSum := 0, lastConfig := none, lockChanged := true
    awaiting := [], nextToggle := false }).post .linkState l.val).evaluate l

theorem candidatePasses_eq (s : State) (l : Fin 4) : s.candidatePasses l = (s.enteredUp l).offerRoom l := rfl

theorem enteredUp_channel (s : State) (l c : Fin 4) : (s.enteredUp l).channel c = s.channel c := by
  unfold State.enteredUp
  obtain ⟨ns, hevaluate⟩ := evaluate_eq ((s.setLink l _).post .linkState l.val) l
  rw [hevaluate]
  exact channel_post ..

theorem offerRoom_of_nothing (h : (s.channel l).pendingByte = none) : s.offerRoom l = s := by
  rw [State.offerRoom, askRation_idle h, ite_self]
end

/-- Settles O40. -/
theorem linkTimerRules : Obligations.LinkTimerRules := by
  unfold Obligations.LinkTimerRules
  intro put candidate start failed
  refine ⟨fun s l => ?stopped, fun s l left => ?expired, fun s l c hc => ?fails, fun s l => ?passes⟩
  case stopped =>
    intro v searching
    exact ⟨fun h => congrArg Host.Outcome.next (onExpiry_of_none h _),
      fun h => congrArg Host.Outcome.next (onExpiry_of_none (halfDwell_bind_none h) _),
      fun h => congrArg Host.Outcome.next (onExpiry_of_none (dwell_map_none h) _),
      fun h => congrArg Host.Outcome.next (onExpiry_of_none h _),
      fun h => congrArg Host.Outcome.next (onExpiry_of_none h _),
      fun h => congrArg Host.Outcome.next (onExpiry_of_none h _)⟩
  case expired =>
    intro u v searching
    have hbefore (h : searching) : (s.link l).Searching := (link_elapse s left l ▸ h : ((s.link l).elapse left).Searching)
    refine ⟨fun h hstate => ?backWait, fun c hc hhalf hsearching => ?halfDwell, fun c hc hdwell hsearching => ?dwell,
      fun h hsearching => ?silence, fun h hup => ?silenceUp, fun h => ?window, fun h hstate => ?retry⟩
    case backWait =>
      exact congrArg Host.Outcome.next ((onExpiry_of_some h _).trans (backWaitExpired_training hstate))
    case halfDwell =>
      have hcandidate := candidate_elapse left hc hsearching
      have htimer : (s.link l).candidate.bind Search.halfDwell = some left := by
        rw [candidate_of_searching (hbefore hsearching), hc]
        exact hhalf
      exact ⟨fun h => congrArg Host.Outcome.next ((onExpiry_of_some htimer _).trans (halfDwell_seen hcandidate h)),
        fun h => congrArg Host.Outcome.next ((onExpiry_of_some htimer _).trans (halfDwell_unseen hcandidate h))⟩
    case dwell =>
      have hcandidate := candidate_elapse left hc hsearching
      have htimer : (s.link l).candidate.map Search.dwell = some left := by
        rw [candidate_of_searching (hbefore hsearching), hc]
        exact congrArg some hdwell
      exact ⟨fun h => congrArg Host.Outcome.next ((onExpiry_of_some htimer _).trans (dwellExpired_seen hcandidate h)),
        fun h => congrArg Host.Outcome.next ((onExpiry_of_some htimer _).trans (dwellExpired_unseen hcandidate h))⟩
    case silence =>
      exact congrArg Host.Outcome.next ((onExpiry_of_some h _).trans (silenceExpired_searching hsearching))
    case silenceUp =>
      exact congrArg Host.Outcome.next ((onExpiry_of_some h _).trans (silenceExpired_up hup))
    case window => exact congrArg Host.Outcome.next (onExpiry_of_some h _)
    case retry =>
      exact congrArg Host.Outcome.next ((onExpiry_of_some h _).trans
        ((retryExpired_failed hstate).trans (enterTraining_eq u l)))
  case fails =>
    intro v p pass
    refine ⟨fun d rest h => candidateFails_next hc h, fun rate rates hsettings hrates => ?_,
      fun hsettings hrates => candidateFails_last hc hsettings hrates⟩
    have hstart : p.startSetting = start p := startSetting_eq p
    have hrate := candidateFails_rate hc hsettings hrates
    rw [beginPass_headD] at hrate
    dsimp only at hrate
    rw [hstart] at hrate
    exact hrate
  case passes =>
    intro entered
    refine ⟨candidatePasses_eq s l, fun h => (candidatePasses_eq s l).trans (offerRoom_of_nothing ?_)⟩
    rw [enteredUp_channel]
    exact h

/-! ### Status records -/

section
variable {s : State} {l : Fin 4}

theorem takeRecord_dark (h : (s.link l).state = .disabled) (bytes : List Byte) : s.takeRecord l bytes = s := if_pos h

theorem takeRecord_bad (h : (s.link l).state ≠ .disabled) {bytes : List Byte} (hbad : readStatus bytes = none) :
    s.takeRecord l bytes = s.setLink l { s.link l with badRecords := bump (s.link l).badRecords } := by
  rw [State.takeRecord, if_neg h, hbad]
  rfl

theorem takeRecord_good (h : (s.link l).state ≠ .disabled) {bytes : List Byte} {r : StatusRecord}
    (hgood : readStatus bytes = some r) : s.takeRecord l bytes = s.handOn l r := by
  rw [State.takeRecord, if_neg h, hgood]

variable (lock : Bool) (errors : Nat)

/-- The rates left after the first of a search (R114). -/
theorem searchRates_drop (p : LinkPolicy) (demoted : Bool) :
    (searchRates p demoted).drop 1 = if p.rate = .auto ∧ demoted = false then [.half] else [] := by
  unfold searchRates
  cases p.rate with
  | auto => cases demoted <;> rfl
  | fullOnly => rfl
  | halfOnly => rfl

theorem takeLock_idle (h : (s.link l).state = .waitPower ∨ (s.link l).state = .failed) :
    s.takeLock l lock errors = s.setLink l ((s.link l).takeCounts lock errors) := by
  unfold State.takeLock
  obtain h | h := h <;> rw [h] <;> rfl

theorem takeLock_first (h : (s.link l).state = .training) (hsearch : (s.link l).search = none) :
    s.takeLock l lock errors = (s.setLink l ((s.link l).takeCounts lock errors)).endBackWait l := by
  rw [State.takeLock, h, hsearch]
  rfl

theorem takeLock_weigh (h : (s.link l).Searching) {c : Search} (hc : (s.link l).search = some c) :
    s.takeLock l lock errors = (s.setLink l ((s.link l).takeCounts lock errors)).weigh l lock errors := by
  unfold State.takeLock
  obtain h | h := h
  · rw [h, hc]
    rfl
  · rw [h]
    rfl

theorem takeLock_up (h : (s.link l).state = .up) :
    s.takeLock l lock errors = (s.setLink l ((s.link l).takeCounts lock errors)).monitor l lock errors := by
  rw [State.takeLock, h]
  rfl

/-- The search after a record has been weighed. -/
def Search.weighed (c : Search) (lock : Bool) (errors : Nat) : Search :=
  { c with seen := some lock, sum := c.sum.map (fun n => n + errors) }

theorem weigh_eq {v : Link} {c : Search} (hc : v.search = some c) : (s.setLink l v).weigh l lock errors =
    let s' := s.setLink l { v with search := some (c.weighed lock errors), silence := some 5000 }
    match (c.weighed lock errors).sum with
    | none => s'
    | some n => if lock = false ∨ v.searchPolicy.candidateThreshold < n then s'.candidateFails l else s' := by
  unfold State.weigh
  rw [link_setLink, hc]
  dsimp only
  rw [setLink_modLink] <;> rfl

theorem weigh_quiet {v : Link} {c : Search} (hc : v.search = some c) (h : c.sum = none) :
    (s.setLink l v).weigh l lock errors =
      s.setLink l { v with search := some (c.weighed lock errors), silence := some 5000 } := by
  have hsum : (c.weighed lock errors).sum = none := congrArg (Option.map _) h
  rw [weigh_eq lock errors hc]
  dsimp only
  rw [hsum]

theorem weigh_summing {v : Link} {c : Search} (hc : v.search = some c) {n : Nat} (h : c.sum = some n) :
    (s.setLink l v).weigh l lock errors =
      let s' := s.setLink l { v with search := some (c.weighed lock errors), silence := some 5000 }
      if lock = false ∨ v.searchPolicy.candidateThreshold < n + errors then s'.candidateFails l else s' := by
  have hsum : (c.weighed lock errors).sum = some (n + errors) := congrArg (Option.map _) h
  rw [weigh_eq lock errors hc]
  dsimp only
  rw [hsum]

theorem monitor_eq (v : Link) : (s.setLink l v).monitor l lock errors =
    let s' := s.setLink l { v with windowSum := v.windowSum + errors, silence := some 5000 }
    if v.searchPolicy.retrainThreshold < v.windowSum + errors ∨ lock = false then s'.enterRetrain l else s' := by
  unfold State.monitor
  rw [link_setLink, setLink_modLink]
  rfl
end

/-- Settles O43. -/
theorem statusRecordRules : Obligations.StatusRecordRules := by
  unfold Obligations.StatusRecordRules
  intro put
  refine ⟨fun s dt l bytes => ?record, fun s l lock errors => ?lock⟩
  case record =>
    intro u arrives
    have hstate : (u.link l).state = (s.link l).state := (congrArg Link.state (link_elapse s dt l)).trans rfl
    exact ⟨fun h => congrArg Host.Outcome.next (takeRecord_dark (hstate.trans h) bytes),
      fun h hbad => congrArg Host.Outcome.next (takeRecord_bad (hstate ▸ h) hbad),
      fun r h hgood => congrArg Host.Outcome.next (takeRecord_good (hstate ▸ h) hgood)⟩
  case lock =>
    intro counted p start pass taken
    have hcounted : counted = (s.link l).takeCounts lock errors := rfl
    have hstart : p.startSetting = start := startSetting_eq p
    refine ⟨fun h => takeLock_idle lock errors h, fun h hsearch => ?first, fun c h hc => ?weighed, fun h => ?up⟩
    case first =>
      have hbegin := beginPass_headD { counted with backWait := none } p.startSetting
        ((searchRates p counted.demoted).drop 1)
      rw [hstart, searchRates_drop] at hbegin
      have hended : (s.setLink l counted).endBackWait l = s.setLink l
          (Link.beginPass { counted with backWait := none } p.startSetting ((searchRates p counted.demoted).drop 1)) :=
        setLink_modLink s l counted _
      rw [hstart, searchRates_drop] at hended
      exact (takeLock_first lock errors h hsearch).trans (hended.trans (congrArg (s.setLink l) hbegin))
    case weighed =>
      intro weighed
      have htaken : taken = (s.setLink l counted).weigh l lock errors := takeLock_weigh lock errors h hc
      refine ⟨fun hsum => htaken.trans (weigh_quiet lock errors hc hsum), fun n hsum => ⟨fun ⟨hlock, hfew⟩ => ?_,
        fun hmany => ?_⟩⟩
      · refine htaken.trans ((weigh_summing lock errors hc hsum).trans (if_neg ?_))
        rintro (hno | hmany)
        · rw [hlock] at hno
          cases hno
        · exact absurd hmany (not_lt_of_ge hfew)
      · exact htaken.trans ((weigh_summing lock errors hc hsum).trans (if_pos hmany))
    case up =>
      intro monitored
      have htaken : taken = (s.setLink l counted).monitor l lock errors := takeLock_up lock errors h
      refine ⟨fun hlock hfew => htaken.trans ((monitor_eq lock errors counted).trans (if_neg ?_)),
        fun hmany => htaken.trans ((monitor_eq lock errors counted).trans (if_pos hmany.symm))⟩
      rintro (hmany | hno)
      · exact absurd hmany (not_lt_of_ge hfew)
      · rw [hlock] at hno
        cases hno

end Sys2Proof.Machine
end

section
/-! PROOF of StatusRecordFormat (O42): the parts of a record, read where they stand. -/

namespace Sys2Proof.Machine

open Sys2Proof.Claims

/-! ### Reading past a head -/

theorem byteAt_shift (a b : List Byte) (i : Nat) : byteAt (a ++ b) (a.length + i) = byteAt b i := by
  rw [byteAt_append_right (Nat.le_add_right ..), Nat.add_sub_cancel_left]

theorem half_shift (a b : List Byte) (i : Nat) : half (a ++ b) (a.length + i) = half b i := by
  rw [half, half, Nat.add_assoc, byteAt_shift, byteAt_shift]

theorem readTouch_shift (a b : List Byte) (i : Nat) : readTouch (a ++ b) (a.length + i) = readTouch b i := by
  simp only [readTouch, Nat.add_assoc, byteAt_shift, half_shift]

theorem readTouches_shift (a b : List Byte) (n i : Nat) : readTouches (a ++ b) n (a.length + i) = readTouches b n i := by
  induction n generalizing i with
  | zero => rfl
  | succ n ih => rw [readTouches, readTouches, readTouch_shift, Nat.add_assoc, ih]

/-- A field split into a low part and what lies above it is put together again. -/
theorem append_setWidth {m n : Nat} (v : BitVec (m + n)) :
    (v >>> n).setWidth m ++ v.setWidth n = v := by
  refine BitVec.eq_of_getLsbD_eq fun i hi => ?_
  rw [BitVec.getLsbD_append, BitVec.getLsbD_setWidth, BitVec.getLsbD_setWidth, BitVec.getLsbD_ushiftRight]
  by_cases hlow : i < n
  · simp [hlow]
  · have hhigh : i - n < m := by omega
    simp [hlow, hhigh, Nat.add_sub_cancel' (Nat.le_of_not_lt hlow)]

theorem half_halfBytes (v : Half) (rest : List Byte) : half (halfBytes v ++ rest) 0 = v :=
  append_setWidth (m := 8) (n := 8) v

theorem word_wordBytes (v : Word) (rest : List Byte) : word (wordBytes v ++ rest) 0 = v := by
  have hlow : half (wordBytes v ++ rest) 0 = v.setWidth 16 := half_halfBytes _ _
  have hhigh : half (wordBytes v ++ rest) 2 = (v >>> 16).setWidth 16 :=
    half_halfBytes ((v >>> 16).setWidth 16) rest
  rw [word, hlow, hhigh]
  exact append_setWidth (m := 16) (n := 16) v

/-! ### Touch records -/

theorem touchByte_fields : ∀ (contact : Fin 16) (kind : TouchKind),
    let b := (BitVec.ofNat 8 (contact.val + 16 * kind.code)).toNat
    b % 16 = contact.val ∧ TouchKind.ofCode? (b / 16 % 4) = some kind := by
  intro contact kind
  revert contact
  cases kind <;> decide

theorem readTouch_bytes {t : TouchRecord} (h : t.contact < 16) (rest : List Byte) :
    readTouch (t.bytes ++ rest) 0 = some t := by
  obtain ⟨hcontact, hkind⟩ := touchByte_fields ⟨t.contact, h⟩ t.kind
  have hx : half (t.bytes ++ rest) 1 = t.x := half_halfBytes t.x (halfBytes t.y ++ halfBytes t.time ++ rest)
  have hy : half (t.bytes ++ rest) 3 = t.y := half_halfBytes t.y (halfBytes t.time ++ rest)
  have htime : half (t.bytes ++ rest) 5 = t.time := half_halfBytes t.time rest
  have hfirst : byteAt (t.bytes ++ rest) 0 = BitVec.ofNat 8 (t.contact + 16 * t.kind.code) := rfl
  rw [readTouch, hfirst, hx, hy, htime]
  dsimp only at hcontact hkind ⊢
  rw [hkind, hcontact]
  rfl

theorem length_touchBytes (t : TouchRecord) : t.bytes.length = 7 := rfl

theorem readTouches_bytes {ts : List TouchRecord} (h : ∀ t ∈ ts, t.contact < 16) (rest : List Byte) :
    readTouches ((ts.map TouchRecord.bytes).flatten ++ rest) ts.length 0 = some ts := by
  induction ts with
  | nil => rfl
  | cons t ts ih =>
    obtain ⟨ht, hts⟩ := List.forall_mem_cons.mp h
    have htail := readTouches_shift t.bytes ((ts.map TouchRecord.bytes).flatten ++ rest) ts.length 0
    rw [length_touchBytes, ih hts] at htail
    rw [List.map_cons, List.flatten_cons, List.append_assoc, List.length_cons, readTouches, readTouch_bytes ht]
    rw [htail]

theorem length_touchesBytes (ts : List TouchRecord) : ((ts.map TouchRecord.bytes).flatten).length = 7 * ts.length := by
  induction ts with
  | nil => rfl
  | cons t ts ih =>
    rw [List.map_cons, List.flatten_cons, List.length_append, ih, length_touchBytes, List.length_cons]
    omega

/-- A record reads a touch record of kind bits 3 nowhere, or it reads none. -/
theorem readTouches_none_iff (bytes : List Byte) (n i : Nat) :
    readTouches bytes n i = none ↔ ∃ k < n, (byteAt bytes (i + 7 * k)).toNat / 16 % 4 = 3 := by
  induction n generalizing i with
  | zero => simp [readTouches]
  | succ n ih =>
    have hfirst : readTouch bytes i = none ↔ (byteAt bytes i).toNat / 16 % 4 = 3 := by
      have hlt := Nat.mod_lt ((byteAt bytes i).toNat / 16) (by decide : 0 < 4)
      unfold readTouch
      rw [Option.map_eq_none_iff]
      generalize (byteAt bytes i).toNat / 16 % 4 = k at hlt
      interval_cases k <;> simp [TouchKind.ofCode?]
    have hboth : readTouches bytes (n + 1) i = none ↔ readTouch bytes i = none ∨ readTouches bytes n (i + 7) = none := by
      rw [readTouches]
      cases readTouch bytes i <;> cases readTouches bytes n (i + 7) <;> simp
    rw [hboth, hfirst, ih]
    constructor
    · rintro (h | ⟨k, hk, h⟩)
      · exact ⟨0, Nat.succ_pos n, h⟩
      · exact ⟨k + 1, Nat.succ_lt_succ hk, by rwa [show i + 7 * (k + 1) = i + 7 + 7 * k by ring]⟩
    · rintro ⟨k, hk, h⟩
      cases k with
      | zero => exact .inl h
      | succ k => exact .inr ⟨k, Nat.lt_of_succ_lt_succ hk, by rwa [show i + 7 + 7 * k = i + 7 * (k + 1) by ring]⟩

/-! ### When a record is bad -/

/-- Where the touch records of a record stand. -/
def touchesAt (bytes : List Byte) : Nat := if (byteAt bytes 0).getLsbD 1 then 12 else 6

/-- How many touch records a record declares. -/
def touchesIn (bytes : List Byte) : Nat := (byteAt bytes 0).toNat / 16 % 8

/-- Where the header of the response stands. -/
def responseAt (bytes : List Byte) : Nat := touchesAt bytes + 7 * touchesIn bytes

/-- How many response bytes a record declares. -/
def responseIn (bytes : List Byte) : Nat := (byteAt bytes (responseAt bytes)).toNat / 4

/-- Where the check of a record stands. -/
def checkAt (bytes : List Byte) : Nat :=
  if (byteAt bytes 0).getLsbD 2 then responseAt bytes + 1 + responseIn bytes else responseAt bytes

/-- A record that its length, its counts or its check make bad (R133, R211). -/
def misshapen (bytes : List Byte) : Prop :=
  bytes.length ≠ checkAt bytes + 2 ∨ 4 < touchesIn bytes ∨ ((byteAt bytes 0).getLsbD 2 = true ∧ 32 < responseIn bytes) ∨
    crc16 (bytes.take (checkAt bytes)) ≠ half bytes (checkAt bytes)

/-- The parts of a record around its touch records. -/
def recordWith (bytes : List Byte) (touches : List TouchRecord) : StatusRecord :=
  let flags := byteAt bytes 0
  let header := byteAt bytes (responseAt bytes)
  { lock := flags.getLsbD 0
    errors := (byteAt bytes 1).toNat
    status := ⟨byteAt bytes 2, byteAt bytes 3, byteAt bytes 4, byteAt bytes 5⟩
    report := if flags.getLsbD 1 then some (half bytes 6, word bytes 8) else none
    touches := touches
    response :=
      if flags.getLsbD 2 then
        some ⟨header.getLsbD 0, header.getLsbD 1, (bytes.drop (responseAt bytes + 1)).take (responseIn bytes)⟩
      else none }

theorem readStatus_misshapen {bytes : List Byte} (h : misshapen bytes) : readStatus bytes = none := if_pos h

theorem readStatus_shaped {bytes : List Byte} (h : ¬ misshapen bytes) : readStatus bytes =
    (readTouches bytes (touchesIn bytes) (touchesAt bytes)).map (recordWith bytes) := if_neg h

theorem readStatus_eq_none_iff (bytes : List Byte) : readStatus bytes = none ↔
    misshapen bytes ∨ ∃ k < touchesIn bytes, (byteAt bytes (touchesAt bytes + 7 * k)).toNat / 16 % 4 = 3 := by
  rw [← readTouches_none_iff]
  by_cases h : misshapen bytes
  · exact iff_of_true (readStatus_misshapen h) (.inl h)
  · rw [readStatus_shaped h, Option.map_eq_none_iff]
    exact (or_iff_right h).symm

/-! ### Writing a record -/

/-- A flag as a bit of weight n. -/
def bitOf (b : Bool) (n : Nat) : Nat := if b then n else 0

theorem flags_fields : ∀ (lock report response three seven : Bool) (t : Fin 5),
    let b := BitVec.ofNat 8 (bitOf lock 1 + bitOf report 2 + bitOf response 4 + 16 * t.val + bitOf three 8 + bitOf seven 128)
    b.getLsbD 0 = lock ∧ b.getLsbD 1 = report ∧ b.getLsbD 2 = response ∧ b.toNat / 16 % 8 = t.val := by decide

theorem header_fields : ∀ (toggle ack : Bool) (n : Fin 33),
    let b := BitVec.ofNat 8 (bitOf toggle 1 + bitOf ack 2 + 4 * n.val)
    b.getLsbD 0 = toggle ∧ b.getLsbD 1 = ack ∧ b.toNat / 4 = n.val := by decide

def reportBytes : Option (Half × Word) → List Byte
  | none => []
  | some (seq, crc) => halfBytes seq ++ wordBytes crc

def responseBytes : Option Response → List Byte
  | none => []
  | some x => [BitVec.ofNat 8 (bitOf x.toggle 1 + bitOf x.ack 2 + 4 * x.data.length)] ++ x.data

section
variable (r : StatusRecord) (three seven : Bool)

/-- A record up to its touch records. -/
def StatusRecord.head : List Byte :=
  [BitVec.ofNat 8 (bitOf r.lock 1 + bitOf r.report.isSome 2 + bitOf r.response.isSome 4 + 16 * r.touches.length +
    bitOf three 8 + bitOf seven 128), BitVec.ofNat 8 r.errors] ++ r.status.toList ++ reportBytes r.report

/-- A record up to its response. -/
def StatusRecord.upToResponse : List Byte := r.head three seven ++ (r.touches.map TouchRecord.bytes).flatten

/-- The bytes of a record that its check covers. -/
def StatusRecord.covered : List Byte := r.upToResponse three seven ++ responseBytes r.response

theorem length_head : (r.head three seven).length = if r.report.isSome then 12 else 6 := by
  obtain ⟨lock, errors, status, report, touches, response⟩ := r
  cases report <;> rfl

theorem length_upToResponse :
    (r.upToResponse three seven).length = (if r.report.isSome then 12 else 6) + 7 * r.touches.length := by
  rw [StatusRecord.upToResponse, List.length_append, length_head, length_touchesBytes]

/-- A record with some check, cut where its response begins. -/
theorem covered_append (check : List Byte) : r.covered three seven ++ check =
    r.upToResponse three seven ++ (responseBytes r.response ++ check) := List.append_assoc ..
end

section
variable {r : StatusRecord} (three seven : Bool) (check : List Byte)

theorem report_covered {seq : Half} {crc : Word} (hr : r.report = some (seq, crc)) :
    half (r.covered three seven ++ check) 6 = seq ∧ word (r.covered three seven ++ check) 8 = crc := by
  obtain ⟨lock, errors, status, report, touches, response⟩ := r
  obtain rfl : report = some (seq, crc) := hr
  obtain ⟨rest, hrest⟩ : ∃ rest, StatusRecord.covered ⟨lock, errors, status, some (seq, crc), touches, response⟩ three
      seven ++ check = [BitVec.ofNat 8 (bitOf lock 1 + bitOf true 2 + bitOf response.isSome 4 + 16 * touches.length +
        bitOf three 8 + bitOf seven 128), BitVec.ofNat 8 errors] ++ status.toList ++
      (halfBytes seq ++ (wordBytes crc ++ rest)) := by
    refine ⟨(touches.map TouchRecord.bytes).flatten ++ (responseBytes response ++ check), ?_⟩
    simp only [StatusRecord.covered, StatusRecord.upToResponse, StatusRecord.head, reportBytes, List.append_assoc,
      Option.isSome_some]
  rw [hrest]
  exact ⟨half_halfBytes seq (wordBytes crc ++ rest), word_wordBytes crc rest⟩

theorem data_covered {x : Response} (hx : r.response = some x) :
    ((r.covered three seven ++ check).drop ((r.upToResponse three seven).length + 1)).take x.data.length = x.data := by
  rw [covered_append, hx, List.drop_length_add_append]
  exact List.take_left

end

/-- A record that R211 can carry. -/
structure StatusRecord.Fits (r : StatusRecord) : Prop where
  errors : r.errors < 256
  touches : r.touches.length ≤ 4
  contacts : ∀ t ∈ r.touches, t.contact < 16
  data : ∀ x, r.response = some x → x.data.length ≤ 32

section
variable {r : StatusRecord} (h : r.Fits) (three seven : Bool) (check : List Byte)
include h

theorem flags_covered : let b := byteAt (r.covered three seven ++ check) 0
    b.getLsbD 0 = r.lock ∧ b.getLsbD 1 = r.report.isSome ∧ b.getLsbD 2 = r.response.isSome ∧
    b.toNat / 16 % 8 = r.touches.length :=
  flags_fields r.lock r.report.isSome r.response.isSome three seven ⟨r.touches.length, Nat.lt_succ_of_le h.touches⟩

theorem touchesAt_covered : touchesAt (r.covered three seven ++ check) = (r.head three seven).length := by
  obtain ⟨_, hreport, _, _⟩ := flags_covered h three seven check
  rw [touchesAt, hreport, length_head]

theorem touchesIn_covered : touchesIn (r.covered three seven ++ check) = r.touches.length :=
  (flags_covered h three seven check).2.2.2

theorem responseAt_covered : responseAt (r.covered three seven ++ check) = (r.upToResponse three seven).length := by
  rw [responseAt, touchesAt_covered h, touchesIn_covered h, length_head, length_upToResponse]

theorem header_covered {x : Response} (hx : r.response = some x) :
    byteAt (r.covered three seven ++ check) (responseAt (r.covered three seven ++ check)) =
      BitVec.ofNat 8 (bitOf x.toggle 1 + bitOf x.ack 2 + 4 * x.data.length) := by
  rw [responseAt_covered h, covered_append, hx]
  exact byteAt_shift (r.upToResponse three seven) _ 0

theorem responseIn_covered {x : Response} (hx : r.response = some x) :
    responseIn (r.covered three seven ++ check) = x.data.length := by
  obtain ⟨_, _, hcount⟩ := header_fields x.toggle x.ack ⟨x.data.length, Nat.lt_succ_of_le (h.data x hx)⟩
  rw [responseIn, header_covered h three seven check hx]
  exact hcount

theorem checkAt_covered : checkAt (r.covered three seven ++ check) = (r.covered three seven).length := by
  obtain ⟨_, _, hresponse, _⟩ := flags_covered h three seven check
  rw [checkAt, hresponse, responseAt_covered h, StatusRecord.covered, List.length_append]
  cases hx : r.response with
  | none => rfl
  | some x =>
    have hin := responseIn_covered h three seven check hx
    rw [StatusRecord.covered] at hin
    rw [hx] at hin
    rw [if_pos (by rfl), hin, responseBytes, List.length_append, List.length_singleton, Nat.add_assoc]

theorem readTouches_covered : readTouches (r.covered three seven ++ check) (touchesIn (r.covered three seven ++ check))
    (touchesAt (r.covered three seven ++ check)) = some r.touches := by
  have hsplit : r.covered three seven ++ check = r.head three seven ++
      ((r.touches.map TouchRecord.bytes).flatten ++ (responseBytes r.response ++ check)) := by
    simp only [StatusRecord.covered, StatusRecord.upToResponse, List.append_assoc]
  rw [touchesIn_covered h, touchesAt_covered h, hsplit]
  exact (readTouches_shift (r.head three seven) _ r.touches.length 0).trans (readTouches_bytes h.contacts _)

/-- The parts of a record are read back. -/
theorem recordWith_covered : recordWith (r.covered three seven ++ check) r.touches = r := by
  obtain ⟨hlock, hreport, hresponse, _⟩ := flags_covered h three seven check
  have hreportPart : (if (byteAt (r.covered three seven ++ check) 0).getLsbD 1 then
      some (half (r.covered three seven ++ check) 6, word (r.covered three seven ++ check) 8) else none) = r.report := by
    rw [hreport]
    cases hr : r.report with
    | none => rfl
    | some p =>
      obtain ⟨seq, crc⟩ := p
      exact (if_pos rfl).trans (congrArg some (Prod.ext (report_covered three seven check hr).1
        (report_covered three seven check hr).2))
  have hresponsePart : (if (byteAt (r.covered three seven ++ check) 0).getLsbD 2 then
      some (⟨(byteAt (r.covered three seven ++ check) (responseAt (r.covered three seven ++ check))).getLsbD 0,
        (byteAt (r.covered three seven ++ check) (responseAt (r.covered three seven ++ check))).getLsbD 1,
        ((r.covered three seven ++ check).drop (responseAt (r.covered three seven ++ check) + 1)).take
          (responseIn (r.covered three seven ++ check))⟩ : Response) else none) = r.response := by
    rw [hresponse]
    cases hx : r.response with
    | none => rfl
    | some x =>
      obtain ⟨htoggle, hack, _⟩ := header_fields x.toggle x.ack ⟨x.data.length, Nat.lt_succ_of_le (h.data x hx)⟩
      rw [header_covered h three seven check hx, responseIn_covered h three seven check hx, responseAt_covered h,
        data_covered three seven check hx]
      dsimp only at htoggle hack
      rw [htoggle, hack]
      rfl
  have herrors : (byteAt (r.covered three seven ++ check) 1).toNat = r.errors :=
    (BitVec.toNat_ofNat ..).trans (Nat.mod_eq_of_lt h.errors)
  rw [recordWith]
  rw [hreportPart, hresponsePart, hlock, herrors]
  rfl

/-- A record is good just with the right check. -/
theorem misshapen_covered (check : Half) : misshapen (r.covered three seven ++ halfBytes check) ↔
    check ≠ crc16 (r.covered three seven) := by
  have hcheck := checkAt_covered h three seven (halfBytes check)
  have hlength : (r.covered three seven ++ halfBytes check).length = (r.covered three seven).length + 2 := by
    rw [List.length_append]
    rfl
  have hhalf : half (r.covered three seven ++ halfBytes check) (r.covered three seven).length = check := by
    have hshift := half_shift (r.covered three seven) (halfBytes check) 0
    have hread := half_halfBytes check []
    rw [List.append_nil] at hread
    exact hshift.trans hread
  have hfew : ¬ 4 < touchesIn (r.covered three seven ++ halfBytes check) := by
    rw [touchesIn_covered h]
    exact not_lt_of_ge h.touches
  have hdata : ¬ ((byteAt (r.covered three seven ++ halfBytes check) 0).getLsbD 2 = true ∧
      32 < responseIn (r.covered three seven ++ halfBytes check)) := by
    rintro ⟨hresponse, hmany⟩
    rw [(flags_covered h three seven _).2.2.1] at hresponse
    obtain ⟨x, hx⟩ := Option.isSome_iff_exists.mp hresponse
    rw [responseIn_covered h three seven _ hx] at hmany
    exact absurd hmany (not_lt_of_ge (h.data x hx))
  unfold misshapen
  rw [hcheck, hlength, List.take_left, hhalf]
  simp only [ne_eq, not_true_eq_false, hfew, hdata, false_or]
  exact not_congr eq_comm

theorem readStatus_covered (check : Half) : (check = crc16 (r.covered three seven) →
      readStatus (r.covered three seven ++ halfBytes check) = some r) ∧
    (check ≠ crc16 (r.covered three seven) → readStatus (r.covered three seven ++ halfBytes check) = none) := by
  refine ⟨fun hright => ?_, fun hwrong => readStatus_misshapen ((misshapen_covered h three seven check).mpr hwrong)⟩
  rw [readStatus_shaped fun hbad => (misshapen_covered h three seven check).mp hbad hright, readTouches_covered h]
  exact congrArg some (recordWith_covered h three seven _)
end

/-- Settles O42. -/
theorem statusRecordFormat : Obligations.StatusRecordFormat := by
  unfold Obligations.StatusRecordFormat
  intro bit
  refine ⟨fun r three seven herrors htouches hcontacts hdata => ?good, fun bytes hshort => ?short, fun bytes => ?bad⟩
  case good =>
    intro covered
    have hfits : r.Fits := ⟨herrors, htouches, hcontacts, hdata⟩
    have hcovered : covered = r.covered three seven := by
      obtain ⟨lock, errors, status, report, touches, response⟩ := r
      cases report <;> cases response <;> rfl
    rw [hcovered]
    exact ⟨(readStatus_covered hfits three seven _).1 rfl, fun check => (readStatus_covered hfits three seven check).2⟩
  case short =>
    refine readStatus_misshapen (.inl ?_)
    have hsix : 6 ≤ checkAt bytes := by
      unfold checkAt responseAt touchesAt
      split_ifs <;> omega
    omega
  case bad =>
    intro flags report response touches touchAt headerAt dataBytes covered
    have htouchAt : touchAt = touchesAt bytes := by
      change (6 + if flags.getLsbD 1 then 6 else 0) = if flags.getLsbD 1 then 12 else 6
      split <;> rfl
    have hheaderAt : headerAt = responseAt bytes := congrArg (· + 7 * touches) htouchAt
    have hdata : dataBytes = responseIn bytes := congrArg (fun i => (byteAt bytes i).toNat / 4) hheaderAt
    have hcheck : headerAt + 2 + (if response then 1 + dataBytes else 0) = checkAt bytes + 2 := by
      rw [hheaderAt, hdata]
      change _ = (if response then _ else _) + 2
      split <;> omega
    rw [readStatus_eq_none_iff, hcheck, hdata, htouchAt]
    by_cases hlength : bytes.length = checkAt bytes + 2
    · have hcovered : covered = checkAt bytes := by
        change bytes.length - 2 = _
        omega
      rw [hcovered]
      constructor
      · rintro ((hbad | hmany | hlong | hwrong) | hkind)
        · exact absurd hlength hbad
        · exact .inl hmany
        · exact .inr (.inl hlong)
        · exact .inr (.inr (.inr (.inl hwrong)))
        · exact .inr (.inr (.inr (.inr hkind)))
      · rintro (hmany | hlong | hbad | hwrong | hkind)
        · exact .inl (.inr (.inl hmany))
        · exact .inl (.inr (.inr (.inl hlong)))
        · exact absurd hlength hbad
        · exact .inl (.inr (.inr (.inr hwrong)))
        · exact .inr hkind
    · exact iff_of_true (.inl (.inl hlength)) (.inr (.inr (.inl hlength)))

end Sys2Proof.Machine
end

section
/-! PROOF of ScalerArithmetic (O33). -/

namespace Sys2Proof.Machine

open Sys2Proof.Claims

/-! ### Sampling and mixing (R68, R70) -/

theorem axisSample_bounds (step start : Nat) {len : Nat} (i : Nat) (h : 0 < len) :
    let q := axisSample step start len i
    start ≤ q.first ∧ q.first ≤ q.second ∧ q.second < start + len ∧ q.second ≤ q.first + 1 ∧ q.weight < 256 := by
  unfold axisSample
  dsimp only
  omega

theorem axisSample_weight (step start len i : Nat) : (axisSample step start len i).weight < 256 := by
  unfold axisSample
  dsimp only
  omega

theorem axisSample_copy (start : Nat) {len i : Nat} (h : i < len) :
    (axisSample 65536 start len i).first = start + i ∧ (axisSample 65536 start len i).weight = 0 := by
  unfold axisSample
  dsimp only
  omega

/-- A mix lies between its samples. -/
theorem mix_bounds (a b : Nat) {f : Nat} (h : f ≤ 256) : min a b ≤ mix a b f ∧ mix a b f ≤ max a b := by
  obtain ⟨g, hg⟩ : ∃ g, 256 - f = g := ⟨_, rfl⟩
  have hsum : g + f = 256 := by omega
  have hlow : min a b * 256 ≤ a * g + b * f := by
    rw [← hsum, Nat.mul_add]
    exact Nat.add_le_add (Nat.mul_le_mul_right g (min_le_left a b)) (Nat.mul_le_mul_right f (min_le_right a b))
  have hhigh : a * g + b * f ≤ max a b * 256 := by
    rw [← hsum, Nat.mul_add]
    exact Nat.add_le_add (Nat.mul_le_mul_right g (le_max_left a b)) (Nat.mul_le_mul_right f (le_max_right a b))
  unfold mix
  rw [hg]
  omega

theorem mix_zero (a b : Nat) : mix a b 0 = a := by
  unfold mix
  omega

theorem mix_self (a : Nat) {f : Nat} (h : f ≤ 256) : mix a a f = a := by
  obtain ⟨hlow, hhigh⟩ := mix_bounds a a h
  rw [min_self] at hlow
  rw [max_self] at hhigh
  exact le_antisymm hhigh hlow

theorem toNat_byteOf {n : Nat} (h : n < 256) : (byteOf n).toNat = n :=
  (BitVec.toNat_ofNat ..).trans (Nat.mod_eq_of_lt h)

/-- Both passes stay within a byte. -/
theorem toNat_mixFour (a b c d : Byte) {fx fy : Nat} (hx : fx < 256) (hy : fy < 256) : (mixFour a b c d fx fy).toNat =
    mix (mix a.toNat b.toNat fx) (mix c.toNat d.toNat fx) fy := by
  refine toNat_byteOf ?_
  have hupper := (mix_bounds a.toNat b.toNat (Nat.le_of_lt hx)).2
  have hlower := (mix_bounds c.toNat d.toNat (Nat.le_of_lt hx)).2
  have hboth := (mix_bounds (mix a.toNat b.toNat fx) (mix c.toNat d.toNat fx) (Nat.le_of_lt hy)).2
  have := a.isLt
  have := b.isLt
  have := c.isLt
  have := d.isLt
  omega

/-! ### Pixels (R66, R67, R69, R71) -/

theorem expandPixel_565 (bytes : List Byte) :
    let w := (half bytes 0).toNat
    let c := expandPixel .rgb565 bytes
    c.r.toNat = 8 * (w / 2048) + w / 2048 / 4 ∧ c.g.toNat = 4 * (w / 32 % 64) + w / 32 % 64 / 16 ∧
    c.b.toNat = 8 * (w % 32) + w % 32 / 4 := by
  intro w c
  have hw : w < 65536 := (half bytes 0).isLt
  exact ⟨toNat_byteOf (by omega), toNat_byteOf (by omega), toNat_byteOf (by omega)⟩

theorem reduce6_toNat (c : Byte) : (reduce6 c).toNat = min 63 ((c.toNat + 2) / 4) := toNat_byteOf (by omega)

theorem scalerSource_none {s : State} {f : TxFrame}
    (h : f.content = .background ∨ f.slot = none ∨ f.route.source = none) : s.scalerSource f = none := by
  unfold State.scalerSource
  obtain h | h | h := h
  · rw [h]
  · rw [h]
    cases f.content <;> rfl
  · rw [h]
    cases f.content <;> cases f.slot <;> rfl

theorem scalerSource_some {s : State} {f : TxFrame} {ref : SlotRef} {p : Placement} {r : Stream}
    (hcontent : f.content ≠ .background) (hslot : f.slot = some ref) (hsource : f.route.source = some p)
    (hr : s.stream ref.stream = some r) : s.scalerSource f = some (⟨s.store, s.slotSegments ref, r.config,
      if f.content = .fallback then ⟨0, 0, r.config.width, r.config.height⟩ else p.window, p.dest.w, p.dest.h⟩,
      p.dest) := by
  unfold State.scalerSource
  rw [hslot, hsource]
  cases hc : f.content with
  | background => exact absurd hc hcontent
  | live => dsimp only; rw [hr]
  | repeated => dsimp only; rw [hr]
  | frozen => dsimp only; rw [hr]
  | fallback => dsimp only; rw [hr]

theorem framePixel_outside {q : ScalerSource} {d : Rect} {x y : Nat}
    (h : x < d.x ∨ d.x + d.w ≤ x ∨ y < d.y ∨ d.y + d.h ≤ y) (background : Colour) :
    framePixel (some (q, d)) background x y = background := if_neg (by omega)

theorem framePixel_inside {q : ScalerSource} {d : Rect} {i j : Nat} (hi : i < d.w) (hj : j < d.h) (background : Colour) :
    framePixel (some (q, d)) background (d.x + i) (d.y + j) = q.scaled i j := by
  refine (if_pos (by omega)).trans ?_
  rw [Nat.add_sub_cancel_left, Nat.add_sub_cancel_left]

/-! ### Rows of equal parts -/

section
variable {α : Type} {f : Nat → List α} {m : Nat}

theorem length_flatten_rows (hf : ∀ k, (f k).length = m) (n : Nat) : (((List.range n).map f).flatten).length = n * m := by
  induction n with
  | zero => simp
  | succ n ih => rw [List.range_succ, List.map_append, List.flatten_append, List.length_append, ih]; simp [hf, Nat.succ_mul]

/-- Where part k of a row stands. -/
theorem getD_flatten_rows (hf : ∀ k, (f k).length = m) {n k c : Nat} (hk : k < n) (hc : c < m) (d : α) :
    (((List.range n).map f).flatten).getD (k * m + c) d = (f k).getD c d := by
  induction n with
  | zero => cases hk
  | succ n ih =>
    have hlength := length_flatten_rows hf n
    rw [List.range_succ, List.map_append, List.flatten_append]
    simp only [List.map_cons, List.map_nil, List.flatten_cons, List.flatten_nil, List.append_nil]
    by_cases hlast : k < n
    · have hinside : k * m + c < n * m := by
        have := Nat.mul_le_mul_right m hlast
        rw [Nat.succ_mul] at this
        omega
      rw [List.getD_append _ _ _ _ (by rw [hlength]; exact hinside), ih hlast]
    · obtain rfl : k = n := by omega
      rw [List.getD_append_right _ _ _ _ (by rw [hlength]; exact Nat.le_add_right ..), hlength, Nat.add_sub_cancel_left]
end

/-- A row of pixels in bytes. -/
theorem length_pixelRow (g : Nat → Colour) (n : Nat) :
    (((List.range n).map (fun i => (g i).bytes)).flatten).length = n * 3 :=
  length_flatten_rows (f := fun i => (g i).bytes) (m := 3) (fun _ => rfl) n

theorem byteAt_pixelRow (g : Nat → Colour) {n i c : Nat} (hi : i < n) (hc : c < 3) :
    byteAt (((List.range n).map (fun i => (g i).bytes)).flatten) (i * 3 + c) = byteAt (g i).bytes c :=
  getD_flatten_rows (f := fun i => (g i).bytes) (m := 3) (fun _ => rfl) hi hc 0

/-! ### The safety window (R180) -/

theorem windowBytes_length (s : State) (f : TxFrame) (r : Rect) : (s.windowBytes f r).length = r.w * r.h * 3 := by
  have hrow (j : Nat) : (((List.range r.w).map (fun i => (s.sentPixel f (r.x + i) (r.y + j)).bytes)).flatten).length =
      r.w * 3 := length_pixelRow (fun i => s.sentPixel f (r.x + i) (r.y + j)) r.w
  rw [State.windowBytes, length_flatten_rows hrow]
  ring

theorem byteAt_windowBytes (s : State) (f : TxFrame) (r : Rect) {i j c : Nat} (hi : i < r.w) (hj : j < r.h) (hc : c < 3) :
    byteAt (s.windowBytes f r) ((j * r.w + i) * 3 + c) = byteAt (s.sentPixel f (r.x + i) (r.y + j)).bytes c := by
  have hrow (j : Nat) : (((List.range r.w).map (fun i => (s.sentPixel f (r.x + i) (r.y + j)).bytes)).flatten).length =
      r.w * 3 := length_pixelRow (fun i => s.sentPixel f (r.x + i) (r.y + j)) r.w
  have hat : (j * r.w + i) * 3 + c = j * (r.w * 3) + (i * 3 + c) := by ring
  rw [hat, byteAt, State.windowBytes, getD_flatten_rows hrow hj (by omega)]
  exact byteAt_pixelRow (fun i => s.sentPixel f (r.x + i) (r.y + j)) hi hc

/-! ### Packed bits (R212) -/

/-- The number that bits make, the first one most significant. -/
def bitsValue (b : Nat → Bool) (n : Nat) : Nat := (List.range n).foldl (fun v i => 2 * v + if b i then 1 else 0) 0

theorem bitsValue_succ (b : Nat → Bool) (n : Nat) :
    bitsValue b (n + 1) = 2 * bitsValue b n + if b n then 1 else 0 := by
  rw [bitsValue, List.range_succ, List.foldl_append]
  rfl

theorem testBit_bitsValue (b : Nat → Bool) {n j : Nat} (h : j < n) : (bitsValue b n).testBit (n - 1 - j) = b j := by
  induction n with
  | zero => cases h
  | succ n ih =>
    rw [bitsValue_succ]
    by_cases hj : j = n
    · subst hj
      rw [Nat.add_sub_cancel, Nat.sub_self, Nat.testBit_zero]
      cases b j <;> simp
    · have hshift : n + 1 - 1 - j = (n - 1 - j) + 1 := by omega
      have hhalf : (2 * bitsValue b n + if b n then 1 else 0) / 2 = bitsValue b n := by
        split <;> omega
      rw [hshift, Nat.testBit_succ, hhalf]
      exact ih (by omega)

theorem packBits_length (bits : List Bool) : (packBits bits).length = (bits.length + 7) / 8 := by
  rw [packBits, List.length_map, List.length_range]

theorem byteAt_packBits {bits : List Bool} {k : Nat} (h : k < (bits.length + 7) / 8) :
    byteAt (packBits bits) k = byteOf (bitsValue (fun i => bits.getD (8 * k + i) false) 8) := by
  rw [byteAt, packBits, List.getD_eq_getElem _ _ (by simpa using h), List.getElem_map, List.getElem_range]
  rfl

/-- Bit i of a packed string, counted from the most significant bit of its first byte. -/
theorem getLsbD_packBits {bits : List Bool} {i : Nat} (h : i < 8 * (packBits bits).length) :
    (byteAt (packBits bits) (i / 8)).getLsbD (7 - i % 8) = bits.getD i false := by
  rw [packBits_length] at h
  have hbit := testBit_bitsValue (fun j => bits.getD (8 * (i / 8) + j) false) (n := 8) (j := i % 8) (by omega)
  rw [byteAt_packBits (by omega), byteOf, BitVec.getLsbD_ofNat]
  rw [Nat.div_add_mod] at hbit
  have hlow : 7 - i % 8 < 8 := by omega
  rw [decide_eq_true hlow, Bool.true_and]
  exact hbit

/-- The packed bits of a pixel of 18 bits. -/
def pixelBits (c : Colour) : List Bool := sixBits c.r ++ sixBits c.g ++ sixBits c.b

theorem getD_sixBits (c : Byte) {i : Nat} (h : i < 6) : (sixBits c).getD i false = c.getLsbD (5 - i) := by
  interval_cases i <;> rfl

theorem getD_pixelBits (c : Colour) {i : Nat} (h : i < 18) :
    (pixelBits c).getD i false = (byteAt c.bytes (i / 6)).getLsbD (5 - i % 6) := by
  interval_cases i <;> rfl

/-! ### The lines on the link (R127, R128, R212) -/

section
variable {s : State} {l : Fin 4} {f : TxFrame}

theorem linesOnLink_none (h : (s.link l).sending = none) : s.linesOnLink l = [] := by
  rw [State.linesOnLink, h]

theorem linesOnLink_some (h : (s.link l).sending = some f) :
    s.linesOnLink l = (List.range f.lines).map (fun k => s.lineOnLink f (f.firstLine + k)) := by
  rw [State.linesOnLink, h]

/-- The pixels of line y as they are sent. -/
def State.sentLine (s : State) (f : TxFrame) (y : Nat) : List Byte :=
  linePixels f.tier ((List.range f.timing.hActive).map (fun x => s.sentPixel f x y))

theorem lineOnLink_eq (s : State) (f : TxFrame) (y : Nat) : s.lineOnLink f y =
    withCrc16 ([0x12, byteOf f.mark.code] ++ halfOf y ++ halfOf f.timing.hActive) ++ s.sentLine f y := rfl

theorem sentLine_full (h : f.tier = .t24) (y : Nat) :
    s.sentLine f y = ((List.range f.timing.hActive).map (fun x => (s.sentPixel f x y).bytes)).flatten := by
  rw [State.sentLine, h]
  exact congrArg List.flatten (List.map_map ..)

theorem sentLine_packed (h : f.tier = .t18 ∨ f.tier = .talt) (y : Nat) : s.sentLine f y =
    packBits (((List.range f.timing.hActive).map (fun x => pixelBits (s.sentPixel f x y))).flatten) := by
  unfold State.sentLine
  obtain h | h := h
  all_goals
    rw [h]
    exact congrArg (fun bits : List (List Bool) => packBits bits.flatten) (List.map_map ..)

theorem length_bitRow (g : Nat → Colour) (n : Nat) :
    (((List.range n).map (fun i => pixelBits (g i))).flatten).length = n * 18 :=
  length_flatten_rows (f := fun i => pixelBits (g i)) (m := 18) (fun _ => rfl) n

theorem getD_bitRow (g : Nat → Colour) (n i : Nat) :
    (((List.range n).map (fun i => pixelBits (g i))).flatten).getD i false =
      (decide (i < n * 18) && (byteAt (g (i / 18)).bytes (i % 18 / 6)).getLsbD (5 - i % 6)) := by
  by_cases h : i < n * 18
  · have hat := getD_flatten_rows (f := fun i => pixelBits (g i)) (m := 18) (fun _ => rfl)
      (show i / 18 < n by omega) (Nat.mod_lt i (by decide : 0 < 18)) false
    rw [Nat.mul_comm, Nat.div_add_mod, getD_pixelBits _ (Nat.mod_lt i (by decide : 0 < 18))] at hat
    rw [hat, decide_eq_true h, Bool.true_and, Nat.mod_mod_of_dvd i (by decide : 6 ∣ 18)]
  · rw [List.getD_eq_default _ _ (by rw [length_bitRow]; omega), decide_eq_false h, Bool.false_and]

theorem packedLine_length (h : f.tier = .t18 ∨ f.tier = .talt) (y : Nat) :
    (s.sentLine f y).length = (f.timing.hActive * 18 + 7) / 8 := by
  rw [sentLine_packed h, packBits_length, length_bitRow (fun x => s.sentPixel f x y)]

theorem packedLine_bit (h : f.tier = .t18 ∨ f.tier = .talt) (y : Nat) {i : Nat} (hi : i < 8 * (s.sentLine f y).length) :
    (byteAt (s.sentLine f y) (i / 8)).getLsbD (7 - i % 8) = (decide (i < f.timing.hActive * 18) &&
      (byteAt (s.sentPixel f (i / 18) y).bytes (i % 18 / 6)).getLsbD (5 - i % 6)) := by
  rw [sentLine_packed h] at hi ⊢
  rw [getLsbD_packBits hi]
  exact getD_bitRow (fun x => s.sentPixel f x y) f.timing.hActive i
end

/-- Settles O33. -/
theorem scalerArithmetic : Obligations.ScalerArithmetic := by
  unfold Obligations.ScalerArithmetic
  intro checked two components
  refine ⟨fun step start len i h => ⟨rfl, axisSample_bounds step start i h⟩, fun start len i h => axisSample_copy start h,
    fun a b f => rfl, fun a b f h => ⟨(mix_bounds a b h).1, (mix_bounds a b h).2, mix_zero a b, mix_self a h⟩,
    fun bytes => ⟨rfl, expandPixel_565 bytes⟩, fun q x y => ?pixel, fun q i j => ?scaled, reduce6_toNat,
    fun s f => ⟨scalerSource_none, fun ref p r => scalerSource_some, fun x y => ?depth⟩,
    fun q d background x y => ⟨fun h => framePixel_outside h background, fun i j hi hj => framePixel_inside hi hj background⟩,
    fun background x y => rfl,
    fun s f r => ⟨windowBytes_length s f r, fun i j c hi hj hc => byteAt_windowBytes s f r hi hj hc⟩,
    fun s l => linesOnLink_none, fun s l f h => ?lines⟩
  case pixel =>
    intro n
    have hbytes : q.config.format.bytes = n := by
      change _ = if q.config.format = .rgb888 then 3 else 2
      cases q.config.format <;> rfl
    rw [ScalerSource.pixel, hbytes]
    rfl
  case scaled =>
    exact ⟨toNat_mixFour _ _ _ _ (axisSample_weight ..) (axisSample_weight ..),
      toNat_mixFour _ _ _ _ (axisSample_weight ..) (axisSample_weight ..),
      toNat_mixFour _ _ _ _ (axisSample_weight ..) (axisSample_weight ..)⟩
  case depth =>
    intro c
    refine ⟨fun h => ?_, fun h => ?_⟩
    · rw [State.sentPixel, h]
      rfl
    · rw [State.sentPixel]
      obtain h | h := h <;> rw [h] <;> rfl
  case lines =>
    rw [linesOnLink_some h]
    refine ⟨by rw [List.length_map, List.length_range], fun k hk => ?_⟩
    intro y n part mark
    refine ⟨s.sentLine f y, ?_, fun hfull => ?full, fun hpacked => ⟨packedLine_length hpacked y, fun i =>
      packedLine_bit hpacked y⟩⟩
    · have hmark : byteOf f.mark.code = mark := by
        change _ = (match f.mark with
          | .whole => 0
          | .first => 1
          | .second => 2 : Byte)
        cases f.mark <;> rfl
      rw [List.getElem?_map, List.getElem?_range hk, Option.map_some, lineOnLink_eq, hmark]
      rfl
    · rw [sentLine_full hfull]
      exact ⟨length_pixelRow (fun x => s.sentPixel f x y) n, fun x c hx hc =>
        byteAt_pixelRow (fun x => s.sentPixel f x y) hx hc⟩

end Sys2Proof.Machine
end

section
/-! PROOF of SetModeRunAndStandby (O14). -/

namespace Sys2Proof.Machine

open Sys2Proof.Claims

/-! ### No time passes -/

theorem runDown_zero (t : Timer) : runDown 0 t = t := by
  cases t <;> rfl

theorem Stream.elapse_zero (r : Stream) : r.elapse 0 = r := by
  unfold Stream.elapse
  cases h : r.state with
  | receiving f => exact congrArg (fun x => ({ r with state := x } : Stream)) h.symm
  | idle => rfl
  | fixed => rfl

theorem Output.elapse_zero (v : Output) : v.elapse 0 = v := by
  simp [Output.elapse]

theorem Search.elapse_zero (c : Search) : c.elapse 0 = c := by
  simp [Search.elapse, runDown_zero]

theorem Link.elapse_zero (v : Link) : v.elapse 0 = v := by
  have hsearch : v.search.map (Search.elapse 0) = v.search := by
    cases v.search with
    | none => rfl
    | some c => exact congrArg some (Search.elapse_zero c)
  simp [Link.elapse, runDown_zero, hsearch]

theorem Channel.elapse_zero (v : Channel) : v.elapse 0 = v := by
  simp [Channel.elapse, runDown_zero]

theorem elapse_zero (s : State) : s.elapse 0 = s := by
  have hstreams : s.streams.map (Option.map (Stream.elapse 0)) = s.streams := by
    rw [show Stream.elapse 0 = id from funext Stream.elapse_zero, Option.map_id]
    rfl
  have houtputs : s.outputs.map (Output.elapse 0) = s.outputs := by
    rw [show Output.elapse 0 = id from funext Output.elapse_zero]
    rfl
  have hlinks : s.links.map (Link.elapse 0) = s.links := by
    rw [show Link.elapse 0 = id from funext Link.elapse_zero]
    rfl
  have hchannels : s.channels.map (Channel.elapse 0) = s.channels := by
    rw [show Channel.elapse 0 = id from funext Channel.elapse_zero]
    rfl
  simp [State.elapse, runDown_zero, hstreams, houtputs, hlinks, hchannels]

/-- A vertical start that is due at once. -/
theorem exec_verticalStart_now {s : State} {o : Fin 4} (hrunning : (s.output o).state.running = true)
    (hnow : (s.output o).untilStart = ⟨0, 1⟩) : exec (.verticalStart o) s = .next (s.verticalStart o) := by
  refine congrArg Host.Outcome.next ?_
  rw [startTimer_of_running hrunning, hnow, onExpiry_some]
  exact congrArg (fun u : State => u.verticalStart o) (elapse_zero s)

/-! ### What sending a frame posts -/

/-- A change that posts nothing posts INTEGRITY at most. -/
theorem counted_noIntegrity {n : Nat} {s t : State} (hmode : t.mode = s.mode) (hmask : t.mask = s.mask)
    (hnotices : t.notices = s.notices) : ∃ c : Prop, Counted n (fun k => k = .integrity ∧ c) s t :=
  ⟨False, (Counted.none n hmode hmask hnotices).congr fun k => by simp⟩

theorem integrityStep_counts (s : State) (o : Fin 4) (e : IntegrityStep) :
    ∃ c : Prop, Counted o.val (fun k => k = .integrity ∧ c) s (s.integrityStep o e) := by
  unfold State.integrityStep
  dsimp only
  split
  next c p hc hp =>
    exact ⟨(c.step p e).2 = true, (Counted.ofPostIf ((c.step p e).2 = true) (s.setOutput o { s.output o with
      context := some (c.step p e).1, comparisons := (s.output o).comparisons.count e }) .integrity o.val).after_none
      (.none _ rfl rfl rfl)⟩
  next => exact counted_noIntegrity rfl rfl rfl

theorem pushCrc_counts (s : State) (o : Fin 4) (seq : Half) (crc : Word) :
    ∃ c : Prop, Counted o.val (fun k => k = .integrity ∧ c) s (s.pushCrc o seq crc) := by
  cases hc : (s.output o).context with
  | none =>
    rw [pushCrc_none seq crc hc]
    exact counted_noIntegrity rfl rfl rfl
  | some c =>
    rw [pushCrc_some seq crc hc]
    dsimp only
    split
    · obtain ⟨posted, hstep⟩ := integrityStep_counts (s.setOutput o { s.output o with
        context := some (c.pushed seq crc) }) o .missing
      exact ⟨posted, hstep.after_none (.none _ rfl rfl rfl)⟩
    · exact counted_noIntegrity rfl rfl rfl

/-- Sending a frame posts INTEGRITY at most. -/
theorem sendFrame_counts (s : State) (o : Fin 4) (odd : Bool) :
    ∃ c : Prop, Counted o.val (fun k => k = .integrity ∧ c) s (s.sendFrame o odd) := by
  unfold State.sendFrame
  split
  next mark t hmark ht =>
    by_cases hplain : mark = .second ∨ (s.output o).context = none ∨ (s.output o).route.safety = none
    · rw [sendMarked_plain hplain]
      exact counted_noIntegrity rfl rfl rfl
    · obtain ⟨hsecond, hc, hp⟩ : mark ≠ .second ∧ (s.output o).context ≠ none ∧ (s.output o).route.safety ≠ none := by
        simpa only [not_or] using hplain
      obtain ⟨c, hc⟩ := Option.ne_none_iff_exists'.mp hc
      obtain ⟨p, hp⟩ := Option.ne_none_iff_exists'.mp hp
      rw [sendMarked_recorded hsecond hc hp]
      obtain ⟨posted, hpush⟩ := pushCrc_counts (s.setLink o (s.linkSending o t mark)) o ((s.link o).txSeq + 1)
        (crc32 (s.windowBytes (s.frameSent o t mark) p.window))
      exact ⟨posted, hpush.after_none (.none _ rfl rfl rfl)⟩
  next => exact counted_noIntegrity rfl rfl rfl

/-! ### The first start of an output -/

section
variable {s : State} {o : Fin 4}

theorem verticalStart_modeChanged (hok : NoticesOk s) : NoticesOk (s.verticalStart o) ∧
    countOf (s.verticalStart o).notices .modeChanged 0 = countOf s.notices .modeChanged 0 := by
  have hheld := (startHeld_posts s o).counts
  obtain ⟨c, hsent⟩ := sendFrame_counts (s.startHeld o) o (decide ((s.output o).starts.toNat % 2 = 1))
  rw [verticalStart_eq]
  refine ⟨hsent.ok (hheld.ok hok), (hsent.kept (hheld.ok hok) .modeChanged 0 fun h => ?_).trans
    (hheld.kept hok .modeChanged 0 fun h => ?_)⟩
  · cases h.1.1
  · cases h.1

theorem holdOnStatic_starts (v : Output) (applied : Bool) : (v.holdOnStatic applied).starts = v.starts := by
  unfold Output.holdOnStatic
  cases v.state <;> rfl

theorem shownOutput_fields (s : State) (o : Fin 4) : (s.shownOutput o).state = (s.startOutput o).state ∧
    (s.shownOutput o).starts = (s.startOutput o).starts := by
  obtain ⟨lines, span, lock, good, bad, error, context, hready⟩ := startReady_output s o
  unfold State.shownOutput
  dsimp only
  rw [hready]
  split <;> exact ⟨rfl, rfl⟩

theorem startOutput_starts (s : State) (o : Fin 4) : (s.startOutput o).starts = (s.output o).starts + 1 := by
  unfold State.startOutput
  dsimp only
  split <;> rfl

theorem heldOutput_fields (h : (s.output o).state.running = true) :
    (s.heldOutput o).starts = (s.output o).starts + 1 ∧ (s.heldOutput o).state.running = true := by
  obtain ⟨hstate, hstarts⟩ := shownOutput_fields s o
  have hrunning : (s.shownOutput o).state.running = true := by
    rw [hstate]
    exact startOutput_running h
  obtain ⟨-, -, -, -, -, hheld⟩ := holdOnStatic_fields (s.shownOutput o)
    (!(s.output o).skipsStart && (s.output o).stagedRoute.isSome)
  have hkept := holdOnStatic_starts (s.shownOutput o) (!(s.output o).skipsStart && (s.output o).stagedRoute.isSome)
  rw [← startOutput_starts, ← hstarts]
  unfold State.heldOutput
  dsimp only
  split
  · exact ⟨hkept, hheld.trans hrunning⟩
  · exact ⟨rfl, hrunning⟩

theorem verticalStart_output (h : (s.output o).state.running = true) :
    ((s.verticalStart o).output o).starts = (s.output o).starts + 1 ∧
    ((s.verticalStart o).output o).state.running = true := by
  obtain ⟨w, honly, _⟩ := sendFrame_integrityOnly (s.startHeld o) o (decide ((s.output o).starts.toNat % 2 = 1))
  obtain ⟨context, comparisons, hout⟩ := honly.output
  have hheld : ((s.startHeld o).setLink o w).output o = s.heldOutput o := (startHeld_posts s o).output
  rw [verticalStart_eq, hout, hheld]
  exact heldOutput_fields h

end

/-! ### Visits to the outputs -/

/-- Each of four visits finds its number as it stood before all of them, and what it makes of it stays. -/
theorem forEach_visits {R : Fin 4 → State → State → Prop} {f : Fin 4 → State → State} (refl : ∀ n s, R n s s)
    (trans : ∀ n s t u, R n s t → R n t u → R n s u) (away : ∀ n m s, m ≠ n → R m s (f n s)) {n : Fin 4}
    {l : List (Fin 4)} (hl : l.Nodup) (hn : n ∈ l) (s : State) : ∃ x, R n s x ∧ R n (f n x) (forEach l f s) := by
  have hrest {l : List (Fin 4)} (h : n ∉ l) (s : State) : R n s (forEach l f s) := by
    induction l generalizing s with
    | nil => exact refl n s
    | cons a l ih =>
      obtain ⟨ha, hl⟩ := not_or.mp (mt List.mem_cons.mpr h)
      exact trans _ _ _ _ (away a n s ha) (ih hl (f a s))
  induction l generalizing s with
  | nil => cases hn
  | cons a l ih =>
    obtain ⟨ha, hl⟩ := List.nodup_cons.mp hl
    by_cases hsame : n = a
    · subst hsame
      exact ⟨s, refl n s, hrest ha (f n s)⟩
    · obtain ⟨x, hx, hend⟩ := ih hl ((List.mem_cons.mp hn).resolve_left hsame) (f a s)
      exact ⟨x, trans _ _ _ _ (away a n s hsame) hx, hend⟩

theorem forEach_allFour_visits {R : Fin 4 → State → State → Prop} {f : Fin 4 → State → State} (refl : ∀ n s, R n s s)
    (trans : ∀ n s t u, R n s t → R n t u → R n s u) (away : ∀ n m s, m ≠ n → R m s (f n s)) (n : Fin 4) (s : State) :
    ∃ x, R n s x ∧ R n (f n x) (forEach allFour f s) :=
  forEach_visits refl trans away (by decide) (by fin_cases n <;> decide) s

/-- Output o and its link stand as before. -/
def SameOutput (o : Fin 4) (s t : State) : Prop := t.output o = s.output o ∧ t.link o = s.link o

theorem StartOnly.away {n m : Fin 4} {s t : State} (h : StartOnly n s t) (hm : m ≠ n) : SameOutput m s t := by
  obtain ⟨v, w, ns, rfl⟩ := h
  exact ⟨Four.get_set_ne _ _ _ _ hm, Four.get_set_ne _ _ _ _ hm⟩

/-- A change of outputs, links and the Notice Table alone. -/
def StartsOnly (s t : State) : Prop := ∃ os ls ns, t = { s with outputs := os, links := ls, notices := ns }

theorem StartOnly.startsOnly {o : Fin 4} {s t : State} (h : StartOnly o s t) : StartsOnly s t := by
  obtain ⟨v, w, ns, rfl⟩ := h
  exact ⟨_, _, ns, rfl⟩

theorem StartsOnly.trans {s t u : State} (h : StartsOnly s t) (g : StartsOnly t u) : StartsOnly s u := by
  obtain ⟨os, ls, ns, rfl⟩ := h
  obtain ⟨os', ls', ns', rfl⟩ := g
  exact ⟨os', ls', ns', rfl⟩

theorem toRun_startsOnly (s : State) : StartsOnly { s with mode := .run } s.toRun := by
  obtain ⟨ns, hpost⟩ := post_eq { s with mode := .run } .modeChanged 0
  have hchange : StartsOnly { s with mode := .run } (s.changeMode .run) := ⟨s.outputs, s.links, ns, hpost⟩
  exact hchange.trans (forEach_keeps (R := StartsOnly) (fun s => ⟨s.outputs, s.links, s.notices, rfl⟩)
    (fun _ _ _ => StartsOnly.trans) (fun o s => (outputToRun_only s o).startsOnly) allFour (s.changeMode .run))

section
variable {s : State} {o : Fin 4}

theorem outputToRun_hold (h : (s.output o).state = .hold) :
    s.outputToRun o = s.setOutput o { s.output o with state := .scanning, unchanged := 0 } := by
  rw [State.outputToRun, h]
  rfl

/-- An output as its raster begins. -/
def Output.begun (v : Output) (state : OutputState) : Output :=
  { v with state := state, starts := 0, unchanged := 0, untilStart := ⟨0, 1⟩ }

theorem outputToRun_suspended_scanning (h : (s.output o).state = .suspended .scanning) :
    s.outputToRun o = (s.setOutput o ((s.output o).begun .scanning)).verticalStart o := by
  rw [State.outputToRun, h]
  rfl

theorem outputToRun_suspended_paused (h : (s.output o).state = .suspended .paused) :
    s.outputToRun o = (s.setOutput o ((s.output o).begun .paused)).verticalStart o := by
  rw [State.outputToRun, h]
  rfl

theorem outputToRun_other (h : (s.output o).state = .off ∨ (s.output o).state = .scanning ∨ (s.output o).state = .paused) :
    s.outputToRun o = s := by
  unfold State.outputToRun
  obtain h | h | h := h <;> rw [h]
end

/-- What becomes of output o at a change to RUN. -/
theorem outputToRun_at (s : State) (o : Fin 4) : match (s.output o).state with
    | .hold => (s.outputToRun o).output o = { s.output o with state := .scanning, unchanged := 0 } ∧
        (s.outputToRun o).link o = s.link o
    | .suspended _ => ((s.outputToRun o).output o).starts = 1 ∧ ((s.outputToRun o).output o).state.running = true
    | .off => SameOutput o s (s.outputToRun o)
    | .scanning => SameOutput o s (s.outputToRun o)
    | .paused => SameOutput o s (s.outputToRun o) := by
  have hbegun (state : OutputState) (h : state.running = true) :
      (((s.setOutput o ((s.output o).begun state)).verticalStart o).output o).starts = 1 ∧
      (((s.setOutput o ((s.output o).begun state)).verticalStart o).output o).state.running = true := by
    have hout : (s.setOutput o ((s.output o).begun state)).output o = (s.output o).begun state := output_setOutput ..
    obtain ⟨hstarts, hrunning⟩ := verticalStart_output (s := s.setOutput o ((s.output o).begun state)) (o := o)
      (by rw [hout]; exact h)
    rw [hstarts, hout]
    exact ⟨rfl, hrunning⟩
  cases hstate : (s.output o).state with
  | hold =>
    rw [outputToRun_hold hstate]
    exact ⟨output_setOutput .., rfl⟩
  | suspended resume =>
    cases resume with
    | scanning =>
      rw [outputToRun_suspended_scanning hstate]
      exact hbegun .scanning rfl
    | paused =>
      rw [outputToRun_suspended_paused hstate]
      exact hbegun .paused rfl
  | off =>
    rw [outputToRun_other (.inl hstate)]
    exact ⟨rfl, rfl⟩
  | scanning =>
    rw [outputToRun_other (.inr (.inl hstate))]
    exact ⟨rfl, rfl⟩
  | paused =>
    rw [outputToRun_other (.inr (.inr hstate))]
    exact ⟨rfl, rfl⟩

theorem changeMode_sameOutput (s : State) (m : Mode) (o : Fin 4) : SameOutput o s (s.changeMode m) := by
  obtain ⟨ns, hpost⟩ := post_eq { s with mode := m } .modeChanged 0
  rw [State.changeMode, hpost]
  exact ⟨rfl, rfl⟩

/-- Between the change of the mode and its end, output o and its link are changed by its own visit alone. -/
theorem toRun_visit (s : State) (o : Fin 4) :
    ∃ x, SameOutput o s x ∧ SameOutput o (x.outputToRun o) s.toRun := by
  obtain ⟨x, hx, hend⟩ := forEach_allFour_visits (R := SameOutput) (fun _ _ => ⟨rfl, rfl⟩)
    (fun _ _ _ _ h g => ⟨g.1.trans h.1, g.2.trans h.2⟩) (fun n m s hm => (outputToRun_only s n).away hm) o
    (s.changeMode .run)
  have hchange := changeMode_sameOutput s .run o
  exact ⟨x, ⟨hx.1.trans hchange.1, hx.2.trans hchange.2⟩, hend⟩

/-- No output is SUSPENDED. -/
def State.NoneSuspended (s : State) : Prop := ∀ o r, (s.output o).state ≠ .suspended r

/-- With no output SUSPENDED no vertical start comes, and nothing is posted. -/
theorem outputToRun_unsuspended {s : State} (h : s.NoneSuspended) (o : Fin 4) :
    (s.outputToRun o).notices = s.notices ∧ (s.outputToRun o).NoneSuspended := by
  have hset : (s.outputToRun o).notices = s.notices ∧ ∀ r, ((s.outputToRun o).output o).state ≠ .suspended r := by
    cases hstate : (s.output o).state with
    | hold =>
      rw [outputToRun_hold hstate, output_setOutput]
      exact ⟨rfl, fun r => nofun⟩
    | suspended r => exact absurd hstate (h o r)
    | off =>
      rw [outputToRun_other (.inl hstate)]
      exact ⟨rfl, h o⟩
    | scanning =>
      rw [outputToRun_other (.inr (.inl hstate))]
      exact ⟨rfl, h o⟩
    | paused =>
      rw [outputToRun_other (.inr (.inr hstate))]
      exact ⟨rfl, h o⟩
  refine ⟨hset.1, fun p => ?_⟩
  by_cases hp : p = o
  · exact hp ▸ hset.2
  · rw [((outputToRun_only s o).away hp).1]
    exact h p

theorem outputsToRun_unsuspended {s : State} (h : s.NoneSuspended) (l : List (Fin 4)) :
    (forEach l (fun o t => t.outputToRun o) s).notices = s.notices := by
  induction l generalizing s with
  | nil => rfl
  | cons o l ih =>
    obtain ⟨hnotices, hnone⟩ := outputToRun_unsuspended h o
    exact (ih hnone).trans hnotices

/-- MODE_CHANGED is not posted again by the outputs. -/
def SameModeChanged (s t : State) : Prop :=
  NoticesOk s → NoticesOk t ∧ countOf t.notices .modeChanged 0 = countOf s.notices .modeChanged 0

theorem outputToRun_modeChanged (s : State) (o : Fin 4) : SameModeChanged s (s.outputToRun o) := by
  intro hok
  have hbegun (state : OutputState) := verticalStart_modeChanged (s := s.setOutput o ((s.output o).begun state)) (o := o) hok
  cases hstate : (s.output o).state with
  | hold =>
    rw [outputToRun_hold hstate]
    exact ⟨hok, rfl⟩
  | suspended resume =>
    cases resume with
    | scanning =>
      rw [outputToRun_suspended_scanning hstate]
      exact hbegun .scanning
    | paused =>
      rw [outputToRun_suspended_paused hstate]
      exact hbegun .paused
  | off =>
    rw [outputToRun_other (.inl hstate)]
    exact ⟨hok, rfl⟩
  | scanning =>
    rw [outputToRun_other (.inr (.inl hstate))]
    exact ⟨hok, rfl⟩
  | paused =>
    rw [outputToRun_other (.inr (.inr hstate))]
    exact ⟨hok, rfl⟩

theorem toRun_modeChanged {s : State} (hok : NoticesOk s) : countOf s.toRun.notices .modeChanged 0 =
    if s.masked .modeChanged = true then countOf s.notices .modeChanged 0
    else min 255 (countOf s.notices .modeChanged 0 + 1) := by
  have hpost := Counted.ofPost { s with mode := .run } .modeChanged 0
  have hvisits := forEach_keeps (R := SameModeChanged) (fun s h => ⟨h, rfl⟩)
    (fun s t u h g hs => ⟨(g (h hs).1).1, ((g (h hs).1).2).trans (h hs).2⟩) (fun o s => outputToRun_modeChanged s o)
    allFour (s.changeMode .run) (hpost.ok hok)
  refine hvisits.2.trans ?_
  split
  next hmasked =>
    refine hpost.kept hok .modeChanged 0 fun h => ?_
    exact Bool.false_ne_true ((h.2.2.2 : s.masked .modeChanged = false).symm.trans hmasked)
  next hmasked => exact hpost.posted hok .modeChanged rfl (nofun : Mode.run ≠ .init) (Bool.eq_false_iff.mpr hmasked)

/-! ### SET_MODE -/

theorem post_notices (s : State) (k : NoticeKind) (o : Nat) : (s.post k o).notices =
    if s.mode = .init ∨ s.masked k = true then s.notices else raiseNotice k o s.notices := by
  unfold State.post
  split <;> rfl

theorem setModeHandler_run (s : State) : setModeHandler [2] s = (if s.mode = .run then s else s.toRun).done [] := rfl

theorem setModeHandler_standby (s : State) :
    setModeHandler [1] s = (if s.mode = .standby then s else s.toStandby).done [] := rfl

theorem setModeHandler_sleep (s : State) :
    setModeHandler [3] s = (if s.mode = .sleep then s else s.sleepEntry).done [] := rfl

theorem setModeHandler_unknown {mode : Byte} (h1 : mode ≠ 1) (h2 : mode ≠ 2) (h3 : mode ≠ 3) (s : State) :
    setModeHandler [mode] s = s.refuse .badArg := by
  have hone : mode.toNat ≠ 1 := fun h => h1 (byte_eq_of_toNat h)
  have htwo : mode.toNat ≠ 2 := fun h => h2 (byte_eq_of_toNat h)
  have hthree : mode.toNat ≠ 3 := fun h => h3 (byte_eq_of_toNat h)
  unfold setModeHandler
  split
  next h => exact absurd h hone
  next h => exact absurd h htwo
  next h => exact absurd h hthree
  next => rfl

theorem setModeHandler_toRun {s : State} (h : s.mode = .standby) : setModeHandler [2] s = s.toRun.done [] := by
  rw [setModeHandler_run, if_neg (show s.mode ≠ .run from h ▸ nofun)]

theorem setModeHandler_toStandby {s : State} (h : s.mode = .run) : setModeHandler [1] s = s.toStandby.done [] := by
  rw [setModeHandler_standby, if_neg (show s.mode ≠ .standby from h ▸ nofun)]

theorem exec_setModeRun {s : State} (h : s.mode = .standby) (dt : Nat) (tag : Byte) :
    exec (.setModeRun dt tag [2]) s = .next (replied (arrived s dt [2]).toRun .setMode tag .ok []) :=
  exec_of_handler (i := .setModeRun dt tag [2]) (k := .setMode) rfl (.inl h) rfl (setModeHandler_toRun h)

theorem toStandby_outputs_last (s : State) : s.toStandby =
    { ({ s with mode := .standby } : State).post .modeChanged 0 with outputs := s.outputs.map Output.toStandby } := by
  obtain ⟨ns, hpost⟩ := post_eq { s with mode := .standby } .modeChanged 0
  rw [State.toStandby, State.changeMode, hpost]

theorem Output.toStandby_eq (v : Output) : v.toStandby = match v.state with
    | .scanning => { v with state := .hold }
    | .hold => { v with state := .hold }
    | .paused => { v with state := .hold, unchanged := 0 }
    | .off => v
    | .suspended _ => v := by
  unfold Output.toStandby
  cases v.state <;> rfl

/-- What a visit to output o makes of state x at a change to RUN. -/
def RunVisit (o : Fin 4) (x y : State) : Prop :=
  match (x.output o).state with
  | .hold => y = x.setOutput o { x.output o with state := .scanning, unchanged := 0 }
  | .suspended .scanning => exec (.verticalStart o) (x.setOutput o ((x.output o).begun .scanning)) = .next y
  | .suspended .paused => exec (.verticalStart o) (x.setOutput o ((x.output o).begun .paused)) = .next y
  | .off => y = x
  | .scanning => y = x
  | .paused => y = x

theorem outputToRun_visit (s : State) (o : Fin 4) : RunVisit o s (s.outputToRun o) := by
  have hstart (state : OutputState) (h : state.running = true) :
      exec (.verticalStart o) (s.setOutput o ((s.output o).begun state)) =
        .next ((s.setOutput o ((s.output o).begun state)).verticalStart o) := by
    have hout : (s.setOutput o ((s.output o).begun state)).output o = (s.output o).begun state := output_setOutput ..
    exact exec_verticalStart_now (by rw [hout]; exact h) (by rw [hout]; rfl)
  unfold RunVisit
  cases hstate : (s.output o).state with
  | hold => exact outputToRun_hold hstate
  | suspended resume =>
    cases resume with
    | scanning =>
      rw [outputToRun_suspended_scanning hstate]
      exact hstart .scanning rfl
    | paused =>
      rw [outputToRun_suspended_paused hstate]
      exact hstart .paused rfl
  | off => exact outputToRun_other (.inl hstate)
  | scanning => exact outputToRun_other (.inr (.inl hstate))
  | paused => exact outputToRun_other (.inr (.inr hstate))

/-- What becomes of output o and its link between a state and the end of its change to RUN. -/
theorem toRun_at (s : State) (o : Fin 4) : match (s.output o).state with
    | .hold => s.toRun.output o = { s.output o with state := .scanning, unchanged := 0 } ∧ s.toRun.link o = s.link o
    | .suspended _ => (s.toRun.output o).starts = 1 ∧ (s.toRun.output o).state.running = true
    | .off => SameOutput o s s.toRun
    | .scanning => SameOutput o s s.toRun
    | .paused => SameOutput o s s.toRun := by
  obtain ⟨x, ⟨houtput, hlink⟩, ⟨hendOutput, hendLink⟩⟩ := toRun_visit s o
  have hvisit := outputToRun_at x o
  unfold SameOutput at hvisit ⊢
  rwa [houtput, hlink, ← hendOutput, ← hendLink] at hvisit

/-- Settles O14. -/
theorem setModeRunAndStandby : Obligations.SetModeRunAndStandby := by
  unfold Obligations.SetModeRunAndStandby
  refine ⟨fun s dt tag => ⟨fun hmode => ?run, fun hmode => ?standby⟩, fun i s dt tag mode hi hs h1 h2 h3 =>
    exec_of_handler (k := .setMode) hi hs rfl (setModeHandler_unknown h1 h2 h3 _), fun s dt tag hmode => ?toStandby,
    fun s dt tag hmode => ?toRun, fun s dt tag hmode => ?steps⟩
  case run =>
    have hhandler : setModeHandler [2] (arrived s dt [2]) = (arrived s dt [2]).done [] := by
      rw [setModeHandler_run, if_pos (show (arrived s dt [2]).mode = .run from hmode)]
    exact exec_of_handler (i := .setModeRun dt tag [2]) (k := .setMode) rfl (.inr hmode) rfl hhandler
  case standby =>
    have hhandler : setModeHandler [1] (arrived s dt [1]) = (arrived s dt [1]).done [] := by
      rw [setModeHandler_standby, if_pos (show (arrived s dt [1]).mode = .standby from hmode)]
    exact exec_of_handler (i := .setModeStandby dt tag [1]) (k := .setMode) rfl (.inl hmode) rfl hhandler
  case toStandby =>
    refine (exec_of_handler (i := .setModeStandby dt tag [1]) (k := .setMode) rfl (.inr hmode) rfl
      (setModeHandler_toStandby (s := arrived s dt [1]) hmode)).trans ?_
    rw [toStandby_outputs_last, funext Output.toStandby_eq]
    rfl
  case toRun =>
    obtain ⟨os, ls, ns, honly⟩ := toRun_startsOnly (arrived s dt [2])
    have hstate (o : Fin 4) : ((arrived s dt [2]).output o).state = (s.output o).state :=
      (congrArg Output.state (output_elapse s dt o) :)
    refine ⟨_, exec_setModeRun hmode dt tag, congrArg State.mode honly, rfl, congrArg State.wakeWindow honly,
      (congrArg State.streams honly :), (congrArg State.store honly :), (congrArg State.segments honly :),
      (congrArg State.channels honly :), (congrArg State.aliases honly :), (congrArg State.mask honly :), fun o => ?_, fun hnone => ?_,
      fun hok => toRun_modeChanged (s := arrived s dt [2]) hok⟩
    · have hat := toRun_at (arrived s dt [2]) o
      rw [hstate o] at hat
      exact hat
    · have hunsuspended : ((arrived s dt [2]).changeMode .run).NoneSuspended := fun o r => by
        rw [(changeMode_sameOutput (arrived s dt [2]) .run o).1, hstate]
        exact hnone o r
      refine (outputsToRun_unsuspended hunsuspended allFour).trans ?_
      rw [State.changeMode, post_notices, post_notices]
      rfl
  case steps =>
    exact ⟨_, _, _, _, outputToRun_visit _ 0, outputToRun_visit _ 1, outputToRun_visit _ 2, outputToRun_visit _ 3,
      exec_setModeRun hmode dt tag⟩

end Sys2Proof.Machine
end

section
/-! PROOF of WakeFromSleep (O16). -/

namespace Sys2Proof.Machine

open Sys2Proof.Claims

/-! ### A channel wakes (R174) -/

section
variable {s : State} {c : Fin 4}

theorem channelWake_lit (h : (s.channel c).state ≠ .off) : s.channelWake c = s := if_pos h

theorem channelWake_latched (hoff : (s.channel c).state = .off) (h : (s.channel c).latched = true) :
    s.channelWake c = (s.modChannel c (fun v => v.settle .fault)).postPower c :=
  (if_neg (not_not.mpr hoff)).trans (if_pos h)

theorem channelWake_unwilling (hoff : (s.channel c).state = .off) (hl : (s.channel c).latched = false)
    (h : (s.channel c).intent = false) : s.channelWake c = s :=
  (if_neg (not_not.mpr hoff)).trans ((if_neg (Bool.eq_false_iff.mp hl)).trans (if_neg (Bool.eq_false_iff.mp h)))

section
variable (hoff : (s.channel c).state = .off) (hl : (s.channel c).latched = false) (hi : (s.channel c).intent = true)
include hoff hl hi

theorem channelWake_willing : s.channelWake c =
    if s.thermal = .shutdown then s.enterFault c .thermal
    else match (s.channel c).policy.mode with
      | .auto => s.enterDetect c
      | .forced => if s.supply = .good then s.enterActive c else s.modChannel c (fun v => { v with waiting := true }) := by
  have hon : s.modChannel c (fun v => { v with intent := true }) = s := modChannel_self s c _ (congrArg (fun b => ({ s.channel c with intent := b } : Channel)) hi.symm)
  have hwait : s.modChannel c (fun v => { v with intent := true, waiting := true }) =
      s.modChannel c (fun v => { v with waiting := true }) := by
    rw [State.modChannel, State.modChannel]
    exact congrArg (fun b => s.setChannel c { s.channel c with intent := b, waiting := true }) hi.symm
  have hwake : s.channelWake c = s.powerOn c :=
    (if_neg (not_not.mpr hoff)).trans ((if_neg (Bool.eq_false_iff.mp hl)).trans (if_pos hi))
  rw [hwake, powerOn_of_off hoff, hon, hwait] <;> rfl

theorem channelWake_shutdown (h : s.thermal = .shutdown) : s.channelWake c = s.enterFault c .thermal := by
  rw [channelWake_willing hoff hl hi, if_pos h]

variable (h : s.thermal ≠ .shutdown)
include h

theorem channelWake_auto (hm : (s.channel c).policy.mode = .auto) : s.channelWake c = s.enterDetect c := by
  rw [channelWake_willing hoff hl hi, if_neg h, hm]

theorem channelWake_supplied (hm : (s.channel c).policy.mode = .forced) (hs : s.supply = .good) :
    s.channelWake c = s.enterActive c := by
  rw [channelWake_willing hoff hl hi, if_neg h, hm]
  exact if_pos hs

theorem channelWake_waiting (hm : (s.channel c).policy.mode = .forced) (hs : s.supply ≠ .good) :
    s.channelWake c = s.modChannel c (fun v => { v with waiting := true }) := by
  rw [channelWake_willing hoff hl hi, if_neg h, hm]
  exact if_neg hs

end
end

/-- The ways in which a channel wakes. -/
inductive ChannelWake (c : Fin 4) (x : State) : State → Prop
  | latched (h : (x.channel c).latched = true) : ChannelWake c x ((x.modChannel c (fun v => v.settle .fault)).postPower c)
  | unwilling (hl : (x.channel c).latched = false) (hi : (x.channel c).intent = false) : ChannelWake c x x
  | shutdown (hl : (x.channel c).latched = false) (hi : (x.channel c).intent = true) (h : x.thermal = .shutdown) :
      ChannelWake c x (x.enterFault c .thermal)
  | auto (hl : (x.channel c).latched = false) (hi : (x.channel c).intent = true) (h : x.thermal ≠ .shutdown)
      (hm : (x.channel c).policy.mode = .auto) : ChannelWake c x (x.enterDetect c)
  | supplied (hl : (x.channel c).latched = false) (hi : (x.channel c).intent = true) (h : x.thermal ≠ .shutdown)
      (hm : (x.channel c).policy.mode = .forced) (hs : x.supply = .good) : ChannelWake c x (x.enterActive c)
  | waiting (hl : (x.channel c).latched = false) (hi : (x.channel c).intent = true) (h : x.thermal ≠ .shutdown)
      (hm : (x.channel c).policy.mode = .forced) (hs : x.supply ≠ .good) :
      ChannelWake c x (x.modChannel c (fun v => { v with waiting := true }))

theorem channelWake_cases {s : State} {c : Fin 4} (hoff : (s.channel c).state = .off) :
    ChannelWake c s (s.channelWake c) := by
  by_cases hl : (s.channel c).latched = true
  · rw [channelWake_latched hoff hl]
    exact .latched hl
  replace hl := Bool.eq_false_iff.mpr hl
  by_cases hi : (s.channel c).intent = true
  swap
  · rw [channelWake_unwilling hoff hl (Bool.eq_false_iff.mpr hi)]
    exact .unwilling hl (Bool.eq_false_iff.mpr hi)
  by_cases h : s.thermal = .shutdown
  · rw [channelWake_shutdown hoff hl hi h]
    exact .shutdown hl hi h
  cases hm : (s.channel c).policy.mode with
  | auto =>
    rw [channelWake_auto hoff hl hi h hm]
    exact .auto hl hi h hm
  | forced =>
    by_cases hs : s.supply = .good
    · rw [channelWake_supplied hoff hl hi h hm hs]
      exact .supplied hl hi h hm hs
    · rw [channelWake_waiting hoff hl hi h hm hs]
      exact .waiting hl hi h hm hs

/-- What the visit to channel c makes of state x as the part wakes. -/
def ChannelWakes (c : Fin 4) (x y : State) : Prop :=
  let v := x.channel c
  let willing := v.latched = false ∧ v.intent = true
  let cool := willing ∧ x.thermal ≠ .shutdown
  (v.latched = true → y = (x.setChannel c (v.settle .fault)).post .powerState c.val) ∧
  (v.latched = false → v.intent = false → y = x) ∧
  (willing → x.thermal = .shutdown → y = x.enterFault c .thermal) ∧
  (cool → v.policy.mode = .auto → y = x.enterDetect c) ∧
  (cool → v.policy.mode = .forced → x.supply = .good → y = x.enterActive c) ∧
  (cool → v.policy.mode = .forced → x.supply ≠ .good → y = x.setChannel c { v with waiting := true })

theorem channelWake_wakes {s : State} {c : Fin 4} (hoff : (s.channel c).state = .off) :
    ChannelWakes c s (s.channelWake c) :=
  ⟨channelWake_latched hoff, channelWake_unwilling hoff, fun hw => channelWake_shutdown hoff hw.1 hw.2,
    fun hc => channelWake_auto hoff hc.1.1 hc.1.2 hc.2, fun hc => channelWake_supplied hoff hc.1.1 hc.1.2 hc.2,
    fun hc => channelWake_waiting hoff hc.1.1 hc.1.2 hc.2⟩

/-- What a channel that was OFF has become once the part is awake. -/
def ChannelWoken (thermal : Thermal) (supply : Supply) (v w : Channel) : Prop :=
  w.intent = v.intent ∧ w.faults = (if v.latched = false ∧ v.intent = true ∧ thermal = .shutdown
    then bump v.faults else v.faults) ∧
  (v.latched = true → w.state = .fault ∧ w.cause = v.cause ∧ w.latched = true ∧ w.coolDown = none) ∧
  (v.latched = false → v.intent = false → w = v) ∧
  (v.latched = false → v.intent = true → thermal = .shutdown → w.state = .fault ∧ w.cause = .thermal) ∧
  (v.latched = false → v.intent = true → thermal ≠ .shutdown → v.policy.mode = .auto → w.state = .detect) ∧
  (v.latched = false → v.intent = true → thermal ≠ .shutdown → v.policy.mode = .forced →
    (supply = .good → w.state = .active) ∧ (supply ≠ .good → w.state = .off ∧ w.waiting = true))

theorem linkPowered_channel (s : State) (l c : Fin 4) : (s.linkPowered l).channel c = s.channel c := by
  obtain ⟨w, ns, h, -⟩ := linkPowered_eq s l
  rw [h]
  rfl

theorem enterActive_channel (s : State) (c : Fin 4) :
    (s.enterActive c).channel c = { (s.channel c).settle .active with activeTimer := some 10000000 } := by
  rw [State.enterActive, linkPowered_channel, State.postPower, channel_post, channel_modChannel]
  rfl

theorem ChannelWake.woken {c : Fin 4} {x y : State} (hoff : (x.channel c).state = .off) (h : ChannelWake c x y) :
    ChannelWoken x.thermal x.supply (x.channel c) (y.channel c) := by
  cases h with
  | latched h =>
    rw [State.postPower, channel_post, channel_modChannel]
    simp [ChannelWoken, Channel.settle, h]
  | unwilling hl hi => simp [ChannelWoken, hl, hi]
  | shutdown hl hi h =>
    have hnot : (x.channel c).state ≠ .active := by simp [hoff]
    rw [enterFault_of_not_active hnot, State.postPower, channel_post, channel_modChannel]
    simp [ChannelWoken, faulted_fields, hl, hi, h]
  | auto hl hi h hm =>
    rw [State.enterDetect, State.postPower, channel_post, channel_modChannel]
    simp [ChannelWoken, Channel.settle, hl, hi, h, hm]
  | supplied hl hi h hm hs =>
    rw [enterActive_channel]
    simp [ChannelWoken, Channel.settle, hl, hi, h, hm, hs]
  | waiting hl hi h hm hs =>
    rw [channel_modChannel]
    simp [ChannelWoken, hl, hi, h, hm, hs, hoff]

/-! ### The links of channels that wake -/

theorem linkPowered_of_disabled {s : State} {l : Fin 4} (h : (s.link l).state = .disabled) : s.linkPowered l = s :=
  if_neg (by rw [h]; nofun)

theorem enterActive_of_disabled {s : State} {c : Fin 4} (h : (s.link c).state = .disabled) : s.enterActive c =
    (s.modChannel c (fun v => { v.settle .active with activeTimer := some 10000000 })).postPower c :=
  linkPowered_of_disabled ((congrArg Link.state (link_post ..)).trans h)

/-- A channel that wakes beside a DISABLED link posts at most, and leaves the link alone. -/
theorem ChannelWake.posts {c : Fin 4} {x y : State} (hoff : (x.channel c).state = .off)
    (hdisabled : (x.link c).state = .disabled) (h : ChannelWake c x y) :
    ∃ v, y = x.setChannel c v ∨ y = (x.setChannel c v).post .powerState c.val := by
  cases h with
  | latched h => exact ⟨_, .inr rfl⟩
  | unwilling hl hi => exact ⟨x.channel c, .inl (modChannel_self x c id rfl).symm⟩
  | shutdown hl hi h => exact ⟨_, .inr (enterFault_of_not_active (by simp [hoff]) .thermal)⟩
  | auto hl hi h hm => exact ⟨_, .inr rfl⟩
  | supplied hl hi h hm hs => exact ⟨_, .inr (enterActive_of_disabled hdisabled)⟩
  | waiting hl hi h hm hs => exact ⟨_, .inl rfl⟩

/-! ### A link wakes (R131) -/

/-- What the visit to link l makes of state x as the part wakes. -/
def LinkWakes (l : Fin 4) (x y : State) : Prop :=
  let v := x.link l
  (v.intent = false → y = x) ∧
  (v.intent = true → (x.channel l).state = .active → y = (x.setLink l v.trained).post .linkState l.val) ∧
  (v.intent = true → (x.channel l).state ≠ .active →
    y = (x.setLink l { v with state := .waitPower }).post .linkState l.val)

theorem linkWake_wakes {s : State} {l : Fin 4} (h : (s.link l).state = .disabled) : LinkWakes l s (s.linkWake l) :=
  ⟨fun hi => if_neg fun hw => Bool.false_ne_true (hi.symm.trans hw.1),
    fun hi ha => (if_pos ⟨hi, h⟩).trans ((if_pos ha).trans (enterTraining_eq s l)),
    fun hi ha => (if_pos ⟨hi, h⟩).trans (if_neg ha)⟩

/-- What the wake of a link that was DISABLED makes of it. -/
theorem LinkWakes.link {l : Fin 4} {x y : State} (h : LinkWakes l x y) :
    ((x.link l).intent = false → y.link l = x.link l) ∧
    ((x.link l).intent = true → (y.link l).state = if (x.channel l).state = .active then .training else .waitPower) := by
  obtain ⟨hunwilling, hactive, hwaits⟩ := h
  refine ⟨fun hi => congrArg (fun t : State => t.link l) (hunwilling hi), fun hi => ?_⟩
  by_cases ha : (x.channel l).state = .active
  · rw [hactive hi ha, link_post, link_setLink, if_pos ha]
    rfl
  · rw [hwaits hi ha, link_post, link_setLink, if_neg ha]

theorem linkWake_channels (s : State) (l : Fin 4) : (s.linkWake l).channels = s.channels := by
  unfold State.linkWake State.enableLink
  split
  · split
    · rw [enterTraining_eq, post_channels]
      rfl
    · rw [State.postLink, post_channels]
      rfl
  · rfl

/-! ### Visits one after another -/

theorem WakeOnly.away {n m : Fin 4} {s t : State} (h : WakeOnly n s t) (hm : m ≠ n) : SameAt m s t := by
  obtain ⟨v, w, ns, rfl⟩ := h
  exact ⟨Four.get_set_ne _ _ _ _ hm, Four.get_set_ne _ _ _ _ hm⟩

theorem channelWake_visitsOne : VisitsOne (fun c t => t.channelWake c) := fun c _ s h => (channelWake_only s c).away h

theorem linkWake_visitsOne : VisitsOne (fun l t => t.linkWake l) := fun l _ s h => (linkWake_only s l).away h

/-- A change of channels, links and the Notice Table alone, which does not empty the table. -/
structure WakesOnly (s t : State) : Prop where
  only : ∃ cs ls ns, t = { s with channels := cs, links := ls, notices := ns }
  grows : s.notices ≠ [] → t.notices ≠ []

theorem WakesOnly.refl (s : State) : WakesOnly s s := ⟨⟨s.channels, s.links, s.notices, rfl⟩, id⟩

theorem WakesOnly.trans {s t u : State} (h : WakesOnly s t) (g : WakesOnly t u) : WakesOnly s u := by
  refine ⟨?_, fun hs => g.grows (h.grows hs)⟩
  obtain ⟨cs, ls, ns, rfl⟩ := h.only
  obtain ⟨cs', ls', ns', rfl⟩ := g.only
  exact ⟨cs', ls', ns', rfl⟩

theorem raiseNotice_ne_nil (k : NoticeKind) (n : Nat) (ns : List Notice) : raiseNotice k n ns ≠ [] := by
  cases ns with
  | nil => simp [raiseNotice]
  | cons e rest =>
    unfold raiseNotice
    split_ifs <;> simp

theorem post_grows (s : State) (k : NoticeKind) (n : Nat) (h : s.notices ≠ []) : (s.post k n).notices ≠ [] := by
  rw [post_notices]
  split
  · exact h
  · exact raiseNotice_ne_nil k n s.notices

theorem WakesOnly.ofPost (s : State) (k : NoticeKind) (n : Nat) : WakesOnly s (s.post k n) := by
  obtain ⟨ns, hpost⟩ := post_eq s k n
  exact ⟨⟨s.channels, s.links, ns, hpost⟩, post_grows s k n⟩

theorem WakesOnly.ofChannel (s : State) (c : Fin 4) (v : Channel) : WakesOnly s (s.setChannel c v) :=
  ⟨⟨_, s.links, s.notices, rfl⟩, id⟩

theorem WakesOnly.ofLink (s : State) (l : Fin 4) (v : Link) : WakesOnly s (s.setLink l v) :=
  ⟨⟨s.channels, _, s.notices, rfl⟩, id⟩

theorem enterTraining_wakesOnly (s : State) (l : Fin 4) : WakesOnly s (s.enterTraining l) := by
  rw [enterTraining_eq]
  exact (WakesOnly.ofLink ..).trans (.ofPost ..)

theorem linkPowered_wakesOnly (s : State) (l : Fin 4) : WakesOnly s (s.linkPowered l) := by
  unfold State.linkPowered
  split
  · exact enterTraining_wakesOnly s l
  · exact .refl s

theorem linkWake_wakesOnly (s : State) (l : Fin 4) : WakesOnly s (s.linkWake l) := by
  unfold State.linkWake State.enableLink
  split
  · split
    · exact enterTraining_wakesOnly s l
    · exact (WakesOnly.ofLink ..).trans (.ofPost ..)
  · exact .refl s

theorem channelWake_wakesOnly (s : State) (c : Fin 4) : WakesOnly s (s.channelWake c) := by
  by_cases hoff : (s.channel c).state = .off
  swap
  · rw [channelWake_lit hoff]
    exact .refl s
  have hwake := channelWake_cases hoff
  generalize s.channelWake c = t at hwake
  cases hwake with
  | latched h => exact (WakesOnly.ofChannel ..).trans (.ofPost ..)
  | unwilling hl hi => exact .refl s
  | shutdown hl hi h =>
    rw [enterFault_of_not_active (by simp [hoff])]
    exact (WakesOnly.ofChannel ..).trans (.ofPost ..)
  | auto hl hi h hm => exact (WakesOnly.ofChannel ..).trans (.ofPost ..)
  | supplied hl hi h hm hs =>
    exact ((WakesOnly.ofChannel ..).trans (.ofPost ..)).trans (linkPowered_wakesOnly ..)
  | waiting hl hi h hm hs => exact .ofChannel ..

/-! ### What the transmission sets (R193) -/

theorem modChannel_postPower_driven (s x : State) (c : Fin 4) (f : Channel → Channel) :
    ((s.driven x).modChannel c f).postPower c = ((s.modChannel c f).postPower c).driven x :=
  post_driven (s.modChannel c f) x ..

theorem modLink_postLink_driven (s x : State) (l : Fin 4) (f : Link → Link) :
    ((s.driven x).modLink l f).postLink l = ((s.modLink l f).postLink l).driven x :=
  post_driven (s.modLink l f) x ..

theorem enterTraining_driven (s x : State) (l : Fin 4) : (s.driven x).enterTraining l = (s.enterTraining l).driven x := by
  rw [enterTraining_eq, enterTraining_eq]
  exact post_driven (s.setLink l (s.link l).trained) x ..

theorem linkPowered_driven (s x : State) (l : Fin 4) : (s.driven x).linkPowered l = (s.linkPowered l).driven x := by
  unfold State.linkPowered
  by_cases h : (s.link l).state = .waitPower
  · rw [if_pos h]
    exact (if_pos h).trans (enterTraining_driven ..)
  · rw [if_neg h]
    exact if_neg h

theorem enterActive_driven (s x : State) (c : Fin 4) : (s.driven x).enterActive c = (s.enterActive c).driven x := by
  rw [State.enterActive, modChannel_postPower_driven, linkPowered_driven]
  rfl

theorem channelWake_driven (s x : State) (c : Fin 4) : (s.driven x).channelWake c = (s.channelWake c).driven x := by
  by_cases hoff : (s.channel c).state = .off
  swap
  · rw [channelWake_lit hoff]
    exact channelWake_lit (s := s.driven x) hoff
  have hwake := channelWake_cases hoff
  generalize s.channelWake c = t at hwake
  cases hwake with
  | latched h => exact (channelWake_latched (s := s.driven x) hoff h).trans (modChannel_postPower_driven ..)
  | unwilling hl hi => exact channelWake_unwilling (s := s.driven x) hoff hl hi
  | shutdown hl hi h =>
    have hnot : (s.channel c).state ≠ .active := by simp [hoff]
    rw [enterFault_of_not_active hnot, channelWake_shutdown (s := s.driven x) hoff hl hi h,
      enterFault_of_not_active (s := s.driven x) hnot]
    exact modChannel_postPower_driven ..
  | auto hl hi h hm => exact (channelWake_auto (s := s.driven x) hoff hl hi h hm).trans (modChannel_postPower_driven ..)
  | supplied hl hi h hm hs =>
    exact (channelWake_supplied (s := s.driven x) hoff hl hi h hm hs).trans (enterActive_driven ..)
  | waiting hl hi h hm hs => exact channelWake_waiting (s := s.driven x) hoff hl hi h hm hs

theorem linkWake_driven (s x : State) (l : Fin 4) : (s.driven x).linkWake l = (s.linkWake l).driven x := by
  unfold State.linkWake State.enableLink
  by_cases h : (s.link l).intent = true ∧ (s.link l).state = .disabled
  swap
  · rw [if_neg h]
    exact if_neg h
  rw [if_pos h]
  refine (if_pos h).trans ?_
  by_cases ha : (s.channel l).state = .active
  · rw [if_pos ha]
    exact (if_pos ha).trans (enterTraining_driven ..)
  · rw [if_neg ha]
    exact (if_neg ha).trans (modLink_postLink_driven ..)

theorem forEach_driven {f : Fin 4 → State → State} {x : State} (h : ∀ n s, f n (s.driven x) = (f n s).driven x)
    (l : List (Fin 4)) (s : State) : forEach l f (s.driven x) = (forEach l f s).driven x := by
  induction l generalizing s with
  | nil => rfl
  | cons n l ih => exact (congrArg (forEach l f) (h n s)).trans (ih (f n s))

/-! ### The part wakes (R203) -/

/-- The part as the channels begin to wake. -/
def State.wakeBegun (s : State) : State := s.waking.post .modeChanged 0

/-- The part once its channels are awake. -/
def State.channelsWoken (s : State) : State := forEach allFour (fun c t => t.channelWake c) s.wakeBegun

theorem wakeUp_of_channelsWoken (s : State) : s.wakeUp = forEach allFour (fun l t => t.linkWake l) s.channelsWoken :=
  wakeUp_eq s

theorem channelsWoken_wakesOnly (s : State) : WakesOnly s.wakeBegun s.channelsWoken :=
  forEach_keeps (R := WakesOnly) .refl (fun _ _ _ => .trans) (fun c s => channelWake_wakesOnly s c) allFour _

theorem wakeUp_wakesOnly (s : State) : WakesOnly s.wakeBegun s.wakeUp := by
  rw [wakeUp_of_channelsWoken]
  exact (channelsWoken_wakesOnly s).trans
    (forEach_keeps (R := WakesOnly) .refl (fun _ _ _ => .trans) (fun l s => linkWake_wakesOnly s l) allFour _)

theorem wakeUp_only (s : State) : ∃ cs ls ns, s.wakeUp = { s.waking with channels := cs, links := ls, notices := ns } :=
  ((WakesOnly.ofPost s.waking .modeChanged 0).trans (wakeUp_wakesOnly s)).only

/-- Of what a transmission sets, the wake keeps the bytes driven and the reply. -/
theorem wakeUp_driveZeros (s : State) (bytes : Nat) :
    (s.driveZeros bytes).wakeUp = { s.wakeUp with spiOut := List.replicate bytes 0 } := by
  have hdriven : (s.driveZeros bytes).wakeUp = s.wakeUp.driven (s.driveZeros bytes).waking := by
    rw [wakeUp_eq, wakeUp_eq, ← forEach_driven fun l s => linkWake_driven s _ l,
      ← forEach_driven fun c s => channelWake_driven s _ c, ← post_driven]
    rfl
  obtain ⟨cs, ls, ns, honly⟩ := wakeUp_only s
  rw [hdriven, honly]
  rfl

theorem wakeUp_attn {s : State} (h : s.masked .modeChanged = false) : s.wakeUp.attn = true := by
  have hbegun : s.wakeBegun.notices ≠ [] := by
    have hopen : ¬(s.waking.mode = .init ∨ s.waking.masked .modeChanged = true) :=
      not_or.mpr ⟨show Mode.standby ≠ .init from nofun, Bool.eq_false_iff.mp h⟩
    rw [State.wakeBegun, post_notices, if_neg hopen]
    exact raiseNotice_ne_nil .modeChanged 0 s.waking.notices
  have hnotices : s.wakeUp.notices ≠ [] := (wakeUp_wakesOnly s).grows hbegun
  obtain ⟨cs, ls, ns, honly⟩ := wakeUp_only s
  have hmode : s.wakeUp.mode = .standby := congrArg State.mode honly
  simp [State.attn, hmode, hnotices]

theorem wakeUp_channels (s : State) : s.wakeUp.channels = s.channelsWoken.channels := by
  rw [wakeUp_of_channelsWoken]
  exact forEach_keeps (R := fun s t => t.channels = s.channels) (fun _ => rfl) (fun _ _ _ h g => g.trans h)
    (fun l s => linkWake_channels s l) allFour _

section
variable {s : State} (hsleep : s.mode = .sleep) (hdark : DarkInSleep s)

theorem wakeBegun_sameAt (s : State) (n : Fin 4) : SameAt n s s.wakeBegun := ⟨channel_post .., link_post ..⟩

theorem begun_eq (s : State) :
    { ({ s with mode := .standby } : State).post .modeChanged 0 with
      wakeWindow := some 250000, streams := s.streams.map (Option.map Stream.wake) } = s.wakeBegun :=
  post_comm (s := { s with mode := .standby }) (t := s.waking)
    (g := fun u => { u with wakeWindow := some 250000, streams := s.streams.map (Option.map Stream.wake) })
    rfl rfl rfl (fun _ => rfl) rfl

include hsleep hdark

theorem channels_wake : ∃ a b c d, ChannelWakes 0 s.wakeBegun a ∧ ChannelWakes 1 a b ∧ ChannelWakes 2 b c ∧
    ChannelWakes 3 c d ∧ s.channelsWoken = d :=
  forEach_allFour_chain channelWake_visitsOne ChannelWakes s.wakeBegun fun c x hx =>
    channelWake_wakes (by rw [((wakeBegun_sameAt s c).trans hx).1]; exact (hdark hsleep c).2.1)

/-- The visit to channel c as the part wakes. -/
theorem channelsWoken_at (c : Fin 4) : ∃ x y, SameAt c s x ∧ x.thermal = s.thermal ∧ x.supply = s.supply ∧
    ChannelWake c x y ∧ SameAt c y s.channelsWoken := by
  obtain ⟨x, ⟨hsame, hthermal, hsupply⟩, hend, -⟩ := forEach_allFour_visits
    (R := fun n s t => SameAt n s t ∧ t.thermal = s.thermal ∧ t.supply = s.supply) (f := fun c t => t.channelWake c)
    (fun n s => ⟨.refl n s, rfl, rfl⟩)
    (fun n s t u h g => ⟨h.1.trans g.1, g.2.1.trans h.2.1, g.2.2.trans h.2.2⟩)
    (fun n m s hm => by
      obtain ⟨cs, ls, ns, honly⟩ := (channelWake_wakesOnly s n).only
      exact ⟨channelWake_visitsOne n m s hm, (congrArg State.thermal honly :), (congrArg State.supply honly :)⟩) c s.wakeBegun
  have hsame := (wakeBegun_sameAt s c).trans hsame
  obtain ⟨ns, hpost⟩ := post_eq s.waking .modeChanged 0
  exact ⟨x, _, hsame, hthermal.trans ((congrArg State.thermal hpost :)), hsupply.trans ((congrArg State.supply hpost :)),
    channelWake_cases (by rw [hsame.1]; exact (hdark hsleep c).2.1), hend⟩

theorem channelsWoken_channel (c : Fin 4) :
    ChannelWoken s.thermal s.supply (s.channel c) (s.channelsWoken.channel c) := by
  obtain ⟨x, y, hsame, hthermal, hsupply, hwake, hend⟩ := channelsWoken_at hsleep hdark c
  have hwoken := hwake.woken (by rw [hsame.1]; exact (hdark hsleep c).2.1)
  rwa [hthermal, hsupply, hsame.1, ← hend.1] at hwoken

theorem channelsWoken_link (l : Fin 4) : s.channelsWoken.link l = s.link l := by
  obtain ⟨x, y, hsame, -, -, hwake, hend⟩ := channelsWoken_at hsleep hdark l
  have hlink : y.link l = x.link l := by
    obtain ⟨v, hy | hy⟩ := hwake.posts (by rw [hsame.1]; exact (hdark hsleep l).2.1)
      (by rw [hsame.2]; exact (hdark hsleep l).1)
    · rw [hy]
      rfl
    · rw [hy, link_post]
      rfl
  exact hend.2.trans (hlink.trans hsame.2)

theorem links_wake : ∃ e f g h, LinkWakes 0 s.channelsWoken e ∧ LinkWakes 1 e f ∧ LinkWakes 2 f g ∧ LinkWakes 3 g h ∧
    s.wakeUp = h := by
  rw [wakeUp_of_channelsWoken]
  exact forEach_allFour_chain linkWake_visitsOne LinkWakes s.channelsWoken fun l x hx =>
    linkWake_wakes (by rw [hx.2, channelsWoken_link hsleep hdark]; exact (hdark hsleep l).1)

theorem wakeUp_channel (c : Fin 4) : ChannelWoken s.thermal s.supply (s.channel c) (s.wakeUp.channel c) := by
  have hchannel : s.wakeUp.channel c = s.channelsWoken.channel c :=
    congrArg (fun cs => cs.get c) (wakeUp_channels s)
  rw [hchannel]
  exact channelsWoken_channel hsleep hdark c

theorem wakeUp_link (l : Fin 4) : ((s.link l).intent = false → s.wakeUp.link l = s.link l) ∧
    ((s.link l).intent = true →
      (s.wakeUp.link l).state = if (s.wakeUp.channel l).state = .active then .training else .waitPower) := by
  obtain ⟨x, hsame, hend⟩ := forEach_allFour_at linkWake_visitsOne s.channelsWoken l
  rw [← wakeUp_of_channelsWoken] at hend
  have hlink := hsame.2.trans (channelsWoken_link hsleep hdark l)
  have hchannel : (x.linkWake l).channel l = x.channel l := congrArg (fun cs => cs.get l) (linkWake_channels x l)
  have hwakes := (linkWake_wakes (by rw [hlink]; exact (hdark hsleep l).1)).link
  rwa [hlink, ← hchannel, ← hend.1, ← hend.2] at hwakes

end

/-- The part once a write transaction woke it. -/
def Awoken (before t : State) (kind tag : Byte) (bytes : Nat) : Prop :=
  (∃ a b c d e f g h : State, ChannelWakes 0 { ({ before with mode := .standby } : State).post .modeChanged 0 with
      wakeWindow := some 250000, streams := before.streams.map (Option.map Stream.wake) } a ∧ ChannelWakes 1 a b ∧ ChannelWakes 2 b c ∧
    ChannelWakes 3 c d ∧ LinkWakes 0 d e ∧ LinkWakes 1 e f ∧ LinkWakes 2 f g ∧ LinkWakes 3 g h ∧
    t = { h with reply := some ⟨kind, tag, .waking, []⟩, spiOut := List.replicate bytes 0 }) ∧
  t.mode = .standby ∧ t.reply = some ⟨kind, tag, .waking, []⟩ ∧ t.wakeWindow = some 250000 ∧
  (before.masked .modeChanged = false → t.attn = true) ∧ t.store = before.store ∧ t.segments = before.segments ∧
  t.outputs = before.outputs ∧ t.aliases = before.aliases ∧ t.level = before.level ∧
  (∀ i, t.stream i = (before.stream i).map Stream.wake) ∧
  (∀ l, ((before.link l).intent = false → t.link l = before.link l) ∧
    ((before.link l).intent = true →
      (t.link l).state = if (t.channel l).state = .active then .training else .waitPower)) ∧
  (∀ c, ChannelWoken before.thermal before.supply (before.channel c) (t.channel c))

theorem wakeBy_awoken {s : State} (hsleep : s.mode = .sleep) (hdark : DarkInSleep s) (kind tag : Byte) (bytes : Nat) :
    Awoken s ((s.driveZeros bytes).wakeBy kind tag) kind tag bytes := by
  obtain ⟨a, b, c, d, ha, hb, hc, hd, hchannels⟩ := channels_wake hsleep hdark
  obtain ⟨e, f, g, h, he, hf, hg, hh, hlinks⟩ := links_wake hsleep hdark
  rw [hchannels] at he
  rw [← begun_eq] at ha
  obtain ⟨cs, ls, ns, honly⟩ := wakeUp_only s
  rw [State.wakeBy, wakeUp_driveZeros]
  refine ⟨⟨a, b, c, d, e, f, g, h, ha, hb, hc, hd, he, hf, hg, hh, by rw [← hlinks]; rfl⟩, (congrArg State.mode honly :),
    rfl, (congrArg State.wakeWindow honly :), wakeUp_attn (s := s), (congrArg State.store honly :),
    (congrArg State.segments honly :), (congrArg State.outputs honly :), (congrArg State.aliases honly :),
    (congrArg State.level honly :), fun i => ?_, wakeUp_link hsleep hdark, wakeUp_channel hsleep hdark⟩
  have hstream : s.wakeUp.stream i = s.waking.stream i := (congrArg (fun t : State => t.stream i) honly :)
  refine hstream.trans ?_
  simp [State.waking, State.stream]

theorem DarkInSleep.elapse {s : State} (h : DarkInSleep s) (dt : Nat) : DarkInSleep (s.elapse dt) := fun hsleep n => by
  rw [link_elapse, channel_elapse, output_elapse]
  exact h hsleep n

theorem receivedTags_eq (bytes : List Byte) : receivedTags bytes =
    (if bytes.length < 3 then 0 else byteAt bytes 1, if bytes.length < 3 then 0 else byteAt bytes 2) := by
  unfold receivedTags
  split <;> rfl

/-- Settles O16. -/
theorem wakeFromSleep : Obligations.WakeFromSleep := by
  have hawoken {s : State} (hsleep : s.mode = .sleep) (hdark : DarkInSleep s) (dt : Nat) (kind tag : Byte) (bytes : Nat) :=
    wakeBy_awoken (s := s.elapse dt) hsleep (hdark.elapse dt) kind tag bytes
  refine ⟨fun i s k dt tag body hi hsleep hdark => ?request, fun s dt kind tag body hkind hsleep hdark => ?unknownKind,
    fun i s dt bytes hi hwrite hsleep hdark => ?transaction⟩
  case request =>
    have hexec := (exec_request hi s).trans (congrArg Host.Outcome.next (request_sleep (s := s.elapse dt) k tag body hsleep))
    exact ⟨_, hexec, hawoken hsleep hdark ..⟩
  case unknownKind =>
    have hwake : (s.elapse dt).anyRequest kind tag body =
        ((s.elapse dt).driveZeros (body.length + 5)).wakeBy kind tag := by
      rw [State.anyRequest, hkind]
      exact if_pos hsleep
    exact ⟨_, congrArg Host.Outcome.next hwake, hawoken hsleep hdark ..⟩
  case transaction =>
    have hexec : exec i s = .next (((s.elapse dt).driveZeros bytes.length).wakeBy
        (if bytes.length < 3 then 0 else byteAt bytes 1) (if bytes.length < 3 then 0 else byteAt bytes 2)) := by
      have htransaction : exec i s = .next ((s.elapse dt).transaction bytes) := by
        obtain rfl | rfl := hi <;> rfl
      rw [htransaction, transaction_asleep (s := s.elapse dt) hwrite hsleep, receivedTags_eq]
    exact ⟨_, hexec, hawoken hsleep hdark ..⟩

end Sys2Proof.Machine
end

section
/-! Counts of one notice of one object along several changes, and what the outcomes of remote requests depend on: for the
PROOF of SleepEntry (O15). -/

namespace Sys2Proof.Machine

open Sys2Proof.Claims

/-! ### One kind of one object (R197) -/

/-- Of one kind and object a change posts once under P, unless INIT or the mask stops it, and not otherwise. -/
structure Tally (k : NoticeKind) (object : Nat) (P : Prop) (s t : State) : Prop where
  mode : t.mode = s.mode
  mask : t.mask = s.mask
  ok : NoticesOk s → NoticesOk t
  posted : NoticesOk s → P → s.mode ≠ .init → s.masked k = false →
    countOf t.notices k object = min 255 (countOf s.notices k object + 1)
  kept : NoticesOk s → ¬ (P ∧ s.mode ≠ .init ∧ s.masked k = false) →
    countOf t.notices k object = countOf s.notices k object

theorem Counted.tally {n : Nat} {P : NoticeKind → Prop} {s t : State} (h : Counted n P s t) (k : NoticeKind)
    (object : Nat) : Tally k object (P k ∧ object = n) s t where
  mode := h.mode
  mask := h.mask
  ok := h.ok
  posted := fun hok hP hmode hmask => hP.2 ▸ h.posted hok k hP.1 hmode hmask
  kept := fun hok hP => h.kept hok k object fun ⟨hk, ho, hrest⟩ => hP ⟨⟨hk, ho⟩, hrest⟩

section
variable {k : NoticeKind} {object : Nat} {P Q : Prop} {s t u : State}

theorem Tally.masked (h : Tally k object P s t) (k' : NoticeKind) : t.masked k' = s.masked k' := by
  rw [State.masked, State.masked, h.mask]

theorem Tally.congr (h : Tally k object P s t) (hPQ : P ↔ Q) : Tally k object Q s t :=
  propext hPQ ▸ h

theorem Tally.none (hmode : t.mode = s.mode) (hmask : t.mask = s.mask) (hnotices : t.notices = s.notices) :
    Tally k object False s t where
  mode := hmode
  mask := hmask
  ok := fun h => by rwa [NoticesOk, hnotices]
  posted := fun _ h => h.elim
  kept := fun _ _ => by rw [hnotices]

theorem Tally.trans (h : Tally k object P s t) (g : Tally k object Q t u) (hdisjoint : P → ¬ Q) :
    Tally k object (P ∨ Q) s u where
  mode := g.mode.trans h.mode
  mask := g.mask.trans h.mask
  ok := fun hok => g.ok (h.ok hok)
  posted := by
    intro hok hPQ hmode hmask
    have hmode' : t.mode ≠ .init := by rwa [h.mode]
    have hmask' : t.masked k = false := by rwa [h.masked]
    obtain hP | hQ := hPQ
    · rw [g.kept (h.ok hok) fun hQ => hdisjoint hP hQ.1, h.posted hok hP hmode hmask]
    · rw [g.posted (h.ok hok) hQ hmode' hmask', h.kept hok fun hP => hdisjoint hP.1 hQ]
  kept := by
    intro hok hnot
    have hP : ¬ (P ∧ s.mode ≠ .init ∧ s.masked k = false) := fun ⟨hP, hrest⟩ => hnot ⟨.inl hP, hrest⟩
    have hQ : ¬ (Q ∧ t.mode ≠ .init ∧ t.masked k = false) := by
      rw [h.mode, h.masked]
      exact fun ⟨hQ, hrest⟩ => hnot ⟨.inr hQ, hrest⟩
    rw [g.kept (h.ok hok) hQ, h.kept hok hP]

theorem Tally.then_none (h : Tally k object P s t) (g : Tally k object False t u) : Tally k object P s u :=
  (h.trans g fun _ hf => hf).congr (or_iff_left id)

theorem Tally.after_none (g : Tally k object P t u) (h : Tally k object False s t) : Tally k object P s u :=
  (h.trans g fun hf => hf.elim).congr (or_iff_right id)

theorem Tally.refl (s : State) : Tally k object False s s := .none rfl rfl rfl

theorem Tally.keeps (h : Tally k object False s t) (hok : NoticesOk s) :
    countOf t.notices k object = countOf s.notices k object := h.kept hok fun hf => hf.1

end

/-! ### A change elsewhere -/

/-- A change elsewhere leaves channel n, link n, output n and every notice of object n. -/
structure Elsewhere (n : Fin 4) (s t : State) : Prop where
  same : SameAt n s t
  output : t.output n = s.output n
  tally : ∀ k, Tally k n.val False s t

theorem Elsewhere.refl (n : Fin 4) (s : State) : Elsewhere n s s := ⟨.refl n s, rfl, fun _ => .refl s⟩

theorem Elsewhere.trans {n : Fin 4} {s t u : State} (h : Elsewhere n s t) (g : Elsewhere n t u) : Elsewhere n s u :=
  ⟨h.same.trans g.same, g.output.trans h.output, fun k => (h.tally k).then_none (g.tally k)⟩

/-! ### The outcomes of remote requests (R144 to R147) -/

/-- An outcome posts REMOTE_DONE of its link at most. -/
theorem deliver_tally (s : State) (l : Fin 4) (e : Awaiting) (outcome : ResultStatus) (data : List Byte) {k : NoticeKind}
    {object : Nat} (h : k ≠ .remoteDone ∨ object ≠ l.val) : Tally k object False s (s.deliver l e outcome data) := by
  unfold State.deliver
  cases e.origin with
  | host =>
    have hpost := (Counted.ofPost (s.modLink l (fun v => { v with result := { v.result with
      status := outcome
      data := match outcome, e.request with
        | .ok, .read _ => data
        | _, _ => [] } })) .remoteDone l.val).tally k object
    exact (hpost.congr (iff_false_intro fun hdone => h.elim (· hdone.1) (· hdone.2))).after_none (.none rfl rfl rfl)
  | posted =>
    dsimp only
    split
    · exact .refl s
    · exact .none rfl rfl rfl
  | ration =>
    dsimp only
    unfold State.rationOutcome
    split
    · exact .refl s
    · exact .none rfl rfl rfl

theorem delivers_tally (l : Fin 4) (es : List Awaiting) {k : NoticeKind} {object : Nat}
    (h : k ≠ .remoteDone ∨ object ≠ l.val) (s : State) :
    Tally k object False s (es.foldl (fun t e => t.deliver l e .linkDown []) s) := by
  induction es generalizing s with
  | nil => exact .refl s
  | cons e rest ih => exact (deliver_tally s l e .linkDown [] h).then_none (ih _)

theorem remoteLinkLoss_tally (s : State) (l : Fin 4) {k : NoticeKind} {object : Nat}
    (h : k ≠ .remoteDone ∨ object ≠ l.val) : Tally k object False s (s.remoteLinkLoss l) :=
  (delivers_tally l (s.link l).awaiting h (s.modLink l (fun v => { v with awaiting := [] }))).after_none (.none rfl rfl rfl)

/-- Two states that an outcome on link l finds alike: the link, and the REMOTE_DONE notices of the link. -/
structure AlikeDone (l : Fin 4) (s t : State) : Prop where
  mask : t.mask = s.mask
  mode : s.mode ≠ .init ∧ t.mode ≠ .init
  ok : NoticesOk s ∧ NoticesOk t
  count : countOf t.notices .remoteDone l.val = countOf s.notices .remoteDone l.val

theorem AlikeDone.ofParts {l : Fin 4} {s t s' t' : State} (h : AlikeDone l s t) (hs : s'.mode = s.mode ∧ s'.mask = s.mask ∧
    s'.notices = s.notices) (ht : t'.mode = t.mode ∧ t'.mask = t.mask ∧ t'.notices = t.notices) : AlikeDone l s' t' := by
  obtain ⟨hmode, hmask, hnotices⟩ := hs
  obtain ⟨hmode', hmask', hnotices'⟩ := ht
  refine ⟨?_, ?_, ?_, ?_⟩
  · rw [hmask, hmask', h.mask]
  · rw [hmode, hmode']
    exact h.mode
  · rw [NoticesOk, NoticesOk, hnotices, hnotices']
    exact h.ok
  · rw [hnotices, hnotices', h.count]

theorem AlikeDone.modLink {l : Fin 4} {s t : State} (h : AlikeDone l s t) (f : Link → Link) :
    AlikeDone l (s.modLink l f) (t.modLink l f) := h.ofParts ⟨rfl, rfl, rfl⟩ ⟨rfl, rfl, rfl⟩

theorem AlikeDone.post {l : Fin 4} {s t : State} (h : AlikeDone l s t) :
    AlikeDone l (s.post .remoteDone l.val) (t.post .remoteDone l.val) := by
  obtain ⟨hs, ht⟩ := h.mode
  obtain ⟨hoks, hokt⟩ := h.ok
  have hposts := Counted.ofPost s .remoteDone l.val
  have hpostt := Counted.ofPost t .remoteDone l.val
  refine ⟨hpostt.mask.trans (h.mask.trans hposts.mask.symm), ⟨by rwa [hposts.mode], by rwa [hpostt.mode]⟩,
    ⟨hposts.ok hoks, hpostt.ok hokt⟩, ?_⟩
  have hmasked : t.masked .remoteDone = s.masked .remoteDone := by rw [State.masked, State.masked, h.mask]
  by_cases hopen : s.masked .remoteDone = false
  · rw [hposts.posted hoks .remoteDone rfl hs hopen, hpostt.posted hokt .remoteDone rfl ht (hmasked.trans hopen), h.count]
  · rw [hposts.kept hoks .remoteDone l.val fun hp => hopen hp.2.2.2,
      hpostt.kept hokt .remoteDone l.val fun hp => hopen (hmasked.symm.trans hp.2.2.2), h.count]

theorem AlikeDone.deliver {l : Fin 4} {s t : State} (h : AlikeDone l s t) (e : Awaiting) (outcome : ResultStatus)
    (data : List Byte) : AlikeDone l (s.deliver l e outcome data) (t.deliver l e outcome data) := by
  unfold State.deliver
  cases e.origin with
  | host => exact (h.modLink _).post
  | posted =>
    dsimp only
    split
    · exact h
    · exact h.modLink _
  | ration =>
    dsimp only
    unfold State.rationOutcome
    split
    · exact h
    · exact h.ofParts ⟨rfl, rfl, rfl⟩ ⟨rfl, rfl, rfl⟩

theorem AlikeDone.loss {l : Fin 4} {s t : State} (h : AlikeDone l s t) (hlink : t.link l = s.link l) :
    AlikeDone l (s.remoteLinkLoss l) (t.remoteLinkLoss l) := by
  unfold State.remoteLinkLoss
  rw [hlink]
  have hempty : AlikeDone l (s.modLink l (fun v => { v with awaiting := [] })) (t.modLink l (fun v => { v with awaiting := [] })) :=
    h.modLink _
  generalize s.modLink l (fun v => { v with awaiting := [] }) = s' at hempty
  generalize t.modLink l (fun v => { v with awaiting := [] }) = t' at hempty
  induction (s.link l).awaiting generalizing s' t' with
  | nil => exact hempty
  | cons e rest ih => exact ih _ _ (hempty.deliver e .linkDown [])

/-- What an outcome makes of its own link depends on nothing else. -/
theorem deliver_link {l : Fin 4} {s t : State} (h : t.link l = s.link l) (e : Awaiting) (outcome : ResultStatus)
    (data : List Byte) : (t.deliver l e outcome data).link l = (s.deliver l e outcome data).link l := by
  unfold State.deliver
  cases e.origin with
  | host =>
    dsimp only
    rw [link_post, link_post, link_modLink, link_modLink, h]
  | posted =>
    dsimp only
    split
    · exact h
    · rw [link_modLink, link_modLink, h]
  | ration =>
    dsimp only
    unfold State.rationOutcome
    split
    · exact h
    · exact h

theorem remoteLinkLoss_link_congr {l : Fin 4} {s t : State} (h : t.link l = s.link l) :
    (t.remoteLinkLoss l).link l = (s.remoteLinkLoss l).link l := by
  unfold State.remoteLinkLoss
  rw [h]
  have hempty : (t.modLink l (fun v => { v with awaiting := [] })).link l =
      (s.modLink l (fun v => { v with awaiting := [] })).link l := by
    rw [link_modLink, link_modLink, h]
  generalize s.modLink l (fun v => { v with awaiting := [] }) = s' at hempty
  generalize t.modLink l (fun v => { v with awaiting := [] }) = t' at hempty
  induction (s.link l).awaiting generalizing s' t' with
  | nil => exact hempty
  | cons e rest ih => exact ih _ _ (deliver_link hempty e .linkDown [])

/-- The state that the outcomes of a link's remote requests leave, if the link is UP. -/
def State.handed (s : State) (l : Fin 4) : State := if (s.link l).state = .up then s.remoteLinkLoss l else s

theorem handed_of_up {s : State} {l : Fin 4} (h : (s.link l).state = .up) : s.handed l = s.remoteLinkLoss l := if_pos h

theorem handed_of_not_up {s : State} {l : Fin 4} (h : (s.link l).state ≠ .up) : s.handed l = s := if_neg h

theorem handed_sameAt {l : Fin 4} {s t : State} (h : SameAt l s t) : SameAt l (s.handed l) (t.handed l) := by
  by_cases hup : (s.link l).state = .up
  · rw [handed_of_up hup, handed_of_up (by rwa [h.2])]
    refine ⟨?_, remoteLinkLoss_link_congr h.2⟩
    rw [remoteLinkLoss_channel, remoteLinkLoss_channel, h.1, h.2]
  · rw [handed_of_not_up hup, handed_of_not_up (by rwa [h.2])]
    exact h

theorem handed_tally (s : State) (l : Fin 4) {k : NoticeKind} {object : Nat} (h : k ≠ .remoteDone ∨ object ≠ l.val) :
    Tally k object False s (s.handed l) := by
  unfold State.handed
  split
  · exact remoteLinkLoss_tally s l h
  · exact .refl s

theorem AlikeDone.handed {l : Fin 4} {s t : State} (h : AlikeDone l s t) (hlink : t.link l = s.link l) :
    AlikeDone l (s.handed l) (t.handed l) := by
  by_cases hup : (s.link l).state = .up
  · rw [handed_of_up hup, handed_of_up (by rwa [hlink])]
    exact h.loss hlink
  · rw [handed_of_not_up hup, handed_of_not_up (by rwa [hlink])]
    exact h

theorem handed_driven (s x : State) (l : Fin 4) : (s.driven x).handed l = (s.handed l).driven x := by
  by_cases hup : (s.link l).state = .up
  · rw [handed_of_up hup, ← remoteLinkLoss_driven]
    exact handed_of_up (s := s.driven x) hup
  · rw [handed_of_not_up hup]
    exact handed_of_not_up (s := s.driven x) hup

end Sys2Proof.Machine
end

section
/-! Sleep entry of one link, of one channel and of the ration writes: for the PROOF of SleepEntry (O15). -/

namespace Sys2Proof.Machine

open Sys2Proof.Claims

/-! ### A link sleeps (R130) -/

theorem handed_handed (l : Fin 4) (s : State) : Handed l s (s.handed l) := by
  unfold State.handed
  split
  · exact .loss l s
  · exact .refl l s

theorem changed_tally (s : State) (l : Fin 4) (f : Link → Link) (g : Output → Output) (k : NoticeKind) (object : Nat) :
    Tally k object ((k = .linkState ∨ (k = .outputTier ∧ ((s.changed l f g).output l).tier ≠ (g (s.output l)).tier)) ∧
      object = l.val) s (s.changed l f g) := by
  have hchange : Tally k object False s ((s.modLink l f).modOutput l g) := .none rfl rfl rfl
  have hbefore : ((s.modLink l f).modOutput l g).output l = g (s.output l) := output_modOutput (s.modLink l f) l g
  have hafter : ((s.changed l f g).output l).tier = ((s.modLink l f).modOutput l g).tierNow l := by
    obtain ⟨ns, heq⟩ := announced_eq ((s.modLink l f).modOutput l g) l
    rw [State.changed, heq]
    exact congrArg Output.tier (output_modOutput ((s.modLink l f).modOutput l g) l (fun v => { v with
      tier := ((s.modLink l f).modOutput l g).tierNow l }))
  rw [hafter, ← hbefore]
  exact ((announced_counts ((s.modLink l f).modOutput l g) l).tally k object).after_none hchange

section
variable {s : State} {l : Fin 4}

theorem linkSleep_of_disabled (h : (s.link l).state = .disabled) : s.linkSleep l = s := if_pos h

theorem linkSleep_of_up (h : (s.link l).state = .up) :
    s.linkSleep l = (s.handed l).changed l (fun v => v.left.downTo .disabled) Output.emptied := by
  have hlit : (s.link l).state ≠ .disabled := by simp [h]
  rw [handed_of_up h, ← goDown_of_up h]
  exact if_neg hlit

theorem linkSleep_of_dark (hlit : (s.link l).state ≠ .disabled) (h : (s.link l).state ≠ .up) :
    s.linkSleep l = (s.handed l).changed l (Link.downTo .disabled) id := by
  rw [handed_of_not_up h, ← goDown_of_not_up h]
  exact if_neg hlit

/-- A link that sleeps is changed from the state that the outcomes of its remote requests leave. -/
theorem linkSleep_changed (hlit : (s.link l).state ≠ .disabled) :
    ∃ f g, s.linkSleep l = (s.handed l).changed l f g ∧ ∀ v, (g v).tier = v.tier := by
  by_cases hup : (s.link l).state = .up
  · exact ⟨_, _, linkSleep_of_up hup, fun _ => rfl⟩
  · exact ⟨_, _, linkSleep_of_dark hlit hup, fun _ => rfl⟩
end

theorem linkSleep_tally (s : State) (l : Fin 4) (k : NoticeKind) : Tally k l.val ((s.link l).state ≠ .disabled ∧
    (k = .linkState ∨ (k = .outputTier ∧ ((s.linkSleep l).output l).tier ≠ (s.output l).tier)))
    (s.handed l) (s.linkSleep l) := by
  by_cases hlit : (s.link l).state = .disabled
  · rw [linkSleep_of_disabled hlit, handed_of_not_up (by simp [hlit])]
    exact (Tally.refl s).congr (iff_of_false id fun h => h.1 hlit)
  · obtain ⟨f, g, heq, hg⟩ := linkSleep_changed hlit
    have hchanged := changed_tally (s.handed l) l f g k l.val
    rw [hg, (handed_handed l s).output, ← heq] at hchanged
    exact hchanged.congr ⟨fun h => ⟨hlit, h.1⟩, fun h => ⟨h.2, rfl⟩⟩

theorem linkSleep_tally_ne (s : State) (l : Fin 4) (k : NoticeKind) {object : Nat} (h : object ≠ l.val) :
    Tally k object False s (s.linkSleep l) := by
  by_cases hlit : (s.link l).state = .disabled
  · rw [linkSleep_of_disabled hlit]
    exact .refl s
  · obtain ⟨f, g, heq, -⟩ := linkSleep_changed hlit
    have hchanged := (changed_tally (s.handed l) l f g k object).congr (iff_false_intro fun hp => h hp.2)
    rw [← heq] at hchanged
    exact (handed_tally s l (.inr h)).then_none hchanged

theorem linkSleep_elsewhere {l n : Fin 4} (s : State) (h : n ≠ l) : Elsewhere n s (s.linkSleep l) := by
  refine ⟨linkSleep_visitsOne l n s h, ?_, fun k => linkSleep_tally_ne s l k (Fin.val_ne_of_ne h)⟩
  by_cases hlit : (s.link l).state = .disabled
  · rw [linkSleep_of_disabled hlit]
  · obtain ⟨f, g, heq, -⟩ := linkSleep_changed hlit
    rw [heq, (changed_away (s.handed l) l f g h).2, (handed_handed l s).output]

/-- What sleep entry makes of a link; h is the link that the outcomes of its remote requests leave. -/
def AsleepLink (v h w : Link) : Prop :=
  w.state = .disabled ∧ w.intent = v.intent ∧ w.policy = v.policy ∧ w.cause = v.cause ∧ w.drive = v.drive ∧
  w.rate = v.rate ∧ w.txSeq = v.txSeq ∧ w.retrains = v.retrains ∧ w.symbolErrors = v.symbolErrors ∧
  w.mirror = v.mirror ∧ w.touchOverflow = v.touchOverflow ∧ w.touchInvalid = v.touchInvalid ∧
  w.badRecords = v.badRecords ∧ w.seqErrors = v.seqErrors ∧
  w.result = h.result ∧ w.postedErrors = h.postedErrors ∧
  (v.state ≠ .disabled → w.touch = [] ∧ w.touchLost = bumpBy v.touchLost v.touch.length ∧ w.rxLock = false ∧
    w.demoted = false ∧ w.history = [] ∧ w.search = none ∧ w.backWait = none ∧ w.silence = none ∧
    w.errorWindow = none ∧ w.retry = none) ∧
  (v.state = .up → w.awaiting = [] ∧ w.lastConfig = none ∧ w.halfPending = false ∧ w.windowSum = 0)

theorem downTo_gone (v : Link) (target : LinkState) : v.downTo target = v.gone target v.intent :=
  downTo_eq v target v.intent

theorem gone_asleep {v : Link} (h : v.state ≠ .up) : AsleepLink v v (v.gone .disabled v.intent) := by
  refine ⟨rfl, rfl, rfl, rfl, rfl, rfl, rfl, rfl, rfl, rfl, rfl, rfl, rfl, rfl, rfl, rfl, fun _ => ?_, fun hup => absurd hup h⟩
  exact ⟨rfl, rfl, rfl, rfl, rfl, rfl, rfl, rfl, rfl, rfl⟩

theorem lost_asleep (v : Link) (result : Result) (errors : Half) :
    AsleepLink v (v.withOutcome [] result errors) ((v.gone .disabled v.intent).lost result errors) := by
  refine ⟨rfl, rfl, rfl, rfl, rfl, rfl, rfl, rfl, rfl, rfl, rfl, rfl, rfl, rfl, rfl, rfl, fun _ => ?_, fun _ => ?_⟩
  · exact ⟨rfl, rfl, rfl, rfl, rfl, rfl, rfl, rfl, rfl, rfl⟩
  · exact ⟨rfl, rfl, rfl, rfl⟩

theorem disabled_asleep {v : Link} (h : v.state = .disabled) : AsleepLink v v v := by
  refine ⟨h, rfl, rfl, rfl, rfl, rfl, rfl, rfl, rfl, rfl, rfl, rfl, rfl, rfl, rfl, rfl, fun hlit => absurd h hlit, fun hup => ?_⟩
  rw [h] at hup
  cases hup

theorem linkSleep_asleep (s : State) (l : Fin 4) :
    AsleepLink (s.link l) ((s.handed l).link l) ((s.linkSleep l).link l) := by
  by_cases hlit : (s.link l).state = .disabled
  · rw [linkSleep_of_disabled hlit, handed_of_not_up (by simp [hlit])]
    exact disabled_asleep hlit
  by_cases hup : (s.link l).state = .up
  · obtain ⟨rs, pe, hlink⟩ := remoteLinkLoss_link s l
    replace hlink : (s.remoteLinkLoss l).link l = (s.link l).withOutcome [] rs pe := hlink
    have hgone : ((s.link l).withOutcome [] rs pe).left.downTo .disabled =
        ((s.link l).gone .disabled (s.link l).intent).lost rs pe := (downTo_gone ..).trans (gone_left ..)
    rw [linkSleep_of_up hup, changed_link, handed_of_up hup, hlink, hgone]
    exact lost_asleep ..
  · rw [linkSleep_of_dark hlit hup, changed_link, handed_of_not_up hup, downTo_gone]
    exact gone_asleep hup

/-- An output whose queue is empty keeps all but its tier as its link sleeps. -/
theorem linkSleep_output {s : State} {l : Fin 4} (hqueue : (s.output l).emptied = s.output l) :
    (s.linkSleep l).output l = { s.output l with
      tier := if (s.link l).state = .disabled then (s.output l).tier else (s.linkSleep l).tierNow l } := by
  by_cases hlit : (s.link l).state = .disabled
  · rw [linkSleep_of_disabled hlit, if_pos hlit]
  rw [if_neg hlit]
  have hout := (handed_handed l s).output l
  by_cases hup : (s.link l).state = .up
  · rw [linkSleep_of_up hup, changed_output, hout, hqueue]
  · rw [linkSleep_of_dark hlit hup, changed_output, hout]
    rfl

theorem linkSleep_channel (s : State) (l : Fin 4) : (s.linkSleep l).channel l = (s.handed l).channel l := by
  by_cases hlit : (s.link l).state = .disabled
  · rw [linkSleep_of_disabled hlit, handed_of_not_up (by simp [hlit])]
  · obtain ⟨f, g, heq, -⟩ := linkSleep_changed hlit
    rw [heq]
    exact congrArg (fun cs : Four Channel => cs.get l) (changed_rest (s.handed l) l f g).1

theorem handed_channel (s : State) (l : Fin 4) :
    ∃ failed, (s.handed l).channel l = { s.channel l with failedWrites := failed } := by
  unfold State.handed
  split
  · exact ⟨_, remoteLinkLoss_channel s l⟩
  · exact ⟨(s.channel l).failedWrites, rfl⟩

/-! ### A channel sleeps (R174) -/

/-- A channel as it sleeps. -/
def Channel.slept (v : Channel) : Channel :=
  if v.state = .off then { v with waiting := false } else { v.settle .off with current := 0, waiting := false }

section
variable {s : State} {c : Fin 4}

theorem channelSleep_of_off (h : (s.channel c).state = .off) : s.channelSleep c = s.setChannel c (s.channel c).slept :=
  (if_pos h).trans (congrArg (s.setChannel c) (if_pos h).symm)

theorem channelSleep_of_on (h : (s.channel c).state ≠ .off) :
    s.channelSleep c = (s.setChannel c (s.channel c).slept).post .powerState c.val :=
  (if_neg h).trans (congrArg (fun v => (s.setChannel c v).post .powerState c.val) (if_neg h).symm)

end

theorem channelSleep_channel (s : State) (c : Fin 4) : (s.channelSleep c).channel c = (s.channel c).slept := by
  by_cases h : (s.channel c).state = .off
  · rw [channelSleep_of_off h, channel_setChannel]
  · rw [channelSleep_of_on h, channel_post, channel_setChannel]

theorem channelSleep_rest (s : State) (c : Fin 4) : (s.channelSleep c).links = s.links ∧
    (s.channelSleep c).outputs = s.outputs := by
  obtain ⟨v, ns, h, -⟩ := channelSleep_eq s c
  rw [h]
  exact ⟨rfl, rfl⟩

theorem channelSleep_tally (s : State) (c : Fin 4) (k : NoticeKind) (object : Nat) :
    Tally k object (k = .powerState ∧ (s.channel c).state ≠ .off ∧ object = c.val) s (s.channelSleep c) := by
  by_cases h : (s.channel c).state = .off
  · rw [channelSleep_of_off h]
    have hnone : Tally k object False s (s.setChannel c (s.channel c).slept) := .none rfl rfl rfl
    exact hnone.congr (iff_of_false id fun hp => hp.2.1 h)
  · rw [channelSleep_of_on h]
    have hnone : Tally k object False s (s.setChannel c (s.channel c).slept) := .none rfl rfl rfl
    have hpost := ((Counted.ofPost (s.setChannel c (s.channel c).slept) .powerState c.val).tally k object).after_none hnone
    exact hpost.congr ⟨fun hp => ⟨hp.1, h, hp.2⟩, fun hp => ⟨hp.1, hp.2.2⟩⟩

theorem channelSleep_elsewhere {c n : Fin 4} (s : State) (h : n ≠ c) : Elsewhere n s (s.channelSleep c) :=
  ⟨channelSleep_visitsOne c n s h, congrArg (fun os : Four Output => os.get n) (channelSleep_rest s c).2,
    fun k => (channelSleep_tally s c k n.val).congr (iff_false_intro fun hp => h (Fin.ext hp.2.2))⟩

/-! ### Rationing ends (R170, R171) -/

/-- What the end of rationing makes of a channel c whose link is not UP. -/
def RationLifted (aliases : List AliasEntry) (c : Fin 4) (v w : Channel) : Prop :=
  let write : Option RationWrite := if v.lastByte = some .restore then none else some .restore
  let noAlias := ∃ a, v.policy.action = some a ∧
    ∀ e, aliases.find? (fun x => x.aliasNo == a.aliasNo) = some e → e.link ≠ c
  (v.rationed = false → w = v) ∧
  (v.rationed = true →
    (write = none ∨ ¬noAlias → w = { v with rationed := false, pendingByte := write }) ∧
    (write ≠ none → noAlias → w = { v with
      rationed := false, lastByte := some .restore, pendingByte := none, failedWrites := bump v.failedWrites }))

/-- A link that is not UP leaves a write that it could send pending. -/
theorem askRation_down {s : State} {c : Fin 4} (hdown : (s.link c).state ≠ .up)
    (h : (s.channel c).pendingByte = none ∨ ¬∃ a, (s.channel c).policy.action = some a ∧
      ∀ e, s.findAlias a.aliasNo = some e → e.link ≠ c) : s.askRation c = s := by
  cases hw : (s.channel c).pendingByte with
  | none => exact askRation_idle hw
  | some w =>
    cases ha : (s.channel c).policy.action with
    | none => exact askRation_noAction ha
    | some a =>
      have hno := h.resolve_left (by simp [hw])
      have halias : ∃ e, s.findAlias a.aliasNo = some e ∧ e.link = c := by
        by_contra hcontra
        exact hno ⟨a, ha, fun e he hl => hcontra ⟨e, he, hl⟩⟩
      obtain ⟨e, he, hl⟩ := halias
      rw [askRation_alias hw ha he hl]
      exact if_neg fun hup => hdown hup.1

/-- The channel as it leaves the rationed set, its RESTORE not yet asked for. -/
def Channel.lifted (v : Channel) : Channel :=
  { v with rationed := false, pendingByte := if v.lastByte = some .restore then none else some .restore }

theorem reration_out {s : State} {c : Fin 4} (hset : s.inRationedSet c = false) (hr : (s.channel c).rationed = true) :
    s.reration c false = (s.modChannel c Channel.lifted).askRation c := by
  rw [reration_change (by rw [hset, hr]; exact Bool.false_ne_true), hset]
  rfl

theorem reration_lifted {s : State} {c : Fin 4} (hset : s.inRationedSet c = false) (hdown : (s.link c).state ≠ .up) :
    RationLifted s.aliases c (s.channel c) ((s.reration c false).channel c) ∧ (s.reration c false).link c = s.link c := by
  by_cases hr : (s.channel c).rationed = true
  swap
  · have hr := Bool.eq_false_iff.mpr hr
    rw [reration_same (hset.trans hr.symm)]
    exact ⟨⟨fun _ => rfl, fun h => absurd (hr.symm.trans h) Bool.false_ne_true⟩, rfl⟩
  have hlifted : (s.modChannel c Channel.lifted).channel c = (s.channel c).lifted := channel_modChannel ..
  rw [reration_out hset hr]
  by_cases h : ((s.channel c).lifted.pendingByte = none ∨ ¬∃ a, (s.channel c).policy.action = some a ∧
      ∀ e, s.findAlias a.aliasNo = some e → e.link ≠ c)
  · have hask := askRation_down (s := s.modChannel c Channel.lifted) (c := c) hdown (by rw [hlifted]; exact h)
    rw [hask, hlifted]
    refine ⟨⟨fun hr' => absurd (hr'.symm.trans hr) Bool.false_ne_true, fun _ => ⟨fun _ => rfl, fun hw ha => ?_⟩⟩, rfl⟩
    exact absurd h (not_or.mpr ⟨hw, not_not.mpr ha⟩)
  · obtain ⟨hw, ha⟩ := not_or.mp h
    obtain ⟨a, ha, hnone⟩ := not_not.mp ha
    have hrestore : (s.channel c).lifted.pendingByte = some .restore := (ite_eq_or_eq ..).resolve_left hw
    rw [askRation_noAlias (s := s.modChannel c Channel.lifted) (w := .restore) (a := a) (by rw [hlifted]; exact hrestore)
      (by rw [hlifted]; exact ha) hnone, channel_modChannel, hlifted]
    refine ⟨⟨fun hr' => absurd (hr'.symm.trans hr) Bool.false_ne_true, fun _ => ⟨fun hor => ?_, fun _ _ => rfl⟩⟩, rfl⟩
    exact absurd hor (not_or.mpr ⟨hw, not_not.mpr ⟨a, ha, hnone⟩⟩)

end Sys2Proof.Machine
end

section
/-! PROOF of SleepEntry (O15). -/

namespace Sys2Proof.Machine

open Sys2Proof.Claims

/-! ### An output and a stream sleep (R22, R46, R72, R91, R191) -/

/-- What sleep entry makes of an output, its tier apart. -/
def AsleepOutput (v w : Output) : Prop :=
  w.route = v.route ∧ w.stagedRoute = v.stagedRoute ∧ w.timing = v.timing ∧ w.stagedTiming = v.stagedTiming ∧
  w.lastShown = v.lastShown ∧ w.starts = v.starts ∧ w.lockOn = v.lockOn ∧ w.lockTarget = v.lockTarget ∧
  w.comparisons = v.comparisons ∧ w.unchanged = v.unchanged ∧
  w.context = v.context.map (fun c => { c with freshness := .waiting, age := none, queue := [] }) ∧
  (v.state = .off → w.state = .off) ∧ (∀ r, v.state = .suspended r → w.state = .suspended r) ∧
  (v.state = .paused → w.state = .suspended .paused) ∧
  (v.state = .scanning ∨ v.state = .hold → w.state = .suspended .scanning) ∧
  (v.state.running = true → w.current = none ∧ w.content = .background ∧
    (v.lockOn = true → w.lock = .seeking ∧ w.goodLocks = 0 ∧ w.badLocks = 0 ∧ w.phaseError = 0))

/-- An output stopped and suspended. -/
def Output.suspend (v : Output) (resume : OutputState) : Output := { v.stop.seekQuietly with state := resume }

theorem suspend_fields (v : Output) (state : OutputState) : let w := v.suspend state
    w.route = v.route ∧ w.stagedRoute = v.stagedRoute ∧ w.timing = v.timing ∧ w.stagedTiming = v.stagedTiming ∧
    w.lastShown = v.lastShown ∧ w.starts = v.starts ∧ w.lockOn = v.lockOn ∧ w.lockTarget = v.lockTarget ∧
    w.comparisons = v.comparisons ∧ w.unchanged = v.unchanged ∧ w.context = v.context ∧ w.state = state ∧
    w.current = none ∧ w.content = .background ∧
    (v.lockOn = true → w.lock = .seeking ∧ w.goodLocks = 0 ∧ w.badLocks = 0 ∧ w.phaseError = 0) := by
  unfold Output.suspend Output.seekQuietly Output.stop
  cases hlock : v.lockOn <;> simp [Output.seek]

theorem sleep_asleep (v : Output) : AsleepOutput v { v.sleep with context := v.sleep.context.map Context.sleep } := by
  have hsuspend (state : OutputState) (hsleep : v.sleep = v.suspend state)
      (hstate : (v.state = .paused → state = .suspended .paused) ∧
        (v.state = .scanning ∨ v.state = .hold → state = .suspended .scanning)) (hrunning : v.state.running = true) :
      AsleepOutput v { v.sleep with context := v.sleep.context.map Context.sleep } := by
    obtain ⟨hroute, hstaged, htiming, hstagedTiming, hshown, hstarts, hlock, htarget, hcomparisons, hunchanged, hcontext,
      hto, hcurrent, hcontent, hseek⟩ := suspend_fields v state
    rw [hsleep]
    refine ⟨hroute, hstaged, htiming, hstagedTiming, hshown, hstarts, hlock, htarget, hcomparisons, hunchanged,
      congrArg (Option.map Context.sleep) hcontext, fun h => ?_, fun r h => ?_, fun h => hto.trans (hstate.1 h),
      fun h => hto.trans (hstate.2 h), fun _ => ⟨hcurrent, hcontent, hseek⟩⟩
    · rw [h] at hrunning
      cases hrunning
    · rw [h] at hrunning
      cases hrunning
  have hstopped (hsleep : v.sleep = v) (h : v.state = .off ∨ ∃ r, v.state = .suspended r) :
      AsleepOutput v { v.sleep with context := v.sleep.context.map Context.sleep } := by
    rw [hsleep]
    refine ⟨rfl, rfl, rfl, rfl, rfl, rfl, rfl, rfl, rfl, rfl, rfl, id, fun _ => id, fun hp => ?_, fun hp => ?_, fun hp => ?_⟩
    all_goals
      obtain h | ⟨r, h⟩ := h
      all_goals simp [h, OutputState.running] at hp
  cases h : v.state with
  | off => exact hstopped (by rw [Output.sleep, h]) (.inl h)
  | suspended r => exact hstopped (by rw [Output.sleep, h]) (.inr ⟨r, h⟩)
  | paused => exact hsuspend (.suspended .paused) (by rw [Output.sleep, h]; rfl) (by simp [h]) (by rw [h]; rfl)
  | scanning => exact hsuspend (.suspended .scanning) (by rw [Output.sleep, h]; rfl) (by simp [h]) (by rw [h]; rfl)
  | hold => exact hsuspend (.suspended .scanning) (by rw [Output.sleep, h]; rfl) (by simp [h]) (by rw [h]; rfl)

theorem suspended_asleep (s : State) (o : Fin 4) : AsleepOutput (s.output o) (s.suspended.output o) := by
  rw [suspended_output]
  exact sleep_asleep _

theorem suspended_emptied (s : State) (o : Fin 4) : (s.suspended.output o).emptied = s.suspended.output o := by
  rw [suspended_output, Output.emptied, Option.map_map]
  rfl

theorem suspended_tier (s : State) (o : Fin 4) : (s.suspended.output o).tier = (s.output o).tier := by
  obtain ⟨-, -, htier, -⟩ := (s.output o).sleep_fields
  rw [suspended_output]
  exact htier

theorem retained_iff (r : Stream) : r.retained = true ↔
    r.config.kind = .still ∧ r.config.retain = true ∧ r.state = .fixed := by
  simp [Stream.retained, and_assoc]

theorem stream_sleep_eq (r : Stream) : r.sleep = if r.config.kind = .still ∧ r.config.retain = true ∧ r.state = .fixed then r
    else { r with state := .idle, latest := none, slots := r.slots.map (fun _ => Slot.empty) } := by
  unfold Stream.sleep
  by_cases h : r.retained = true
  · rw [if_pos h, if_pos ((retained_iff r).mp h)]
  · rw [if_neg h, if_neg (mt (retained_iff r).mpr h)]

theorem suspended_stream (s : State) (i : Fin 8) : s.suspended.stream i = (s.stream i).map Stream.sleep := by
  simp [State.suspended, State.stream]

/-- The bytes of a retained stream stay. -/
theorem suspended_store {s : State} {i : Fin 8} {j : Fin 4} {r : Stream} {a : Nat} (hr : s.stream i = some r)
    (hretained : r.retained = true) (hseg : s.segments.getD (a / 4194304) none = some ⟨i, j⟩) :
    storeByte s.suspended.store a = storeByte s.store a := by
  refine storeByte_filter s.store (fun x => s.segmentRetained (x / Config.segmentBytes)) a ?_
  have hkept : s.segmentRetained (a / 4194304) = true := by
    unfold State.segmentRetained
    rw [hseg]
    dsimp only
    rw [hr]
    exact hretained
  exact hkept

/-! ### The order of sleep entry (R202) -/

/-- The part as its links begin to sleep. -/
def State.asleepBegun (s : State) : State := s.suspended.post .modeChanged 0

@[irreducible] def State.linksAsleep (s : State) : State := forEach allFour (fun l t => t.linkSleep l) s.asleepBegun

theorem linksAsleep_eq (s : State) : s.linksAsleep = forEach allFour (fun l t => t.linkSleep l) s.asleepBegun := by
  rw [State.linksAsleep]

@[irreducible] def State.channelsAsleep (s : State) : State := forEach allFour (fun c t => t.channelSleep c) s.linksAsleep

theorem channelsAsleep_eq (s : State) : s.channelsAsleep = forEach allFour (fun c t => t.channelSleep c) s.linksAsleep := by
  rw [State.channelsAsleep]

/-- The part with its channels asleep and the timers of its budget stopped. -/
def State.untimed (s : State) : State := { s.channelsAsleep with overTimer := none, underTimer := none }

/-- The change of the blocks that sleep link by link and channel by channel. -/
def BlocksOnly (s t : State) : Prop :=
  ∃ os ls cs ns, t = { s with outputs := os, links := ls, channels := cs, notices := ns }

theorem BlocksOnly.refl (s : State) : BlocksOnly s s := ⟨s.outputs, s.links, s.channels, s.notices, rfl⟩

theorem BlocksOnly.trans {s t u : State} (h : BlocksOnly s t) (g : BlocksOnly t u) : BlocksOnly s u := by
  obtain ⟨os, ls, cs, ns, rfl⟩ := h
  obtain ⟨os', ls', cs', ns', rfl⟩ := g
  exact ⟨os', ls', cs', ns', rfl⟩

theorem asleepBegun_only (s : State) : BlocksOnly s.suspended s.asleepBegun := by
  obtain ⟨ns, hpost⟩ := post_eq s.suspended .modeChanged 0
  exact ⟨_, _, _, ns, hpost⟩

theorem linksAsleep_only (s : State) : BlocksOnly s.suspended s.linksAsleep := by
  rw [linksAsleep_eq]
  exact (asleepBegun_only s).trans (forEach_keeps (R := BlocksOnly) .refl (fun _ _ _ => .trans) (fun l s => by
    obtain ⟨w, os, pb, lb, fl, ns, h⟩ := linkSleep_only s l
    exact ⟨_, _, _, _, h⟩) allFour _)

theorem channelsAsleep_only (s : State) : BlocksOnly s.suspended s.channelsAsleep := by
  rw [channelsAsleep_eq]
  exact (linksAsleep_only s).trans (forEach_keeps (R := BlocksOnly) .refl (fun _ _ _ => .trans) (fun c s => by
    obtain ⟨v, ns, h, -⟩ := channelSleep_eq s c
    exact ⟨_, _, _, _, h⟩) allFour _)

theorem linksAsleep_level (s : State) : s.linksAsleep.level = s.level := by
  obtain ⟨os, ls, cs, ns, h⟩ := linksAsleep_only s
  exact (congrArg State.level h :)

theorem sleepEntry_untimed (s : State) :
    s.sleepEntry = if s.level = 0 then s.untimed else s.untimed.setLevel 0 none := by
  rw [State.untimed, channelsAsleep_eq, ← linksAsleep_level, linksAsleep_eq]
  exact sleepEntry_eq s

theorem sleepEntry_unleveled {s : State} (h : s.level = 0) : s.sleepEntry = s.untimed := by
  rw [sleepEntry_untimed, if_pos h]

theorem sleepEntry_leveled {s : State} (h : s.level ≠ 0) : s.sleepEntry = s.untimed.setLevel 0 none := by
  rw [sleepEntry_untimed, if_neg h]

/-- The parts that sleep entry leaves as they are, or sets outright. -/
theorem sleepEntry_only (s : State) : ∃ os ls cs ns, s.sleepEntry = { s.suspended with
    outputs := os, links := ls, channels := cs, notices := ns, level := 0, overTimer := none, underTimer := none } := by
  obtain ⟨os, ls, cs, ns, honly⟩ := channelsAsleep_only s
  by_cases h : s.level = 0
  · refine ⟨os, ls, cs, ns, ?_⟩
    rw [sleepEntry_unleveled h, State.untimed, honly, ← h]
    rfl
  · obtain ⟨cs', ls', hration⟩ := (setLevel_rationOnly s.untimed 0 none).parts
    obtain ⟨ns', hpost⟩ := post_eq { s.untimed with level := 0 } .powerBudget 0
    refine ⟨os, ls', cs', ns', ?_⟩
    rw [sleepEntry_leveled h, hration, hpost, State.untimed, honly]

/-! ### Output, link and channel n -/

theorem Elsewhere.tierNow {n : Fin 4} {s t : State} (h : Elsewhere n s t) : t.tierNow n = s.tierNow n := by
  rw [State.tierNow, State.tierNow, h.output, h.same.2]

section
variable (s : State) (n : Fin 4)

theorem asleepBegun_sameAt : SameAt n s s.asleepBegun := ⟨channel_post .., link_post ..⟩

/-- The visit to link n as the part sleeps. -/
theorem linksAsleep_at : ∃ x, SameAt n s x ∧ x.output n = s.suspended.output n ∧ Elsewhere n s.asleepBegun x ∧
    Elsewhere n (x.linkSleep n) s.linksAsleep := by
  rw [linksAsleep_eq]
  obtain ⟨x, hx, hend⟩ := forEach_allFour_visits (R := Elsewhere) (f := fun l t => t.linkSleep l) .refl
    (fun _ _ _ _ => .trans) (fun _ _ s hm => linkSleep_elsewhere s hm) n s.asleepBegun
  exact ⟨x, (asleepBegun_sameAt s n).trans hx.same, hx.output.trans (output_post ..), hx, hend⟩

theorem linksAsleep_link : AsleepLink (s.link n) ((s.handed n).link n) (s.linksAsleep.link n) := by
  obtain ⟨x, hsame, -, -, hend⟩ := linksAsleep_at s n
  have hasleep := linkSleep_asleep x n
  rwa [hsame.2, (handed_sameAt hsame).2, ← hend.same.2] at hasleep

theorem linksAsleep_channel : s.linksAsleep.channel n = (s.handed n).channel n := by
  obtain ⟨x, hsame, -, -, hend⟩ := linksAsleep_at s n
  rw [hend.same.1, linkSleep_channel, (handed_sameAt hsame).1]

theorem linksAsleep_output : s.linksAsleep.output n = { s.suspended.output n with
    tier := if (s.link n).state = .disabled then (s.output n).tier else s.linksAsleep.tierNow n } := by
  obtain ⟨x, hsame, hout, -, hend⟩ := linksAsleep_at s n
  have houtput := linkSleep_output (s := x) (l := n) (by rw [hout]; exact suspended_emptied s n)
  rw [hout, hsame.2, suspended_tier, ← hend.tierNow, ← hend.output] at houtput
  exact houtput

/-- The visit to channel n as the part sleeps. -/
theorem channelsAsleep_at : ∃ x, Elsewhere n s.linksAsleep x ∧ Elsewhere n (x.channelSleep n) s.channelsAsleep := by
  rw [channelsAsleep_eq]
  exact forEach_allFour_visits (R := Elsewhere) (f := fun c t => t.channelSleep c) .refl (fun _ _ _ _ => .trans)
    (fun _ _ s hm => channelSleep_elsewhere s hm) n s.linksAsleep

theorem channelsAsleep_rest : s.channelsAsleep.links = s.linksAsleep.links ∧ s.channelsAsleep.outputs = s.linksAsleep.outputs := by
  rw [channelsAsleep_eq]
  exact forEach_keeps (R := fun s t => t.links = s.links ∧ t.outputs = s.outputs) (fun _ => ⟨rfl, rfl⟩)
    (fun _ _ _ h g => ⟨g.1.trans h.1, g.2.trans h.2⟩) (fun c s => channelSleep_rest s c) allFour _

theorem channelsAsleep_channel : s.channelsAsleep.channel n = ((s.handed n).channel n).slept := by
  obtain ⟨x, hx, hend⟩ := channelsAsleep_at s n
  rw [hend.same.1, channelSleep_channel, hx.same.1, linksAsleep_channel]

/-- What the end of rationing finds and leaves at number n. -/
theorem leveled_at (hoff : (s.link n).state ≠ .up) :
    RationLifted s.aliases n (s.channel n) ((s.setLevel 0 none).channel n) ∧ (s.setLevel 0 none).link n = s.link n := by
  obtain ⟨ns, hpost⟩ := post_eq { s with level := 0 } .powerBudget 0
  obtain ⟨x, hration, hsame, hend⟩ := forEach_at_kept (R := RationOnly)
    (f := fun c t => t.reration c (none == some c)) .refl (fun _ _ _ => .trans)
    (fun c s => reration_rationOnly s c _) (reration_visitsOne none) (c := n) (l := allFour) (by decide)
    (by fin_cases n <;> decide) (({ s with level := 0 } : State).post .powerBudget 0)
  have hleveled : SameAt n s (({ s with level := 0 } : State).post .powerBudget 0) := by
    rw [hpost]
    exact ⟨rfl, rfl⟩
  have hat := hleveled.trans hsame
  obtain ⟨cs, ls, hparts⟩ := hration.parts
  have haliases : x.aliases = s.aliases := by rw [hparts, hpost]
  have hset : x.inRationedSet n = false := by
    have hlevel : x.level = 0 := by rw [hparts, hpost]
    rw [State.inRationedSet, hlevel]
    simp
  replace hend : SameAt n (x.reration n false) (s.setLevel 0 none) := hend
  obtain ⟨hlifted, hlink⟩ := reration_lifted hset (by rw [hat.2]; exact hoff)
  rw [haliases, hat.1] at hlifted
  rw [hat.2] at hlink
  exact ⟨by rwa [← hend.1] at hlifted, hend.2.trans hlink⟩

end

/-- What sleep entry makes of a channel; h is the channel that the outcomes of remote requests on its link leave. -/
def AsleepChannel (aliases : List AliasEntry) (level : Nat) (c : Fin 4) (v h w : Channel) : Prop :=
  w.state = .off ∧ w.intent = v.intent ∧ w.policy = v.policy ∧ w.cap = v.cap ∧ w.cause = v.cause ∧
  w.faults = v.faults ∧ w.latched = v.latched ∧ w.waiting = false ∧
  (v.state ≠ .off → w.current = 0 ∧ w.blip = false ∧ w.dischargeTimer = none ∧ w.coolDown = none ∧
    w.activeTimer = none) ∧
  (let failed := h.failedWrites
    let write : Option RationWrite := if v.lastByte = some .restore then none else some .restore
    let noAlias := ∃ a, v.policy.action = some a ∧
      ∀ e, aliases.find? (fun x => x.aliasNo == a.aliasNo) = some e → e.link ≠ c
    (level = 0 ∨ v.rationed = false → w.rationed = v.rationed ∧ w.lastByte = v.lastByte ∧
      w.pendingByte = v.pendingByte ∧ w.failedWrites = failed) ∧
    (level ≠ 0 → v.rationed = true → w.rationed = false ∧
      (write = none ∨ ¬noAlias → w.lastByte = v.lastByte ∧ w.pendingByte = write ∧ w.failedWrites = failed) ∧
      (write ≠ none → noAlias → w.lastByte = some .restore ∧ w.pendingByte = none ∧
        w.failedWrites = bump failed)))

theorem RationLifted.fields {aliases : List AliasEntry} {c : Fin 4} {v w : Channel} (h : RationLifted aliases c v w) :
    ∃ ra pb lb fl, w = { v with rationed := ra, pendingByte := pb, lastByte := lb, failedWrites := fl } ∧
      (v.rationed = true → ra = false) := by
  obtain ⟨hkept, hlifted⟩ := h
  by_cases hr : v.rationed = true
  · obtain ⟨hstays, hfails⟩ := hlifted hr
    by_cases hw : (if v.lastByte = some .restore then none else some RationWrite.restore) = none ∨
        ¬∃ a, v.policy.action = some a ∧ ∀ e, aliases.find? (fun x => x.aliasNo == a.aliasNo) = some e → e.link ≠ c
    · exact ⟨_, _, v.lastByte, v.failedWrites, hstays hw, fun _ => rfl⟩
    · obtain ⟨hw, ha⟩ := not_or.mp hw
      exact ⟨_, _, _, _, hfails hw (not_not.mp ha), fun _ => rfl⟩
  · exact ⟨v.rationed, v.pendingByte, v.lastByte, v.failedWrites, hkept (Bool.eq_false_iff.mpr hr), fun h => absurd h hr⟩

theorem slept_fields (v : Channel) : let w := v.slept
    (w.state = .off ∧ w.intent = v.intent ∧ w.policy = v.policy ∧ w.cap = v.cap ∧ w.cause = v.cause ∧
    w.faults = v.faults ∧ w.latched = v.latched ∧ w.waiting = false) ∧
    (v.state ≠ .off → w.current = 0 ∧ w.blip = false ∧ w.dischargeTimer = none ∧ w.coolDown = none ∧
      w.activeTimer = none) ∧
    w.rationed = v.rationed ∧ w.lastByte = v.lastByte ∧ w.pendingByte = v.pendingByte ∧ w.failedWrites = v.failedWrites := by
  unfold Channel.slept Channel.settle
  by_cases hoff : v.state = .off
  · rw [if_pos hoff]
    exact ⟨⟨hoff, rfl, rfl, rfl, rfl, rfl, rfl, rfl⟩, fun hon => absurd hoff hon, rfl, rfl, rfl, rfl⟩
  · rw [if_neg hoff]
    exact ⟨⟨rfl, rfl, rfl, rfl, rfl, rfl, rfl, rfl⟩, fun _ => ⟨rfl, rfl, rfl, rfl, rfl⟩, rfl, rfl, rfl, rfl⟩

/-- A channel that slept, at budget level 0. -/
theorem slept_asleep {aliases : List AliasEntry} {c : Fin 4} (v : Channel) (failed : Half) :
    AsleepChannel aliases 0 c v { v with failedWrites := failed } ({ v with failedWrites := failed } : Channel).slept := by
  obtain ⟨⟨hstate, hintent, hpolicy, hcap, hcause, hfaults, hlatched, hwaiting⟩, hon, hrationed, hlast, hpending, hfailed⟩ :=
    slept_fields { v with failedWrites := failed }
  exact ⟨hstate, hintent, hpolicy, hcap, hcause, hfaults, hlatched, hwaiting, hon,
    fun _ => ⟨hrationed, hlast, hpending, hfailed⟩, fun h => absurd rfl h⟩

/-- A channel that slept, after the end of rationing. -/
theorem lifted_asleep {aliases : List AliasEntry} {level : Nat} (hlevel : level ≠ 0) {c : Fin 4} (v : Channel)
    (failed : Half) {w : Channel} (h : RationLifted aliases c ({ v with failedWrites := failed } : Channel).slept w) :
    AsleepChannel aliases level c v { v with failedWrites := failed } w := by
  obtain ⟨⟨hstate, hintent, hpolicy, hcap, hcause, hfaults, hlatched, hwaiting⟩, hon, hrationed, hlast, hpending, hfailed⟩ :=
    slept_fields { v with failedWrites := failed }
  generalize ({ v with failedWrites := failed } : Channel).slept = u at *
  have hration := h.fields
  obtain ⟨hkept, hlifted⟩ := h
  dsimp only at hkept hlifted hrationed hlast hpolicy hpending hfailed
  rw [hlast, hpolicy, hrationed] at hlifted
  rw [hrationed] at hkept
  have hfields : w.state = .off ∧ w.intent = v.intent ∧ w.policy = v.policy ∧ w.cap = v.cap ∧ w.cause = v.cause ∧
      w.faults = v.faults ∧ w.latched = v.latched ∧ w.waiting = false ∧
      (v.state ≠ .off → w.current = 0 ∧ w.blip = false ∧ w.dischargeTimer = none ∧ w.coolDown = none ∧
        w.activeTimer = none) := by
    obtain ⟨ra, pb, lb, fl, rfl, -⟩ := hration
    exact ⟨hstate, hintent, hpolicy, hcap, hcause, hfaults, hlatched, hwaiting, hon⟩
  obtain ⟨wstate, wintent, wpolicy, wcap, wcause, wfaults, wlatched, wwaiting, won⟩ := hfields
  refine ⟨wstate, wintent, wpolicy, wcap, wcause, wfaults, wlatched, wwaiting, won, fun h => ?_, fun _ hr => ?_⟩
  · rw [hkept (h.resolve_left hlevel)]
    exact ⟨hrationed, hlast, hpending, hfailed⟩
  · obtain ⟨hstays, hfails⟩ := hlifted hr
    have hout : w.rationed = false := by
      obtain ⟨ra, pb, lb, fl, rfl, hra⟩ := hration
      exact hra (hrationed.trans hr)
    refine ⟨hout, fun h => ?_, fun hw ha => ?_⟩
    · rw [hstays h]
      exact ⟨rfl, rfl, hfailed⟩
    · rw [hfails hw ha]
      exact ⟨rfl, rfl, congrArg bump hfailed⟩

end Sys2Proof.Machine
end

section
/-! PROOF of SleepEntry (O15), continued: the parts of the state after sleep entry, and the notices it posts. -/

namespace Sys2Proof.Machine

open Sys2Proof.Claims

/-! ### The parts after sleep entry -/

section
variable (s : State) (n : Fin 4)

theorem untimed_link : s.untimed.link n = s.linksAsleep.link n :=
  congrArg (fun ls : Four Link => ls.get n) (channelsAsleep_rest s).1

theorem untimed_down : (s.untimed.link n).state ≠ .up := by
  rw [untimed_link, (linksAsleep_link s n).1]
  nofun

theorem untimed_aliases : s.untimed.aliases = s.aliases := by
  obtain ⟨os, ls, cs, ns, h⟩ := channelsAsleep_only s
  exact (congrArg State.aliases h :)

theorem sleepEntry_link : s.sleepEntry.link n = s.linksAsleep.link n := by
  by_cases h : s.level = 0
  · rw [sleepEntry_unleveled h, untimed_link]
  · rw [sleepEntry_leveled h, (leveled_at s.untimed n (untimed_down s n)).2, untimed_link]

theorem sleepEntry_output : s.sleepEntry.output n = s.linksAsleep.output n := by
  have houtputs : s.sleepEntry.outputs = s.linksAsleep.outputs := by
    rw [← (channelsAsleep_rest s).2]
    by_cases h : s.level = 0
    · rw [sleepEntry_unleveled h, State.untimed]
    · obtain ⟨cs, ls, hration⟩ := (setLevel_rationOnly s.untimed 0 none).parts
      obtain ⟨ns, hpost⟩ := post_eq { s.untimed with level := 0 } .powerBudget 0
      rw [sleepEntry_leveled h, hration, hpost, State.untimed]
  exact congrArg (fun os : Four Output => os.get n) houtputs

theorem sleepEntry_channel :
    AsleepChannel s.aliases s.level n (s.channel n) ((s.handed n).channel n) (s.sleepEntry.channel n) := by
  obtain ⟨failed, hchannel⟩ := handed_channel s n
  have hslept : s.untimed.channel n = ((s.handed n).channel n).slept := channelsAsleep_channel s n
  by_cases h : s.level = 0
  · rw [sleepEntry_unleveled h, hslept, hchannel, h]
    exact slept_asleep _ _
  · have hlifted := (leveled_at s.untimed n (untimed_down s n)).1
    rw [untimed_aliases, hslept, hchannel] at hlifted
    rw [sleepEntry_leveled h, hchannel]
    exact lifted_asleep h _ _ hlifted

theorem sleepEntry_tier : (s.sleepEntry.output n).tier =
    if (s.link n).state = .disabled then (s.output n).tier else s.sleepEntry.tierNow n := by
  have htier : s.sleepEntry.tierNow n = s.linksAsleep.tierNow n := by
    rw [State.tierNow, State.tierNow, sleepEntry_output, sleepEntry_link]
  rw [htier, sleepEntry_output]
  exact congrArg Output.tier (linksAsleep_output s n)

theorem sleepEntry_asleepOutput : AsleepOutput (s.output n) (s.sleepEntry.output n) := by
  rw [sleepEntry_output, linksAsleep_output]
  exact suspended_asleep s n

/-! ### The notices of sleep entry (R202) -/

variable (k : NoticeKind)

theorem asleepBegun_tally (object : Nat) :
    Tally k object (k = .modeChanged ∧ object = 0) s.suspended s.asleepBegun :=
  (Counted.ofPost s.suspended .modeChanged 0).tally k object

theorem channelsAsleep_tally :
    Tally k n.val (k = .powerState ∧ (s.channel n).state ≠ .off) s.linksAsleep s.channelsAsleep := by
  obtain ⟨x, hx, hend⟩ := channelsAsleep_at s n
  obtain ⟨failed, hchannel⟩ := handed_channel s n
  have hstate : (x.channel n).state = (s.channel n).state := by rw [hx.same.1, linksAsleep_channel, hchannel]
  have hsleep := channelSleep_tally x n k n.val
  rw [hstate] at hsleep
  refine ((hsleep.after_none (hx.tally k)).then_none (hend.tally k)).congr ?_
  simp

theorem sleepEntry_tally (object : Nat) :
    Tally k object (k = .powerBudget ∧ s.level ≠ 0 ∧ object = 0) s.channelsAsleep s.sleepEntry := by
  have huntimed : Tally k object False s.channelsAsleep s.untimed := .none rfl rfl rfl
  by_cases h : s.level = 0
  · rw [sleepEntry_unleveled h]
    exact huntimed.congr (iff_of_false id fun hp => hp.2.1 h)
  · obtain ⟨cs, ls, hration⟩ := (setLevel_rationOnly s.untimed 0 none).parts
    have hleveled : Tally k object False s.untimed { s.untimed with level := 0 } := .none rfl rfl rfl
    have hpost := (Counted.ofPost { s.untimed with level := 0 } .powerBudget 0).tally k object
    have hlifted : Tally k object False (({ s.untimed with level := 0 } : State).post .powerBudget 0)
        (s.untimed.setLevel 0 none) := by
      rw [hration]
      exact .none rfl rfl rfl
    rw [sleepEntry_leveled h]
    exact (((hpost.after_none hleveled).after_none huntimed).then_none hlifted).congr
      ⟨fun hp => ⟨hp.1, h, hp.2⟩, fun hp => ⟨hp.1, hp.2.2⟩⟩

/-- The state that link n is found in, and what its own sleep posts. -/
theorem linksAsleep_tally : ∃ x, SameAt n s x ∧ Tally k n.val False s.asleepBegun x ∧
    Tally k n.val ((s.link n).state ≠ .disabled ∧
      (k = .linkState ∨ (k = .outputTier ∧ (s.sleepEntry.output n).tier ≠ (s.output n).tier))) (x.handed n) s.linksAsleep := by
  obtain ⟨x, hsame, hout, hx, hend⟩ := linksAsleep_at s n
  have hsleep := linkSleep_tally x n k
  rw [hsame.2, hout, suspended_tier, ← hend.output, ← sleepEntry_output] at hsleep
  exact ⟨x, hsame, hx.tally k, hsleep.then_none (hend.tally k)⟩

/-- Does sleep entry post a kind for number n? -/
def SleepPosts (before t : State) (k : NoticeKind) (n : Fin 4) : Prop :=
  (k = .linkState ∧ (before.link n).state ≠ .disabled) ∨
  (k = .outputTier ∧ (t.output n).tier ≠ (before.output n).tier) ∨
  (k = .powerState ∧ (before.channel n).state ≠ .off) ∨
  (n = 0 ∧ (k = .modeChanged ∨ (k = .powerBudget ∧ before.level ≠ 0)))

/-- The postings in the order of sleep entry, as SleepPosts lists them. -/
theorem posts_iff {changed zero lit link tier other power on budget level : Prop} (hlit : other → lit) :
    (((changed ∧ zero) ∨ (lit ∧ (link ∨ (tier ∧ other)))) ∨ (power ∧ on)) ∨ (budget ∧ level ∧ zero) ↔
      (link ∧ lit) ∨ (tier ∧ other) ∨ (power ∧ on) ∨ (zero ∧ (changed ∨ (budget ∧ level))) := by
  tauto

theorem sleepEntry_posts (hk : k ≠ .remoteDone) :
    Tally k n.val (SleepPosts s s.sleepEntry k n) s.suspended s.sleepEntry := by
  obtain ⟨x, -, hx, hsleep⟩ := linksAsleep_tally s n k
  have hlinks := (hsleep.after_none (handed_tally x n (.inl hk))).after_none hx
  have hkind {a b : NoticeKind} (hab : a ≠ b) (ha : k = a) (hb : k = b) : False := hab (ha.symm.trans hb)
  have hbegun := (asleepBegun_tally s k n.val).trans hlinks fun hm hl => by
    obtain h | ⟨h, -⟩ := hl.2
    · exact hkind (by decide) hm.1 h
    · exact hkind (by decide) hm.1 h
  have hchannels := hbegun.trans (channelsAsleep_tally s n k) fun hl hp => by
    obtain h | ⟨-, h | ⟨h, -⟩⟩ := hl
    · exact hkind (by decide) h.1 hp.1
    · exact hkind (by decide) h hp.1
    · exact hkind (by decide) h hp.1
  have hall := hchannels.trans (sleepEntry_tally s k n.val) fun hl hb => by
    obtain (h | ⟨-, h | ⟨h, -⟩⟩) | h := hl
    · exact hkind (by decide) h.1 hb.1
    · exact hkind (by decide) h hb.1
    · exact hkind (by decide) h hb.1
    · exact hkind (by decide) h.1 hb.1
  have hlit (h : (s.sleepEntry.output n).tier ≠ (s.output n).tier) : (s.link n).state ≠ .disabled := fun hd => by
    rw [sleepEntry_tier, if_pos hd] at h
    exact h rfl
  have hzero : n.val = 0 ↔ n = 0 := ⟨fun h => Fin.ext h, fun h => congrArg Fin.val h⟩
  have hposts := posts_iff (changed := k = .modeChanged) (link := k = .linkState) (tier := k = .outputTier)
    (power := k = .powerState) (on := (s.channel n).state ≠ .off) (budget := k = .powerBudget) (level := s.level ≠ 0)
    (zero := n = 0) hlit
  rw [← hzero] at hposts
  unfold SleepPosts
  rw [← hzero]
  exact hall.congr hposts

end

end Sys2Proof.Machine
end

section
/-! PROOF of SleepEntry (O15), its end: REMOTE_DONE, the objects that no block names, and the statement. -/

namespace Sys2Proof.Machine

open Sys2Proof.Claims

/-- Sleep entry posts REMOTE_DONE as the outcomes of remote requests do, and not otherwise. -/
theorem sleepEntry_done {s : State} (n : Fin 4) (hok : NoticesOk s) (hmode : s.mode ≠ .init) :
    countOf s.sleepEntry.notices .remoteDone n.val = countOf (s.handed n).notices .remoteDone n.val := by
  obtain ⟨x, hsame, hx, hsleep⟩ := linksAsleep_tally s n .remoteDone
  have hbegun : Tally .remoteDone n.val False s.suspended s.asleepBegun :=
    (asleepBegun_tally s .remoteDone n.val).congr (iff_false_intro fun hp => nomatch hp.1)
  have hfound := hbegun.then_none hx
  have halike : AlikeDone n s x :=
    ⟨hfound.mask, ⟨hmode, by rw [hfound.mode]; exact (nofun : Mode.sleep ≠ .init)⟩, ⟨hok, hfound.ok hok⟩, hfound.keeps hok⟩
  have hhanded := halike.handed hsame.2
  have hlinks := hsleep.congr (Q := False) (iff_false_intro fun hp => hp.2.elim (fun h => nomatch h) (fun h => nomatch h.1))
  have hchannels := (channelsAsleep_tally s n .remoteDone).congr (Q := False) (iff_false_intro fun hp => nomatch hp.1)
  have hlevel := (sleepEntry_tally s .remoteDone n.val).congr (Q := False) (iff_false_intro fun hp => nomatch hp.1)
  exact (((hlinks.then_none hchannels).then_none hlevel).keeps hhanded.ok.2).trans hhanded.count

/-- Sleep entry posts nothing of an object beyond the four. -/
theorem sleepEntry_beyond (s : State) (k : NoticeKind) {object : Nat} (h : 3 < object) :
    Tally k object False s.suspended s.sleepEntry := by
  have hne (n : Fin 4) : object ≠ n.val := by omega
  have hbegun := (asleepBegun_tally s k object).congr (Q := False) (iff_false_intro fun hp => hne 0 hp.2)
  have hlinks : Tally k object False s.asleepBegun s.linksAsleep := by
    rw [linksAsleep_eq]
    exact forEach_keeps (R := Tally k object False) .refl (fun _ _ _ => .then_none)
      (fun l s => linkSleep_tally_ne s l k (hne l)) allFour _
  have hchannels : Tally k object False s.linksAsleep s.channelsAsleep := by
    rw [channelsAsleep_eq]
    exact forEach_keeps (R := Tally k object False) .refl (fun _ _ _ => .then_none)
      (fun c s => (channelSleep_tally s c k object).congr (iff_false_intro fun hp => hne c hp.2.2)) allFour _
  have hlevel := (sleepEntry_tally s k object).congr (Q := False) (iff_false_intro fun hp => hne 0 hp.2.2)
  exact ((hbegun.then_none hlinks).then_none hchannels).then_none hlevel

/-- The notices of sleep entry; handed is what the outcomes of remote requests leave at each link. -/
def AsleepNotices (before : State) (handed : Fin 4 → State) (t : State) : Prop :=
  NoticesOk before → before.mode ≠ .init → NoticesOk t ∧
    ∀ kind : NoticeKind, (∀ object, 3 < object → countOf t.notices kind object = countOf before.notices kind object) ∧
      ∀ n : Fin 4,
        (SleepPosts before t kind n → before.masked kind = false →
          countOf t.notices kind n.val = min 255 (countOf before.notices kind n.val + 1)) ∧
        (¬(SleepPosts before t kind n ∧ before.masked kind = false) →
          countOf t.notices kind n.val = countOf (handed n).notices kind n.val)

theorem sleepEntry_notices (s : State) : AsleepNotices s s.handed s.sleepEntry := by
  intro hok hmode
  have hsleeps : s.suspended.mode ≠ .init := (nofun : Mode.sleep ≠ .init)
  refine ⟨(sleepEntry_beyond s .linkState (Nat.lt_succ_self 3)).ok hok, fun k =>
    ⟨fun object h => (sleepEntry_beyond s k h).keeps hok, fun n => ?_⟩⟩
  by_cases hk : k = .remoteDone
  · subst hk
    refine ⟨fun hp _ => ?_, fun _ => sleepEntry_done n hok hmode⟩
    obtain h | h | h | ⟨-, h | h⟩ := hp
    · cases h.1
    · cases h.1
    · cases h.1
    · cases h
    · cases h.1
  · have hposts := sleepEntry_posts s n k hk
    refine ⟨fun hp hmask => hposts.posted hok hp hsleeps hmask, fun hnot => ?_⟩
    rw [(handed_tally s n (.inl hk)).keeps hok]
    exact hposts.kept hok fun hp => hnot ⟨hp.1, hp.2.2⟩

/-- The part asleep. -/
def Asleep (before : State) (handed : Fin 4 → State) (t : State) : Prop :=
  t.mode = .sleep ∧ t.attn = false ∧ t.wakeWindow = none ∧ t.segments = before.segments ∧
  t.aliases = before.aliases ∧ t.mask = before.mask ∧ t.thermal = before.thermal ∧ t.stray = before.stray ∧
  (∀ i r, before.stream i = some r → t.stream i =
    some (if r.config.kind = .still ∧ r.config.retain = true ∧ r.state = .fixed then r
      else { r with state := .idle, latest := none, slots := r.slots.map (fun _ => Slot.empty) })) ∧
  (∀ i, before.stream i = none → t.stream i = none) ∧
  (∀ i j r a, before.stream i = some r → r.config.kind = .still → r.config.retain = true → r.state = .fixed →
    before.segments.getD (a / 4194304) none = some ⟨i, j⟩ → storeByte t.store a = storeByte before.store a) ∧
  (∀ o, let v := before.output o
    let w := t.output o
    w.route = v.route ∧ w.stagedRoute = v.stagedRoute ∧ w.timing = v.timing ∧ w.stagedTiming = v.stagedTiming ∧
    w.lastShown = v.lastShown ∧ w.starts = v.starts ∧ w.lockOn = v.lockOn ∧ w.lockTarget = v.lockTarget ∧
    w.comparisons = v.comparisons ∧ w.unchanged = v.unchanged ∧
    w.tier = (if (before.link o).state = .disabled then v.tier else t.tierNow o) ∧
    w.context = v.context.map (fun c => { c with freshness := .waiting, age := none, queue := [] }) ∧
    (v.state = .off → w.state = .off) ∧ (∀ r, v.state = .suspended r → w.state = .suspended r) ∧
    (v.state = .paused → w.state = .suspended .paused) ∧
    (v.state = .scanning ∨ v.state = .hold → w.state = .suspended .scanning) ∧
    (v.state.running = true → w.current = none ∧ w.content = .background ∧
      (v.lockOn = true → w.lock = .seeking ∧ w.goodLocks = 0 ∧ w.badLocks = 0 ∧ w.phaseError = 0))) ∧
  (∀ l, AsleepLink (before.link l) ((handed l).link l) (t.link l)) ∧
  (∀ c, AsleepChannel before.aliases before.level c (before.channel c) ((handed c).channel c) (t.channel c)) ∧
  t.level = 0 ∧ t.overTimer = none ∧ t.underTimer = none ∧ t.budget = before.budget ∧
  t.boostThreshold = before.boostThreshold ∧ AsleepNotices before handed t

theorem sleepEntry_asleep (s : State) : Asleep s s.handed s.sleepEntry := by
  obtain ⟨os, ls, cs, ns, honly⟩ := sleepEntry_only s
  have hstream (i : Fin 8) : s.sleepEntry.stream i = (s.stream i).map Stream.sleep :=
    (congrArg (fun t : State => t.stream i) honly).trans (suspended_stream s i)
  have hstore : s.sleepEntry.store = s.suspended.store := (congrArg State.store honly :)
  have hmode : s.sleepEntry.mode = .sleep := (congrArg State.mode honly :)
  refine ⟨hmode, by simp [State.attn, hmode], (congrArg State.wakeWindow honly :), (congrArg State.segments honly :),
    (congrArg State.aliases honly :), (congrArg State.mask honly :), (congrArg State.thermal honly :),
    (congrArg State.stray honly :), fun i r hr => ?_, fun i hr => ?_, fun i j r a hr hkind hretain hfixed hseg => ?_,
    fun o => ?_, fun l => ?_, sleepEntry_channel s, (congrArg State.level honly :), (congrArg State.overTimer honly :),
    (congrArg State.underTimer honly :), (congrArg State.budget honly :), (congrArg State.boostThreshold honly :),
    sleepEntry_notices s⟩
  · rw [hstream, hr, Option.map_some, stream_sleep_eq]
  · rw [hstream, hr, Option.map_none]
  · rw [hstore]
    exact suspended_store hr ((retained_iff r).mpr ⟨hkind, hretain, hfixed⟩) hseg
  · obtain ⟨hroute, hstaged, htiming, hstagedTiming, hshown, hstarts, hlock, htarget, hcomparisons, hunchanged, hrest⟩ :=
      sleepEntry_asleepOutput s o
    exact ⟨hroute, hstaged, htiming, hstagedTiming, hshown, hstarts, hlock, htarget, hcomparisons, hunchanged,
      sleepEntry_tier s o, hrest⟩
  · rw [sleepEntry_link]
    exact linksAsleep_link s l

/-- What a transmission sets is no part of sleep entry. -/
theorem Asleep.replied {s x t : State} {handed : Fin 4 → State} (k : RequestKind) (tag : Byte) (status : Status)
    (body : List Byte) (h : Asleep (s.driven x) (fun l => (handed l).driven x) t) :
    Asleep s handed (Claims.replied t k tag status body) := h

theorem setModeHandler_toSleep {s : State} (h : s.mode ≠ .sleep) : setModeHandler [3] s = ⟨s.sleepEntry, .ok, []⟩ := by
  rw [setModeHandler_sleep, if_neg h, State.done]

theorem exec_setModeSleep_of_handler {s t : State} (hs : Awake s) {dt : Nat} (tag : Byte)
    (h : setModeHandler [3] (arrived s dt [3]) = ⟨t, .ok, []⟩) :
    exec (.setModeSleep dt tag [3]) s = .next (replied t .setMode tag .ok []) :=
  exec_of_handler (i := .setModeSleep dt tag [3]) (k := .setMode) rfl hs rfl h

theorem exec_setModeSleep {s : State} (hs : Awake s) (dt : Nat) (tag : Byte) :
    exec (.setModeSleep dt tag [3]) s = .next (replied (arrived s dt [3]).sleepEntry .setMode tag .ok []) := by
  have hne : s.mode ≠ .sleep := by
    obtain h | h := hs <;> simp [h]
  exact exec_setModeSleep_of_handler hs tag (setModeHandler_toSleep (s := arrived s dt [3]) hne)

theorem setModeSleep_asleep (s : State) (dt : Nat) (tag : Byte) :
    Asleep (s.elapse dt) (s.elapse dt).handed (replied (arrived s dt [3]).sleepEntry .setMode tag .ok []) := by
  have hasleep := sleepEntry_asleep (arrived s dt [3])
  have hhanded : (arrived s dt [3]).handed = fun l => ((s.elapse dt).handed l).driven (arrived s dt [3]) :=
    funext fun l => handed_driven (s.elapse dt) (arrived s dt [3]) l
  rw [hhanded, arrived_driven] at hasleep
  exact hasleep.replied .setMode tag .ok []

theorem sleepEntry_reply (s : State) : s.sleepEntry.reply = s.reply := by
  obtain ⟨os, ls, cs, ns, honly⟩ := sleepEntry_only s
  exact (congrArg State.reply honly :)

/-- Settles O15. -/
theorem sleepEntry : Obligations.SleepEntry := by
  unfold Obligations.SleepEntry
  intro asleep
  have hasleep {before t : State} (h : Asleep before before.handed t) : asleep before t := h
  refine ⟨fun s dt tag hs => ?setMode, fun s left hleft => ?expiry, fun s hnone => ?idle⟩
  case setMode => exact ⟨_, exec_setModeSleep hs dt tag, rfl, hasleep (setModeSleep_asleep s dt tag)⟩
  case expiry =>
    exact ⟨_, congrArg Host.Outcome.next (onExpiry_of_some hleft State.sleepEntry), sleepEntry_reply (s.elapse left),
      hasleep (sleepEntry_asleep (s.elapse left))⟩
  case idle => exact congrArg Host.Outcome.next (onExpiry_of_none hnone State.sleepEntry)

end Sys2Proof.Machine
end
